-- ==== Sys2Proof/Word.lean ====
section
/-! DEFINITION. The word types of the 2208: the byte of every payload, the 16-bit half word of counters and
checks, and the 48-bit identity. -/

namespace Sys2Proof

/-- A payload, profile or item byte (spec 12.1: bit 7 is the most significant bit). -/
abbrev Byte := BitVec 8

/-- A 16-bit field: a counter (R138), a two-byte payload field, a CRC of the profile memory (R202). -/
abbrev Half := BitVec 16

/-- A station's identity (R203). -/
abbrev Identity := BitVec 48

/-- A frame's four-bit sender position as it stands on the line (chapter 9, section 9.3). -/
abbrev Nibble := BitVec 4

end Sys2Proof
end

