-- ==== Sys2Proof/Syntax.lean ====
section
/-! DEFINITION. The commands of the 2208: one constructor per row of spec/opcode_table.json, in the table's order.
The table gives no operand fields; each command carries what its event brings from outside: the level of a pin, the
reading of a sense input, the raw fields of a received frame (chapter 12), the bytes of a port transaction. -/

namespace Sys2Proof

/-- What the pins show while the profile is loaded: the HEAD and ADR straps (R2, R195), the filtered coupling
inputs as first sampled (R1), the demand inputs DIN1..8 (R73) and the pulse inputs CNT1..4 (R138). -/
structure LoadSample where
  head   : Bool
  adr1   : Bool
  adr0   : Bool
  seatIn : Bool
  presIn : Bool
  din    : List Bool
  cnt    : List Bool
  deriving DecidableEq, Repr

/-- One analog reading (R134): the pin voltage, and the counts the converter gives for it where the voltage lies
inside the range. The rule fixes the counts at both ends only (notes/assumptions/7.md). -/
structure AnalogSample where
  millivolts : Int
  counts     : Nat
  deriving DecidableEq, Repr

/-- The commands, one per row of the opcode table. -/
inductive Instr where
  /-- START (R207). -/
  | start
  /-- BROWN_OUT (R207). -/
  | brownOut
  /-- SUPPLY_LOST (R207). -/
  | supplyLost
  /-- PROFILE_READ_ATTEMPT (R202): the bytes read, or none where the memory did not acknowledge. -/
  | profileReadAttempt (bytes : Option (List Byte))
  /-- LOAD_DONE (R206). -/
  | loadDone (sample : LoadSample)
  /-- SEAT_IN_CHANGE (R25): the new filtered level. -/
  | seatInChange (level : Bool)
  /-- PRES_IN_ASSERTED (R12). -/
  | presInAsserted
  /-- PRES_IN_DEASSERTED (R26). -/
  | presInDeasserted
  /-- HEAD_LISTEN_EXPIRY (R10). -/
  | headListenExpiry
  /-- UNSEATED_TIMER_EXPIRY (R7). -/
  | unseatedTimerExpiry
  /-- CLAIM_WINDOW_EXPIRY (R16). -/
  | claimWindowExpiry
  /-- OFFER_TIMER_EXPIRY (R12). -/
  | offerTimerExpiry
  /-- DEPARTURE_TIMER_EXPIRY (R28). -/
  | departureTimerExpiry
  /-- WRAP (R52). -/
  | wrap
  /-- MARK_STALE (R55). -/
  | markStale
  /-- SYNC_TIMER_EXPIRY (R66). -/
  | syncTimerExpiry
  /-- LIT_PART_EDGE (R95). -/
  | litPartEdge
  /-- DEMAND_INPUT_CHANGE (R73): the input 1..8 and its new conditioned level. -/
  | demandInputChange (input : Nat) (level : Bool)
  /-- FLASHER_HOLD_EXPIRY (R74): the input 1..8. -/
  | flasherHoldExpiry (input : Nat)
  /-- DEMAND_REPEAT_EXPIRY (R78). -/
  | demandRepeatExpiry
  /-- DEMAND_ENTRY_EXPIRY (R82): the sender position of the entry. -/
  | demandEntryExpiry (position : Nat)
  /-- CHECK_PULSE_END (R101): the sample's raw current in mA and supply in mV. -/
  | checkPulseEnd (current supply : Nat)
  /-- CHECK_TURN_END (R101). -/
  | checkTurnEnd
  /-- LAMP_TRIP (R108): the channel and its raw current in mA. -/
  | lampTrip (channel current : Nat)
  /-- STEADY_SAMPLE (R109): the channel, raw current in mA, supply in mV. -/
  | steadySample (channel current supply : Nat)
  /-- FLASH_SAMPLE (R110): the channel, raw current in mA, supply in mV. -/
  | flashSample (channel current supply : Nat)
  /-- REST_TIMER_EXPIRY (R113). -/
  | restTimerExpiry (channel : Nat)
  /-- PROVING_TIMER_EXPIRY (R114). -/
  | provingTimerExpiry (channel : Nat)
  /-- ANALOG_CONVERSION (R134): the readings of AIN1..4. -/
  | analogConversion (samples : List AnalogSample)
  /-- PULSE_EDGE (R138): the input 1..4 and its new filtered level. -/
  | pulseEdge (input : Nat) (level : Bool)
  /-- WHEEL_TIMER_EXPIRY (R142). -/
  | wheelTimerExpiry
  /-- MOTION_ENTRY_STALE (R144): the sender position of the entry. -/
  | motionEntryStale (position : Nat)
  /-- COUNTS_TIMER_EXPIRY (R146). -/
  | countsTimerExpiry
  /-- ANALOG_TIMER_EXPIRY (R147). -/
  | analogTimerExpiry
  /-- RUN_TIMER_EXPIRY (R155): the body channel 1..4. -/
  | runTimerExpiry (channel : Nat)
  /-- BODY_DRIVER_TRIP (R158): the body channel 1..4. -/
  | bodyDriverTrip (channel : Nat)
  /-- RELAY_REPLY_EXPIRY (R164). -/
  | relayReplyExpiry
  /-- FRAME_START (R172). -/
  | frameStart
  /-- ARBITRATION_LOST (R173). -/
  | arbitrationLost
  /-- DRIVE_FAULT (R179). -/
  | driveFault
  /-- DISABLE_TIMER_EXPIRY (R179). -/
  | disableTimerExpiry
  /-- FRAME_SENT (R174). -/
  | frameSent
  /-- LINE_STUCK (R181). -/
  | lineStuck
  /-- LINE_STUCK_CLEARED (R181). -/
  | lineStuckCleared
  /-- FRAME_DISCARDED (R177): the bits read from the Start on, recessive as true. -/
  | frameDiscarded (bits : List Bool)
  /-- DEMAND_RECEIVED (R81): payload bytes 0 and 1. -/
  | demandReceived (sender : Nibble) (members flags : Byte)
  /-- MARK_RECEIVED (R58). -/
  | markReceived (sender : Nibble) (period : Half) (duty : Byte) (lag : Half)
  /-- DEPART_RECEIVED (R29): the position set and the reason. -/
  | departReceived (sender : Nibble) (positions reason : Byte)
  /-- SEAT_OFFER_RECEIVED (R14). -/
  | seatOfferReceived (sender : Nibble) (seat : Byte)
  /-- SEAT_CLAIM_RECEIVED (R35): seat, identity, and payload byte 8 (unit class and rejoin flag). -/
  | seatClaimReceived (sender : Nibble) (seat : Byte) (identity : Identity) (classByte : Byte)
  /-- PROBE_RECEIVED (R27). -/
  | probeReceived (sender : Nibble) (prober : Byte)
  /-- PROBE_PRESENT_RECEIVED (R27). -/
  | probePresentReceived (sender : Nibble) (prober : Byte)
  /-- STAGE_CHECKED_RECEIVED (R37): good count, failed count, payload byte 3. -/
  | stageCheckedReceived (sender : Nibble) (good failed complete : Byte)
  /-- STAGE_JOINED_RECEIVED (R37): the rear-end note. -/
  | stageJoinedReceived (sender : Nibble) (note : Byte)
  /-- STAGE_TAKE_RECEIVED (R125). -/
  | stageTakeReceived (sender : Nibble)
  /-- STAGE_DECLINE_RECEIVED (R127): the deficiency set. -/
  | stageDeclineReceived (sender : Nibble) (deficiency : Byte)
  /-- STAGE_YIELD_RECEIVED (R127). -/
  | stageYieldReceived (sender : Nibble)
  /-- FAULT_RECEIVED (R38): code, subject, payload byte 2 (severity, marking), payload byte 3 (summary). -/
  | faultReceived (sender : Nibble) (code subject severity summary : Byte)
  /-- BODY_REQUEST_RECEIVED (R163). -/
  | bodyRequestReceived (sender : Nibble) (target channel action tag : Byte)
  /-- BODY_STATUS_RECEIVED (R165). -/
  | bodyStatusReceived (sender : Nibble) (channel state outcome tag : Byte)
  /-- PROFILE_SEGMENT_RECEIVED (R43): payload byte 0 (index and total) and the data bytes. -/
  | profileSegmentReceived (sender : Nibble) (header : Byte) (data : List Byte)
  /-- REPORT_COUNTS_RECEIVED (R143): payload byte 1 and the four counters. -/
  | reportCountsReceived (sender : Nibble) (motion : Byte) (counts : List Half)
  /-- REPORT_ANALOG_RECEIVED (R149): payload byte 1 and the four values. -/
  | reportAnalogReceived (sender : Nibble) (thresholds : Byte) (values : List Half)
  /-- QUERY_RECEIVED (R192). -/
  | queryReceived (sender : Nibble) (target itemClass first count : Byte)
  /-- ANSWER_RECEIVED (R197). -/
  | answerReceived (sender : Nibble) (requester itemClass index status : Byte) (data : List Byte)
  /-- QUERY_REPLY_EXPIRY (R199). -/
  | queryReplyExpiry
  /-- STATUS_PORT_WRITE (R195): the 7-bit address sent and the bytes written after it. -/
  | statusPortWrite (address : BitVec 7) (bytes : List Byte)
  /-- STATION_ITEM_READ (R196). -/
  | stationItemRead
  /-- ANSWER_STORE_READ (R197). -/
  | answerStoreRead
  /-- REQUEST_BODY_START (R198). -/
  | requestBodyStart (position channel tag : Byte)
  /-- REQUEST_BODY_STOP (R198). -/
  | requestBodyStop (position channel tag : Byte)
  /-- REQUEST_QUERY (R198). -/
  | requestQuery (target itemClass first count : Byte)
  /-- REQUEST_RESTART (R198). -/
  | requestRestart
  /-- SLOT_TAKE (R198). -/
  | slotTake
  /-- MARK_INSTANT (R175). -/
  | markInstant
  /-- LINE_IDLE (R169). -/
  | lineIdle
  /-- STATUS_PORT_READ (R195): the 7-bit address sent and the number of bytes clocked out. -/
  | statusPortRead (address : BitVec 7) (count : Nat)
  deriving DecidableEq, Repr

end Sys2Proof
end

