-- ==== Sys2Proof/Config.lean ====
section
/-! DEFINITION. What is fixed for every 2208: the durations and limits the rules state, the default profile's
plain numbers, and the free values of the model. -/

namespace Sys2Proof.Config

/-- Head listen timer, ms (R6, R10). -/
def headListenMs : Nat := 300
/-- Unseated timer, ms (R6, R14). -/
def unseatedMs : Nat := 5000
/-- Claim window, ms (R15). -/
def claimWindowMs : Nat := 200
/-- Offer timer, ms (R12). -/
def offerMs : Nat := 500
/-- Departure timer, ms (R26). -/
def departureMs : Nat := 1500
/-- FLASHER hold timer, ms (R74). -/
def holdMs : Nat := 1200
/-- DEMAND repeat timer, ms (R78). -/
def repeatMs : Nat := 100
/-- Age at which a demand table entry expires, ms (R82). -/
def demandAgeMs : Nat := 350
/-- The pulse of a channel in the circuit check, ms (R101). -/
def checkPulseMs : Nat := 20
/-- A channel's turn in the circuit check, ms (R101). -/
def checkTurnMs : Nat := 50
/-- Rest after a trip, ms (R112). -/
def restMs : Nat := 2000
/-- Trial after a re-drive, ms (R114). -/
def provingMs : Nat := 200
/-- First sample of a lit steady channel, ms (R109). -/
def warmUpMs : Nat := 200
/-- Spacing of the further samples, ms (R109). -/
def sampleSpacingMs : Nat := 100
/-- Wheel timer, ms (R142). -/
def wheelMs : Nat := 1000
/-- Age at which a motion entry is stale, ms (R144). -/
def motionAgeMs : Nat := 1500
/-- Longest spacing of REPORT COUNTS while MOVING, ms (R146). -/
def movingReportMs : Nat := 500
/-- Relay reply timer, ms (R164). -/
def relayReplyMs : Nat := 500
/-- Disable timer of the line driver, ms (R179). -/
def disableMs : Nat := 100
/-- Reply timer of the outstanding query, ms (R199). -/
def queryReplyMs : Nat := 250
/-- Phase error up to which the lock status is LOCKED, ms (R67). -/
def lockedErrorMs : Nat := 4
/-- Entries of the transmit queue (R182). -/
def queueSize : Nat := 8
/-- Entries of the fault list (R188). -/
def faultListSize : Nat := 8
/-- Entries of the answer store (R197). -/
def answerStoreSize : Nat := 8
/-- Retry count at which a trip locks a channel (R115). -/
def maxRetries : Nat := 3
/-- Top of the 16-bit counts of chapter 9 and of the slip count (R63, R177, R185). -/
def countTop : Nat := 65535
/-- Top of the onset time (section 10.1). -/
def onsetTop : Nat := 4294967295
/-- Wait from a failed read attempt to the next, ms (R202). -/
def retryMs : Nat := 2
/-- Spacing of the analog conversions, ms (R134). -/
def conversionMs : Nat := 20
/-- Bit times of the line in one millisecond (R168). -/
def bitsPerMs : Nat := 20
/-- Recessive run at which a BUSY line becomes IDLE (R169). -/
def idleRun : Nat := 7
/-- Top of the recessive run, at which a STUCK line is freed (R169, R181). -/
def recessiveTop : Nat := 200
/-- Top of the dominant run, at which the line is STUCK (R169, R181). -/
def dominantTop : Nat := 20
/-- Dominant bits that cut a frame off (R186). -/
def cutOffBits : Nat := 6
/-- Bytes of the profile image (R202). -/
def imageBytes : Nat := 171
/-- Read attempts of one load (R202). -/
def maxAttempts : Nat := 3

/-- FREE VALUE (notes/assumptions/6.md). The phase at the mark instant of a MARK that is delivered with no Start
noted before it: the rules give every received frame a mark instant (R175) and no value for a frame without one.
Nothing is known of it; the argument counts the uses. -/
opaque freeInstant : Nat → Int

/-- FREE VALUE (notes/assumptions/56.md). The raw current that the sample at the end of a check pulse reads, in steps of 10 mA
(section 5.4), where no CHECK_PULSE_END has brought a reading by the pulse's end. Nothing is known of it but its range; the argument
counts the uses. -/
opaque freeCurrent : Nat → Fin 1024

/-- FREE VALUE (notes/assumptions/56.md). The supply that sample reads, in steps of 50 mV (section 5.4). -/
opaque freeSupply : Nat → Fin 801

/-- FREE VALUE (notes/assumptions/58.md). Whether the own Start was read at a drive fault that comes while no later bit has been
counted: the command does not say which bit it was (R179). Nothing is known of it; the argument counts the uses. -/
opaque freeStartRead : Nat → Bool

end Sys2Proof.Config
end

