-- ==== Sys2Proof/Machine/State.lean ====
section
/-! DEFINITION. The state of one 2208: every piece of state the eleven blocks hold (section 0.3), as plain data, the
reasons a command can stop, and the state after reset. INVENTORY.md lists each field with its rule and reset value. -/

namespace Sys2Proof.Machine

/-! ### Enumerations (section 12.5) -/

/-- Whether the station runs (R207): running, stopped with its retention record held, or stopped below 4.5 V. -/
inductive Power where
  | running | stopped | lost
  deriving DecidableEq, Repr

/-- The station stages (section 0.5). -/
inductive Stage where
  | loading | listen | standalone | claiming | profiling | checking | sync | joined | conflict
  deriving DecidableEq, Repr

/-- Where the own SEAT CLAIM stands (R15). -/
inductive ClaimProgress where
  | none | pending | inFlight | window
  deriving DecidableEq, Repr

/-- Unit classes. -/
inductive UnitClass where
  | primeMover | semiTrailer | fullTrailer | dolly | service
  deriving DecidableEq, Repr

/-- The stage a roster entry shows (section 2.1), earliest first. -/
inductive RosterStage where
  | claimed | profiled | checked | joined
  deriving DecidableEq, Repr

/-- Rear-end notes (section 2.1). -/
inductive Note where
  | none | taken | declined | yielded
  deriving DecidableEq, Repr

/-- Rear-end statuses (section 6.1). -/
inductive RearStatus where
  | none | pending | holder | retained
  deriving DecidableEq, Repr

/-- Lamp functions, UNASSIGNED among them (section 5.1). -/
inductive LampFn where
  | unassigned | tail | stop | turnL | turnR | reverse | rearFog | plate | marker | work | beacon
  deriving DecidableEq, Repr

/-- Channel kinds (section 5.1). -/
inductive LampKind where
  | filament | led
  deriving DecidableEq, Repr

/-- Channel health (section 5.1). -/
inductive Health where
  | untested | good | openCircuit | overload | short | locked
  deriving DecidableEq, Repr

/-- Class of a classified sample (R107). -/
inductive SampleClass where
  | good | openCircuit | overload
  deriving DecidableEq, Repr

/-- Outcome recorded in a channel's last sample (section 5.1). -/
inductive SampleOutcome where
  | good | openCircuit | overload | skipped
  deriving DecidableEq, Repr

/-- Where a short's handling stands (section 5.1). -/
inductive ShortState where
  | none | resting | waiting | proving
  deriving DecidableEq, Repr

/-- Flash gates (R86). -/
inductive Gate where
  | off | armed | running | ending
  deriving DecidableEq, Repr

/-- Lock status (R67). -/
inductive LockStatus where
  | own | locked | slewing
  deriving DecidableEq, Repr

/-- Demand members (R72). -/
inductive Member where
  | tail | stop | turnL | turnR | reverse | rearFog | work | beacon | hazard | park
  deriving DecidableEq, Repr

/-- What a pulse input serves; `notInUse` is role code 0 (section 12.3). -/
inductive PulseRole where
  | notInUse | wheel | door | general
  deriving DecidableEq, Repr

/-- Edges a pulse input counts (R138). -/
inductive EdgeSel where
  | rising | falling | both
  deriving DecidableEq, Repr

/-- Body outcomes (section 12.5): the first seven are a channel's last outcome, the rest answer requests. -/
inductive BodyOutcome where
  | none | stopped | timedOut | motion | parkLost | tripped | withdrawn
  | started | notReady | noChannel | busy | interlock
  deriving DecidableEq, Repr

/-- Relay states (R164). -/
inductive RelayState where
  | none | waiting | sent | notSent | answered | noReply
  deriving DecidableEq, Repr

/-- Line states (R169). -/
inductive LineState where
  | idle | busy | stuck
  deriving DecidableEq, Repr

/-- Start kinds (section 11.3). -/
inductive StartKind where
  | cold | warm | commanded
  deriving DecidableEq, Repr

/-- Fault codes, in the order of the table of section 10.1. -/
inductive FaultCode where
  | lampOpen | lampOverload | lampShort | lampLocked | rearDeficient | seatConflict | seatUnavailable
  | combinationFull | frontLinkLost | presenceFault | lineDrive | lineMute | lineStuck | demandLost
  | profileDefault | identityMissing | bodyTripped
  deriving DecidableEq, Repr

/-- Answer statuses (R193). -/
inductive AnswerStatus where
  | ok | noItem | busy
  deriving DecidableEq, Repr

/-- Outcomes of a query (R199). -/
inductive QueryOutcome where
  | none | complete | noItem | busy | timeout | notSent | invalid | abandoned
  deriving DecidableEq, Repr

/-- Purposes of a PROFILE sequence (R41). -/
inductive Purpose where
  | initial | announce | defence
  deriving DecidableEq, Repr

/-- DEPART reasons (R28). -/
inductive DepartReason where
  | uncoupled | stationLost
  deriving DecidableEq, Repr

/-! ### Small records -/

/-- A timer: stopped, or running with the ms it has counted and the ms at which it expires. -/
inductive Timer where
  | stopped
  | running (elapsed limit : Nat)
  deriving DecidableEq, Repr

/-- A table keyed by position, in position order, at most one entry per position. -/
abbrev Table (α : Type) := List (Nat × α)

/-- A demand: a set of demand members (R72). -/
structure DemandSet where
  tail    : Bool
  stop    : Bool
  turnL   : Bool
  turnR   : Bool
  reverse : Bool
  rearFog : Bool
  work    : Bool
  beacon  : Bool
  hazard  : Bool
  park    : Bool
  deriving DecidableEq, Repr

/-- A set of rear-end group functions: a deficiency set (R121). -/
structure Deficiency where
  reverse : Bool
  rearFog : Bool
  plate   : Bool
  deriving DecidableEq, Repr

/-- Turn-fault sides (R117). -/
structure Sides where
  left  : Bool
  right : Bool
  deriving DecidableEq, Repr

/-! ### The applied profile (R204, R205) -/

/-- A lamp channel's entry (section 5.1). -/
structure LampCfg where
  function : LampFn
  kind     : LampKind
  imin     : Nat
  imax     : Nat
  deriving DecidableEq, Repr

/-- A demand input's entry (section 4.2). -/
inductive DinCfg where
  | unused
  | steady (target : Member)
  | flasher (target : Member)
  | bodySwitch (channel : Nat)
  deriving DecidableEq, Repr

/-- An analog input's entry (R133); `brake` is the role BRAKE-PRESSURE. -/
structure AnalogCfg where
  inUse  : Bool
  brake  : Bool
  offset : Int
  gain   : Int
  onAt   : Int
  offAt  : Int
  deriving DecidableEq, Repr

/-- A pulse input's entry (section 7.2). -/
structure PulseCfg where
  role    : PulseRole
  edge    : EdgeSel
  cascade : Bool
  deriving DecidableEq, Repr

/-- A body channel's entry (section 8.1); kind code 0 means unassigned. -/
structure BodyCfg where
  kind            : Nat
  motionInhibited : Bool
  parkRequired    : Bool
  hazardRaising   : Bool
  limit           : Nat
  deriving DecidableEq, Repr

/-- The profile as applied: after clamping, or the default profile. -/
structure Profile where
  cls    : UnitClass
  vn     : Nat
  rate   : Nat
  duty   : Nat
  report : Nat
  origin : Bool
  attn   : Nat
  lamps  : List LampCfg
  dins   : List DinCfg
  analog : List AnalogCfg
  pulses : List PulseCfg
  bodies : List BodyCfg
  deriving DecidableEq, Repr

/-- A FILAMENT channel of the default profile, Imin 100 mA and Imax 5,000 mA (R204). The UNASSIGNED channel 12, of which the rule
gives neither, has them too: DESIGN CHOICE, notes/assumptions/38.md. -/
def defaultLamp (f : LampFn) : LampCfg := { function := f, kind := .filament, imin := 100, imax := 5000 }

/-- The default profile (R204). A body channel that is not assigned has its flags clear and a run limit of 1: DESIGN CHOICE,
notes/assumptions/45.md. An analog input not in use has role NONE and its offset, gain and thresholds 0, and a pulse input not in use
role code 0, edge RISING and no cascade mark: DESIGN CHOICE, notes/assumptions/49.md. -/
def defaultProfile : Profile where
  cls := .fullTrailer
  vn := 24000
  rate := 90
  duty := 50
  report := 1000
  origin := false
  attn := 2
  lamps := [.tail, .tail, .stop, .stop, .turnL, .turnR, .marker, .marker, .plate, .rearFog, .reverse,
    .unassigned].map defaultLamp
  dins := List.replicate 8 .unused
  analog := List.replicate 4 { inUse := false, brake := false, offset := 0, gain := 0, onAt := 0, offAt := 0 }
  pulses := List.replicate 4 { role := .notInUse, edge := .rising, cascade := false }
  bodies := List.replicate 4
    { kind := 0, motionInhibited := false, parkRequired := false, hazardRaising := false, limit := 1 }

/-! ### Profile Loader (chapter 11) -/

/-- The start record (R206). -/
structure StartRecord where
  kind           : StartKind
  warmPath       : Bool
  outcome        : Nat
  profileDefault : Bool
  identity       : Identity
  deriving DecidableEq, Repr

/-- The Profile Loader's own state. `outcome` is 0 for FAILED, else the attempt that completed; `retry` counts the 2 ms from a
failed attempt to the next (R202). -/
structure Loader where
  image          : Option (List Byte)
  attempts       : Nat
  retry          : Timer
  outcome        : Nat
  cause          : StartKind
  identity       : Identity
  profileDefault : Bool
  profile        : Profile
  record         : StartRecord
  portAddress    : Nat
  deriving DecidableEq, Repr

/-- The retention record (R208). The four counters of the Sensor Unit are held here (R140). -/
structure Retention where
  valid    : Bool
  seat     : Nat
  identity : Identity
  channels : List (Health × Nat)
  counts   : List Half
  deriving DecidableEq, Repr

/-! ### Seat Controller (section 1.2) -/

/-- The Seat Controller. `rejoin` is the rejoin flag with its retained seat; `claimId` numbers the queue entry of
the own claim; `expiryHeld` is the held expiry of R15; `answered` is the probe answer set H; `seatInSeen` and `presInSeen` say
that a change of the input has been taken since the start, so that its level is no longer the first sample's (R1). -/
structure SeatCtl where
  stage        : Stage
  ownSeat      : Nat
  head         : Bool
  rejoin       : Option Nat
  claimed      : Nat
  claim        : ClaimProgress
  claimId      : Nat
  claimRejoin  : Bool
  reseat       : Bool
  fallbackMark : Bool
  pos1Heard    : Bool
  expiryHeld   : Bool
  headListen   : Timer
  unseated     : Timer
  window       : Timer
  offer        : Timer
  departure    : Timer
  answered     : List Nat
  seatIn       : Bool
  presIn       : Bool
  seatInSeen   : Bool
  presInSeen   : Bool
  deriving DecidableEq, Repr

/-! ### Roster (chapter 2) -/

/-- A profile summary (section 2.1): the functions in code order; per body entry its channel, kind code and
motion-inhibited flag; per sensor entry its input and quantity. -/
structure ProfileSummary where
  functions      : List LampFn
  origin         : Bool
  profileDefault : Bool
  bodies         : List (Nat × Nat × Bool)
  sensors        : List (Nat × Nat)
  deriving DecidableEq, Repr

/-- A check summary (section 2.1). -/
structure CheckSummary where
  good     : Nat
  failed   : Nat
  complete : Bool
  deriving DecidableEq, Repr

/-- A fault summary (section 2.1). -/
structure FaultSummary where
  count   : Nat
  highest : Nat
  sides   : Sides
  deriving DecidableEq, Repr

/-- A roster entry (section 2.1); its position is its key in the table. -/
structure RosterEntry where
  identity : Identity
  cls      : UnitClass
  stage    : RosterStage
  rejoin   : Bool
  note     : Note
  profile  : Option ProfileSummary
  check    : Option CheckSummary
  fault    : Option FaultSummary
  deriving DecidableEq, Repr

/-- A COLLECTING reassembly state (R43); a sender with none is IDLE. -/
structure Collecting where
  total    : Nat
  expected : Nat
  bytes    : List Byte
  deriving DecidableEq, Repr

/-- A PROFILE sequence being sent (R41). `restart` asks for segment 0 after the segment in flight, `reoffer` says that
the current segment was dropped or turned away and is to be offered again (R42). -/
structure Sending where
  purpose : Purpose
  index   : Nat
  restart : Bool
  reoffer : Bool
  deriving DecidableEq, Repr

/-- The Roster block. -/
structure RosterBlock where
  entries  : Table RosterEntry
  reasm    : Table Collecting
  announce : Option Sending
  due      : Bool
  deriving DecidableEq, Repr

/-! ### Phase Unit (section 3.1) -/

/-- The Phase Unit; T_on, S, Q and B are computed from `period` and `duty` (R51). -/
structure PhaseUnit where
  phi       : Nat
  len       : Nat
  period    : Nat
  duty      : Nat
  lock      : LockStatus
  quiet     : Nat
  marked    : Bool
  lastMark  : Option Nat
  adoption  : Option (Nat × Nat)
  syncTimer : Timer
  slip      : Nat
  deriving DecidableEq, Repr

/-! ### Demand Merger (section 4.9) -/

/-- A demand table entry (R81). -/
structure DemandEntry where
  set    : DemandSet
  origin : Bool
  age    : Nat
  deriving DecidableEq, Repr

/-- The Demand Merger; `active` is the sending state ACTIVE. -/
structure Merger where
  levels      : List Bool
  holds       : List Timer
  own         : DemandSet
  hazard      : Bool
  active      : Bool
  repeatTimer : Timer
  table       : Table DemandEntry
  eff         : DemandSet
  fallback    : Bool
  gateL       : Gate
  gateR       : Gate
  gateB       : Gate
  deriving DecidableEq, Repr

/-! ### Lamp Channel Unit (section 5.1) -/

/-- The last sample taken of a channel. -/
structure LastSample where
  current : Nat
  supply  : Nat
  outcome : SampleOutcome
  deriving DecidableEq, Repr

/-- A channel record; function, kind and bounds are in the applied profile. `sampled` says that the sample instant at which the steady
timer stands (R109), or that of the flash cycle (R110), has been used. -/
structure Channel where
  health  : Health
  retry   : Nat
  run     : Option (SampleClass × Nat)
  short   : ShortState
  rest    : Timer
  proving : Timer
  steady  : Option Nat
  sampled : Bool
  lit     : Bool
  last    : Option LastSample
  deriving DecidableEq, Repr

/-- A circuit check under way (R101): the channels whose turns are not over, the ms of the current turn, and
whether its pulse is on. -/
structure Check where
  todo  : List Nat
  turn  : Nat
  pulse : Bool
  deriving DecidableEq, Repr

/-- The Lamp Channel Unit. -/
structure LampUnit where
  channels : List Channel
  check    : Option Check
  deriving DecidableEq, Repr

/-- The Rear-End Logic (section 6.1); completeness and the deficiency set are computed from health. -/
structure RearEnd where
  status    : RearStatus
  neighbour : Option Deficiency
  deriving DecidableEq, Repr

/-! ### Sensor Unit (chapter 7) -/

/-- An analog record (section 7.1). -/
structure Analog where
  counts    : Nat
  value     : Int
  on        : Bool
  converted : Bool
  deriving DecidableEq, Repr

/-- A motion table entry (R143, R144). -/
structure MotionEntry where
  moving : Bool
  age    : Nat
  stale  : Bool
  deriving DecidableEq, Repr

/-- The Sensor Unit; `moving` is the own motion MOVING, `view` the combination motion view MOVING; `conversion` counts the ms
to the next conversion of the analog inputs (R134). -/
structure SensorUnit where
  conversion  : Timer
  analogs     : List Analog
  levels      : List Bool
  moving      : Bool
  wheel       : Timer
  table       : Table MotionEntry
  view        : Bool
  countsTimer : Timer
  analogTimer : Timer
  deriving DecidableEq, Repr

/-! ### Body Unit (chapter 8) -/

/-- A body channel record (section 8.1). -/
structure BodyChannel where
  running : Bool
  timer   : Timer
  outcome : BodyOutcome
  lastTag : Nat
  runTag  : Nat
  deriving DecidableEq, Repr

/-- The relay record (R164); `start` tells START from STOP, `frameId` numbers its BODY REQUEST on the queue. -/
structure Relay where
  state   : RelayState
  target  : Nat
  channel : Nat
  start   : Bool
  tag     : Nat
  reply   : Option (Bool × BodyOutcome)
  timer   : Timer
  frameId : Nat
  deriving DecidableEq, Repr

/-- The Body Unit. -/
structure BodyUnit where
  channels : List BodyChannel
  relay    : Relay
  deriving DecidableEq, Repr

/-! ### Line Interface (section 9.1) -/

/-- The frames a station sends (section 12.2). The lag of a MARK and the contents of a REPORT are absent until its
Start is sent (R187). -/
inductive Frame where
  | demand (set : DemandSet) (origin withdraw : Bool)
  | mark (period duty : Nat) (lag : Option Nat)
  | depart (positions : List Nat) (reason : DepartReason)
  | seatOffer (seat : Nat)
  | seatClaim (seat : Nat) (identity : Identity) (cls : UnitClass) (rejoin : Bool)
  | probe (prober : Nat)
  | probePresent (prober : Nat)
  | stageChecked (good failed : Nat) (complete : Bool)
  | stageJoined (note : Note)
  | stageTake
  | stageDecline (set : Deficiency)
  | stageYield
  | fault (code : FaultCode) (subject severity : Nat) (raised : Bool) (summary : FaultSummary)
  | bodyRequest (target channel : Nat) (start : Bool) (tag : Nat)
  | bodyStatus (channel : Nat) (running : Bool) (outcome : BodyOutcome) (tag : Nat)
  | profile (index total : Nat) (data : List Byte)
  | reportCounts (content : Option (Bool × List Half))
  | reportAnalog (content : Option (List Bool × List Int))
  | query (target cls first count : Nat)
  | answer (requester cls index : Nat) (status : AnswerStatus) (data : List Byte)
  deriving DecidableEq, Repr

/-- An entry of the transmit queue. `id` tells entries apart; `dying` marks an entry in flight that is withdrawn if it returns to
pending: a timed-out QUERY (R199), and a frame whose last End bit had begun when the station became unseated (R186). -/
structure Entry where
  id       : Nat
  frame    : Frame
  inFlight : Bool
  dying    : Bool
  deriving DecidableEq, Repr

/-- The frame on the line as this station heard its Start: its mark instant in own time and the phase read there (R59, R175),
whether the station receives it or sends it itself, the recessive run that its Start ended (R169), the bits of it known so far from
the Start on, from which its fields read (section 9.1), and the bits the station itself still has to drive. -/
structure Reception where
  instant   : Nat
  phase     : Int
  receiving : Bool
  before    : Nat
  bits      : List Bool
  rest      : List Bool
  deriving DecidableEq, Repr

/-- The Line Interface; the driver is enabled while `disable` is stopped, and `cutOff` dominant bits of a cut-off are still to be
driven (R186). -/
structure LineUnit where
  state       : LineState
  recessive   : Nat
  dominant    : Nat
  disable     : Timer
  driveFaults : Nat
  mute        : Bool
  queue       : List Entry
  followOn    : List Frame
  reception   : Option Reception
  cutOff      : Nat
  malformed   : Nat
  overflow    : Nat
  nextId      : Nat
  deriving DecidableEq, Repr

/-! ### Fault List and Status Port (chapter 10) -/

/-- A fault list entry (section 10.1). -/
structure FaultEntry where
  code     : FaultCode
  subject  : Nat
  severity : Nat
  onset    : Nat
  deriving DecidableEq, Repr

/-- The fault list and its overflow flag. -/
structure FaultList where
  list     : List FaultEntry
  overflow : Bool
  deriving DecidableEq, Repr

/-- A request in the slot (section 10.4). -/
inductive Request where
  | bodyStart (position channel tag : Nat)
  | bodyStop (position channel tag : Nat)
  | query (target cls first count : Nat)
  | restart
  deriving DecidableEq, Repr

/-- An answer store entry (R197). -/
structure StoreEntry where
  sender : Nat
  cls    : Nat
  index  : Nat
  status : AnswerStatus
  data   : List Byte
  deriving DecidableEq, Repr

/-- The outstanding query (R199). -/
structure Query where
  target  : Nat
  cls     : Nat
  first   : Nat
  count   : Nat
  answers : Nat
  timer   : Timer
  sent    : Bool
  frameId : Nat
  deriving DecidableEq, Repr

/-- The answering state ANSWERING (R192). `first` and `count` are the query's own; `ended` says that the last ANSWER is
queued, `retry` that the ANSWER due was dropped or turned away (R193). -/
structure Answering where
  requester : Nat
  cls       : Nat
  first     : Nat
  count     : Nat
  next      : Nat
  left      : Nat
  ended     : Bool
  retry     : Bool
  deriving DecidableEq, Repr

/-- An owed BUSY (R192). -/
structure OwedBusy where
  requester : Nat
  cls       : Nat
  index     : Nat
  deriving DecidableEq, Repr

/-- The status port and the query side of the block. `slotDue` says that a millisecond has passed since the slot was
filled (R198). `addressAck`, `byteAcks` and `dataOut` hold what SPD carried in the last transaction. -/
structure Port where
  attn         : Bool
  slot         : Option Request
  slotDue      : Bool
  collision    : Bool
  pointer      : Nat
  store        : List StoreEntry
  storeFull    : Bool
  query        : Option Query
  queryOutcome : QueryOutcome
  answering    : Option Answering
  owed         : Option OwedBusy
  addressAck   : Bool
  byteAcks     : List Bool
  dataOut      : List Byte
  deriving DecidableEq, Repr

/-! ### The whole -/

/-- The state of one station. `now` is the own time since start in ms; `freeCount` counts the uses of the free values
(notes/assumptions/6.md, 56.md, 58.md); `pending` is the queue of commands, first in first out. -/
structure State where
  power     : Power
  now       : Nat
  loader    : Loader
  retention : Retention
  seat      : SeatCtl
  roster    : RosterBlock
  phase     : PhaseUnit
  demand    : Merger
  lamps     : LampUnit
  rear      : RearEnd
  sensor    : SensorUnit
  body      : BodyUnit
  line      : LineUnit
  faults    : FaultList
  port      : Port
  freeCount : Nat
  pending   : List Instr
  deriving DecidableEq, Repr

/-- Why a command stops the machine. -/
inductive Fault where
  /-- Raised by a command that names a lamp channel, demand input, pulse input, body channel or table position the part
  does not have (its number is outside the range the spec gives). Safe: no such event can occur, and the machine stops
  instead of going on. -/
  | noSuchUnit
  deriving DecidableEq, Repr

/-- Why a command is refused. -/
inductive Refusal where
  /-- Raised by `exec` for a command that has no meaning yet. Safe: the machine stops. -/
  | notModelled (mnemonic : String)
  deriving DecidableEq, Repr

/-! ### Reset -/

/-- The empty demand. -/
def DemandSet.empty : DemandSet :=
  { tail := false, stop := false, turnL := false, turnR := false, reverse := false, rearFog := false,
    work := false, beacon := false, hazard := false, park := false }

/-- A lamp channel after a start handled as COLD (R92). -/
def Channel.reset : Channel :=
  { health := .untested, retry := 0, run := none, short := .none, rest := .stopped, proving := .stopped,
    steady := none, sampled := false, lit := false, last := none }

/-- A body channel after any start (R150). -/
def BodyChannel.reset : BodyChannel :=
  { running := false, timer := .stopped, outcome := .none, lastTag := 0, runTag := 0 }

/-- The relay record after any start (R150); the fields of a record that is NONE are zero (notes/assumptions/9.md). -/
def Relay.reset : Relay :=
  { state := .none, target := 0, channel := 0, start := false, tag := 0, reply := none, timer := .stopped, frameId := 0 }

/-- A retention record that is lost (R207); its contents are DESIGN CHOICE (notes/assumptions/9.md). -/
def Retention.lost : Retention :=
  { valid := false, seat := 0, identity := 0, channels := List.replicate 12 (.untested, 0),
    counts := List.replicate 4 0 }

/-- The Profile Loader at a start of the given kind, before its first read attempt (R202, notes/assumptions/8.md). -/
def Loader.atStart (kind : StartKind) : Loader :=
  { image := none, attempts := 0, retry := .stopped, outcome := 0, cause := kind, identity := 0, profileDefault := true,
    profile := defaultProfile,
    record := { kind := .cold, warmPath := false, outcome := 0, profileDefault := false, identity := 0 },
    portAddress := 0 }

/-- Every block as a start of the given kind sets it (section 11.5), with the given retention record. -/
def State.atStart (kind : StartKind) (retention : Retention) : State where
  power := .running
  now := 0
  loader := Loader.atStart kind
  retention := retention
  seat :=
    { stage := .loading, ownSeat := 0, head := false, rejoin := none, claimed := 0, claim := .none, claimId := 0,
      claimRejoin := false, reseat := false, fallbackMark := false, pos1Heard := false, expiryHeld := false,
      headListen := .stopped, unseated := .stopped, window := .stopped, offer := .stopped, departure := .stopped,
      answered := [], seatIn := false, presIn := false, seatInSeen := false, presInSeen := false }
  roster := { entries := [], reasm := [], announce := none, due := false }
  phase :=
    { phi := 0, len := 667, period := 667, duty := 50, lock := .own, quiet := 3, marked := false, lastMark := none,
      adoption := none, syncTimer := .stopped, slip := 0 }
  demand :=
    { levels := List.replicate 8 false, holds := List.replicate 8 .stopped, own := .empty, hazard := false,
      active := false, repeatTimer := .stopped, table := [], eff := .empty, fallback := false,
      gateL := .off, gateR := .off, gateB := .off }
  lamps := { channels := List.replicate 12 .reset, check := none }
  rear := { status := .none, neighbour := none }
  sensor :=
    { conversion := .stopped,
      analogs := List.replicate 4 { counts := 0, value := 0, on := false, converted := false },
      levels := List.replicate 4 false, moving := false, wheel := .stopped, table := [], view := false,
      countsTimer := .stopped, analogTimer := .stopped }
  body := { channels := List.replicate 4 .reset, relay := .reset }
  line :=
    { state := .busy, recessive := 0, dominant := 0, disable := .stopped, driveFaults := 0, mute := false,
      queue := [], followOn := [], reception := none, cutOff := 0, malformed := 0, overflow := 0, nextId := 0 }
  faults := { list := [], overflow := false }
  port :=
    { attn := false, slot := none, slotDue := false, collision := false, pointer := 0, store := [],
      storeFull := false, query := none, queryOutcome := .none, answering := none, owed := none,
      addressAck := false, byteAcks := [], dataOut := [] }
  freeCount := 0
  pending := []

/-- The machine right after reset: the COLD start of a first power-up has just been taken (R207), no profile has been
read, and nothing waits in the queue (notes/assumptions/1.md). -/
def State.reset : State := State.atStart .cold .lost

end Sys2Proof.Machine
end

