-- ==== Sys2Proof/Machine/Ops.lean ====
section
/-! DEFINITION. The shared operations over timers, position tables and numbered units, and the outcome forms every
command uses. -/

namespace Sys2Proof.Machine

/-! ### Timers -/

/-- A timer that has just been started, to run for `limit` ms. -/
def Timer.start (limit : Nat) : Timer := .running 0 limit

/-- The timer runs. -/
def Timer.isRunning : Timer → Bool
  | .stopped => false
  | .running _ _ => true

/-- The timer runs and has counted its length. -/
def Timer.isDue : Timer → Bool
  | .stopped => false
  | .running e l => decide (l ≤ e)

/-- The ms a timer has counted; 0 while it is stopped. -/
def Timer.elapsed : Timer → Nat
  | .stopped => 0
  | .running e _ => e

/-- One millisecond passes: a running timer counts it, up to its length. -/
def Timer.tick : Timer → Timer
  | .stopped => .stopped
  | .running e l => .running (min (e + 1) l) l

/-! ### Tables keyed by position -/

/-- The entry at a position. -/
def Table.get {α : Type} : Table α → Nat → Option α
  | [], _ => none
  | (k, v) :: r, p => if k = p then some v else Table.get r p

/-- Insert an entry at a position, or replace the one there; position order is kept. -/
def Table.set {α : Type} : Table α → Nat → α → Table α
  | [], p, v => [(p, v)]
  | (k, w) :: r, p, v =>
    if p < k then (p, v) :: (k, w) :: r
    else if p = k then (p, v) :: r
    else (k, w) :: Table.set r p v

/-- Remove the entries at the listed positions. -/
def Table.erase {α : Type} (t : Table α) (ps : List Nat) : Table α :=
  t.filter fun e => !ps.contains e.1

/-- Change the entry at a position, where there is one. -/
def Table.modify {α : Type} (t : Table α) (p : Nat) (f : α → α) : Table α :=
  t.map fun e => if e.1 = p then (e.1, f e.2) else e

/-- A table holds an entry at the position. -/
def Table.holds {α : Type} (t : Table α) (p : Nat) : Bool := (Table.get t p).isSome

/-- The canonical form of a table: positions strictly rising and all in 1..8 (R31, R81, R143). -/
def Table.wf {α : Type} : Table α → Bool
  | [] => true
  | [e] => decide (1 ≤ e.1) && decide (e.1 ≤ 8)
  | e :: f :: r => decide (1 ≤ e.1) && decide (e.1 < f.1) && Table.wf (f :: r)

/-! ### Units numbered from 1 -/

/-- The n-th of a list, counted from 1. -/
def nth {α : Type} (l : List α) : Nat → Option α
  | 0 => none
  | n + 1 => l[n]?

/-- Change the n-th of a list, counted from 1. -/
def modNth {α : Type} (l : List α) : Nat → (α → α) → List α
  | 0, _ => l
  | n + 1, f => l.modify n f

/-- The positions of a combination. -/
def positions : List Nat := [1, 2, 3, 4, 5, 6, 7, 8]

/-- Insert into a set kept in rising order (H of R26 to R28). -/
def insertSorted (p : Nat) : List Nat → List Nat
  | [] => [p]
  | q :: r => if p < q then p :: q :: r else if p = q then q :: r else q :: insertSorted p r

/-! ### Outcomes of commands -/

/-- The form of every command's meaning: a stopped station takes no event (R207), so nothing changes; a running one
takes it. -/
def whenRunning (s : State) (f : State → State) : Host.Outcome State Fault Refusal :=
  .next (if s.power = .running then f s else s)

/-- The same for a command that names a unit 1..top: naming a unit the part lacks is a fault. -/
def whenUnit (top n : Nat) (s : State) (f : State → State) : Host.Outcome State Fault Refusal :=
  if 1 ≤ n ∧ n ≤ top then whenRunning s f else .fault .noSuchUnit

end Sys2Proof.Machine
end

