-- ==== Sys2Proof/Machine/Operands.lean ====
section
/-! DEFINITION. The fields of payloads, items and the profile memory: bits and bytes (section 12.1), the codes of every
enumeration (section 12.5), and sets held as bits. An unlisted code of a received field is taken as the field's lowest
listed code (R210). -/

namespace Sys2Proof.Machine

/-! ### Bits and bytes, most significant byte first (section 12.1) -/

/-- The byte of a number. -/
def byte (n : Nat) : Byte := BitVec.ofNat 8 n

/-- Bit `k` of a byte. -/
def bitOf (b : Byte) (k : Nat) : Bool := b.getLsbD k

/-- Bits hi..lo of a byte, as a number. -/
def fieldOf (b : Byte) (hi lo : Nat) : Nat := b.toNat / 2 ^ lo % 2 ^ (hi + 1 - lo)

/-- The number a flag adds at bit `k`. -/
def flagAt (f : Bool) (k : Nat) : Nat := if f then 2 ^ k else 0

/-- Two bytes of a number. -/
def bytes2 (n : Nat) : List Byte := [byte (n / 256), byte n]

/-- Four bytes of a number. -/
def bytes4 (n : Nat) : List Byte := [byte (n / 16777216), byte (n / 65536), byte (n / 256), byte n]

/-- Two bytes of a signed number in two's complement. -/
def bytes2s (v : Int) : List Byte := bytes2 (v % 65536).toNat

/-- The number of two bytes. -/
def word2 (a b : Byte) : Nat := a.toNat * 256 + b.toNat

/-- The signed number of two bytes. -/
def signed2 (a b : Byte) : Int := if word2 a b < 32768 then (word2 a b : Int) else (word2 a b : Int) - 65536

/-- The six bytes of an identity. -/
def identityBytes (i : Identity) : List Byte :=
  [byte (i.toNat / 2 ^ 40), byte (i.toNat / 2 ^ 32), byte (i.toNat / 2 ^ 24), byte (i.toNat / 2 ^ 16),
    byte (i.toNat / 2 ^ 8), byte i.toNat]

/-- The identity of a list of bytes. -/
def identityOf (l : List Byte) : Identity := BitVec.ofNat 48 (l.foldl (fun n b => n * 256 + b.toNat) 0)

/-- The byte at an offset; an absent byte reads as 0. -/
def byteAt (l : List Byte) (i : Nat) : Byte := l.getD i 0

/-! ### Codes -/

/-- Stage code. -/
def Stage.code : Stage → Nat
  | .loading => 0 | .listen => 1 | .standalone => 2 | .claiming => 3 | .profiling => 4
  | .checking => 5 | .sync => 6 | .joined => 7 | .conflict => 8

/-- Roster stage code. -/
def RosterStage.code : RosterStage → Nat
  | .claimed => 0 | .profiled => 1 | .checked => 2 | .joined => 3

/-- Rear-end note code. -/
def Note.code : Note → Nat
  | .none => 0 | .taken => 1 | .declined => 2 | .yielded => 3

/-- Rear-end note of a code; an unlisted one is NONE. -/
def Note.ofCode : Nat → Note
  | 1 => .taken | 2 => .declined | 3 => .yielded | _ => .none

/-- Rear-end status code. -/
def RearStatus.code : RearStatus → Nat
  | .none => 0 | .pending => 1 | .holder => 2 | .retained => 3

/-- Unit class code. -/
def UnitClass.code : UnitClass → Nat
  | .primeMover => 1 | .semiTrailer => 2 | .fullTrailer => 3 | .dolly => 4 | .service => 5

/-- Unit class of a code, where it is one of the five. -/
def UnitClass.ofCode? : Nat → Option UnitClass
  | 1 => some .primeMover | 2 => some .semiTrailer | 3 => some .fullTrailer | 4 => some .dolly
  | 5 => some .service | _ => none

/-- The ten lamp functions in code order. -/
def lampFunctions : List LampFn :=
  [.tail, .stop, .turnL, .turnR, .reverse, .rearFog, .plate, .marker, .work, .beacon]

/-- Lamp function code. -/
def LampFn.code : LampFn → Nat
  | .unassigned => 0 | .tail => 1 | .stop => 2 | .turnL => 3 | .turnR => 4 | .reverse => 5 | .rearFog => 6
  | .plate => 7 | .marker => 8 | .work => 9 | .beacon => 10

/-- Lamp function of a code; an unknown code gives UNASSIGNED (R205). -/
def LampFn.ofCode : Nat → LampFn
  | 1 => .tail | 2 => .stop | 3 => .turnL | 4 => .turnR | 5 => .reverse | 6 => .rearFog
  | 7 => .plate | 8 => .marker | 9 => .work | 10 => .beacon | _ => .unassigned

/-- Health code. -/
def Health.code : Health → Nat
  | .untested => 0 | .good => 1 | .openCircuit => 2 | .overload => 3 | .short => 4 | .locked => 5

/-- Last sample outcome code; none is 0. -/
def SampleOutcome.code : SampleOutcome → Nat
  | .good => 1 | .openCircuit => 2 | .overload => 3 | .skipped => 4

/-- Demand member of a code, where it is one of the ten. -/
def Member.ofCode? : Nat → Option Member
  | 1 => some .tail | 2 => some .stop | 3 => some .turnL | 4 => some .turnR | 5 => some .reverse
  | 6 => some .rearFog | 7 => some .work | 8 => some .beacon | 9 => some .hazard | 10 => some .park | _ => none

/-- Pulse role of a code, where it is a listed one; 0 is not in use. -/
def PulseRole.ofCode? : Nat → Option PulseRole
  | 0 => some .notInUse | 1 => some .wheel | 2 => some .door | 3 => some .general | _ => none

/-- Pulse role code. -/
def PulseRole.code : PulseRole → Nat
  | .notInUse => 0 | .wheel => 1 | .door => 2 | .general => 3

/-- Edge selection of a code, where it is a listed one. -/
def EdgeSel.ofCode? : Nat → Option EdgeSel
  | 0 => some .rising | 1 => some .falling | 2 => some .both | _ => none

/-- Edge selection code. -/
def EdgeSel.code : EdgeSel → Nat
  | .rising => 0 | .falling => 1 | .both => 2

/-- Lock status code. -/
def LockStatus.code : LockStatus → Nat
  | .own => 0 | .locked => 1 | .slewing => 2

/-- Line state code. -/
def LineState.code : LineState → Nat
  | .idle => 0 | .busy => 1 | .stuck => 2

/-- Start kind code. -/
def StartKind.code : StartKind → Nat
  | .cold => 0 | .warm => 1 | .commanded => 2

/-- DEPART reason code. -/
def DepartReason.code : DepartReason → Nat
  | .uncoupled => 0 | .stationLost => 1

/-- Fault code. -/
def FaultCode.code : FaultCode → Nat
  | .lampOpen => 1 | .lampOverload => 2 | .lampShort => 3 | .lampLocked => 4 | .rearDeficient => 5
  | .seatConflict => 6 | .seatUnavailable => 7 | .combinationFull => 8 | .frontLinkLost => 9
  | .presenceFault => 10 | .lineDrive => 11 | .lineMute => 12 | .lineStuck => 13 | .demandLost => 14
  | .profileDefault => 15 | .identityMissing => 16 | .bodyTripped => 17

/-- Body outcome code. -/
def BodyOutcome.code : BodyOutcome → Nat
  | .none => 0 | .stopped => 1 | .timedOut => 2 | .motion => 3 | .parkLost => 4 | .tripped => 5
  | .withdrawn => 6 | .started => 7 | .notReady => 8 | .noChannel => 9 | .busy => 10 | .interlock => 11

/-- Body outcome of a code; an unlisted one is NONE. -/
def BodyOutcome.ofCode : Nat → BodyOutcome
  | 1 => .stopped | 2 => .timedOut | 3 => .motion | 4 => .parkLost | 5 => .tripped | 6 => .withdrawn
  | 7 => .started | 8 => .notReady | 9 => .noChannel | 10 => .busy | 11 => .interlock | _ => .none

/-- Relay state code. -/
def RelayState.code : RelayState → Nat
  | .none => 0 | .waiting => 1 | .sent => 2 | .notSent => 3 | .answered => 4 | .noReply => 5

/-- Answer status code. -/
def AnswerStatus.code : AnswerStatus → Nat
  | .ok => 0 | .noItem => 1 | .busy => 2

/-- Answer status of a code; an unlisted one is OK. -/
def AnswerStatus.ofCode : Nat → AnswerStatus
  | 1 => .noItem | 2 => .busy | _ => .ok

/-- Query outcome code. -/
def QueryOutcome.code : QueryOutcome → Nat
  | .none => 0 | .complete => 1 | .noItem => 2 | .busy => 3 | .timeout => 4 | .notSent => 5 | .invalid => 6
  | .abandoned => 7

/-! ### Sets held as bits -/

/-- A member belongs to a demand. -/
def DemandSet.has (d : DemandSet) : Member → Bool
  | .tail => d.tail | .stop => d.stop | .turnL => d.turnL | .turnR => d.turnR | .reverse => d.reverse
  | .rearFog => d.rearFog | .work => d.work | .beacon => d.beacon | .hazard => d.hazard | .park => d.park

/-- The union of two demands. -/
def DemandSet.union (a b : DemandSet) : DemandSet :=
  { tail := a.tail || b.tail, stop := a.stop || b.stop, turnL := a.turnL || b.turnL, turnR := a.turnR || b.turnR,
    reverse := a.reverse || b.reverse, rearFog := a.rearFog || b.rearFog, work := a.work || b.work,
    beacon := a.beacon || b.beacon, hazard := a.hazard || b.hazard, park := a.park || b.park }

/-- The demand holding one member. -/
def DemandSet.single : Member → DemandSet
  | .tail => { DemandSet.empty with tail := true }
  | .stop => { DemandSet.empty with stop := true }
  | .turnL => { DemandSet.empty with turnL := true }
  | .turnR => { DemandSet.empty with turnR := true }
  | .reverse => { DemandSet.empty with reverse := true }
  | .rearFog => { DemandSet.empty with rearFog := true }
  | .work => { DemandSet.empty with work := true }
  | .beacon => { DemandSet.empty with beacon := true }
  | .hazard => { DemandSet.empty with hazard := true }
  | .park => { DemandSet.empty with park := true }

/-- The demand of the first two payload bytes of a DEMAND (section 12.2). -/
def demandOf (members flags : Byte) : DemandSet :=
  { tail := bitOf members 7, stop := bitOf members 6, turnL := bitOf members 5, turnR := bitOf members 4,
    reverse := bitOf members 3, rearFog := bitOf members 2, work := bitOf members 1, beacon := bitOf members 0,
    hazard := bitOf flags 7, park := bitOf flags 6 }

/-- The two bytes of a DEMAND (section 12.2). -/
def demandBytes (d : DemandSet) (origin withdraw : Bool) : List Byte :=
  [byte (flagAt d.tail 7 + flagAt d.stop 6 + flagAt d.turnL 5 + flagAt d.turnR 4 + flagAt d.reverse 3 +
      flagAt d.rearFog 2 + flagAt d.work 1 + flagAt d.beacon 0),
    byte (flagAt d.hazard 7 + flagAt d.park 6 + flagAt origin 5 + flagAt withdraw 4)]

/-- The positions of a position set (bit k−1 for position k). -/
def positionsOf (b : Byte) : List Nat := positions.filter fun k => bitOf b (k - 1)

/-- The byte of a position set. -/
def positionsByte (l : List Nat) : Byte := byte ((positions.map fun k => flagAt (l.contains k) (k - 1)).sum)

/-- The deficiency set of a byte (bit 0 REVERSE, 1 REAR-FOG, 2 PLATE). -/
def Deficiency.ofByte (b : Byte) : Deficiency :=
  { reverse := bitOf b 0, rearFog := bitOf b 1, plate := bitOf b 2 }

/-- The number of a deficiency set. -/
def Deficiency.code (d : Deficiency) : Nat := flagAt d.reverse 0 + flagAt d.rearFog 1 + flagAt d.plate 2

/-- The two bytes of a function set (section 12.3). -/
def functionBytes (l : List LampFn) : List Byte :=
  [byte (flagAt (l.contains .tail) 7 + flagAt (l.contains .stop) 6 + flagAt (l.contains .turnL) 5 +
      flagAt (l.contains .turnR) 4 + flagAt (l.contains .reverse) 3 + flagAt (l.contains .rearFog) 2 +
      flagAt (l.contains .plate) 1 + flagAt (l.contains .marker) 0),
    byte (flagAt (l.contains .work) 7 + flagAt (l.contains .beacon) 6)]

/-- The function set of two bytes, in code order. -/
def functionsOf (a b : Byte) : List LampFn :=
  lampFunctions.filter fun f =>
    match f with
    | .tail => bitOf a 7 | .stop => bitOf a 6 | .turnL => bitOf a 5 | .turnR => bitOf a 4
    | .reverse => bitOf a 3 | .rearFog => bitOf a 2 | .plate => bitOf a 1 | .marker => bitOf a 0
    | .work => bitOf b 7 | .beacon => bitOf b 6 | .unassigned => false

/-- The summary fields of a FAULT's payload byte 3 (section 12.2). -/
def faultSummaryOf (b : Byte) : FaultSummary :=
  { count := fieldOf b 7 4, highest := fieldOf b 3 2, sides := { left := bitOf b 0, right := bitOf b 1 } }

end Sys2Proof.Machine
end

