-- ==== Sys2Proof/Machine/Flags.lean ====
section
/-! DEFINITION. What is computed from the state and never stored: the conditions several blocks read, the derived
quantities of the flash phase, the brake-pressure state, the rear group, and the output pins. -/

namespace Sys2Proof.Machine

/-! ### Stage (section 0.5) -/

/-- The stages in which a station is seated. -/
def Stage.seated : Stage → Bool
  | .profiling | .checking | .sync | .joined => true
  | .loading | .listen | .standalone | .claiming | .conflict => false

/-- SYNC and JOINED, in which DEMAND, REPORT and FAULT frames are sent (R78, R146, R191). -/
def Stage.serving : Stage → Bool
  | .sync | .joined => true
  | .loading | .listen | .standalone | .claiming | .profiling | .checking | .conflict => false

/-- The station is seated. -/
def State.seated (s : State) : Bool := s.seat.stage.seated

/-- The station is in SYNC or JOINED. -/
def State.serving (s : State) : Bool := s.seat.stage.serving

/-- The station is JOINED. -/
def State.joined (s : State) : Bool := s.seat.stage == .joined

/-- The load is done: the stage is past LOADING. -/
def State.loaded (s : State) : Bool := s.seat.stage != .loading

/-! ### Flash phase (R51, R69, R70) -/

/-- The period of a flash rate, halves rounded up. -/
def periodOfRate (rate : Nat) : Nat := (120000 + rate) / (2 * rate)

/-- T_on, halves rounded up. -/
def onTime (period duty : Nat) : Nat := (period * duty + 50) / 100

/-- T_on of the station. -/
def PhaseUnit.onTime (p : PhaseUnit) : Nat := Machine.onTime p.period p.duty

/-- The slew limit S. -/
def PhaseUnit.slew (p : PhaseUnit) : Nat := p.period / 16

/-- The abandon window Q. -/
def PhaseUnit.abandon (p : PhaseUnit) : Nat := p.period / 4

/-- The burst length B. -/
def PhaseUnit.burst (p : PhaseUnit) : Nat := p.onTime / 3

/-- φ lies in the lit part of the SINGLE pattern (R69). -/
def PhaseUnit.singleLit (p : PhaseUnit) : Bool := decide (p.phi < p.onTime)

/-- φ lies in a lit part of the DOUBLE pattern (R70). -/
def PhaseUnit.doubleLit (p : PhaseUnit) : Bool :=
  decide (p.phi < p.burst) || (decide (2 * p.burst ≤ p.phi) && decide (p.phi < 3 * p.burst))

/-! ### Brake pressure (R137) -/

/-- The brake-pressure state is ON. -/
def State.brakeOn (s : State) : Bool :=
  (s.loader.profile.analog.zip s.sensor.analogs).any fun e => e.1.inUse && e.1.brake && e.2.on

/-! ### Lamp functions -/

/-- TURN-L, TURN-R and BEACON. -/
def LampFn.isFlash : LampFn → Bool
  | .turnL | .turnR | .beacon => true
  | .unassigned | .tail | .stop | .reverse | .rearFog | .plate | .marker | .work => false

/-- REVERSE, REAR-FOG and PLATE. -/
def LampFn.isRear : LampFn → Bool
  | .reverse | .rearFog | .plate => true
  | .unassigned | .tail | .stop | .turnL | .turnR | .marker | .work | .beacon => false

/-- The function of channel n; UNASSIGNED where there is no such channel. -/
def State.functionOf (s : State) (n : Nat) : LampFn :=
  ((nth s.loader.profile.lamps n).map LampCfg.function).getD .unassigned

/-- The functions with the health of their channels, in channel order. -/
def State.lampHealth (s : State) : List (LampFn × Health) :=
  (s.loader.profile.lamps.zip s.lamps.channels).map fun e => (e.1.function, e.2.health)

/-- A rear-end function is served: some channel is assigned to it and every such channel is GOOD (R104). -/
def State.serves (s : State) (f : LampFn) : Bool :=
  s.lampHealth.any (fun e => e.1 == f) && s.lampHealth.all fun e => !(e.1 == f) || e.2 == .good

/-- The deficiency set (R121). -/
def State.deficiency (s : State) : Deficiency :=
  { reverse := !s.serves .reverse, rearFog := !s.serves .rearFog, plate := !s.serves .plate }

/-- The rear group is complete (R104). -/
def State.rearComplete (s : State) : Bool := s.serves .reverse && s.serves .rearFog && s.serves .plate

/-- The statuses in which the rear-end group is lit (R97). -/
def RearStatus.lighting : RearStatus → Bool
  | .pending | .holder | .retained => true
  | .none => false

/-! ### Demands (R72) -/

/-- The members of a demand ask for the function. -/
def DemandSet.asks (d : DemandSet) : LampFn → Bool
  | .tail | .plate | .marker => d.tail
  | .stop => d.stop
  | .reverse => d.reverse
  | .rearFog => d.rearFog
  | .work => d.work
  | .turnL => d.turnL || d.hazard
  | .turnR => d.turnR || d.hazard
  | .beacon => d.beacon
  | .unassigned => false

/-! ### Own MARK on the queue (R53 to R57) -/

/-- The frame is a MARK. -/
def Frame.isMark : Frame → Bool
  | .mark _ _ _ => true
  | _ => false

/-- The own MARK stands pending on the queue: the MARK state PENDING. -/
def State.markPending (s : State) : Bool := s.line.queue.any fun e => e.frame.isMark && !e.inFlight

/-- The own MARK is in flight: the MARK state IN-FLIGHT. -/
def State.markInFlight (s : State) : Bool := s.line.queue.any fun e => e.frame.isMark && e.inFlight

/-! ### Output pins -/

/-- SEAT-OUT (R2, R207). -/
def State.seatOut (s : State) : Bool := s.power == .running && s.seated

/-- PRES-OUT (R1, R207). -/
def State.presOut (s : State) : Bool := s.power == .running && s.loaded

/-- The turn-fault sides of every fault summary of the roster together (R48, R90). -/
def State.turnFaults (s : State) : Sides :=
  s.roster.entries.foldl
    (fun a e =>
      match e.2.fault with
      | none => a
      | some f => { left := a.left || f.sides.left, right := a.right || f.sides.right })
    { left := false, right := false }

/-- Left is demanded (R89). -/
def State.leftDemanded (s : State) : Bool := s.demand.eff.asks .turnL

/-- Right is demanded (R89). -/
def State.rightDemanded (s : State) : Bool := s.demand.eff.asks .turnR

/-- TT runs at double rate (R90). -/
def State.ttDouble (s : State) : Bool :=
  (s.leftDemanded && s.turnFaults.left) || (s.rightDemanded && s.turnFaults.right)

/-- φ lies in the tell-tale's lit part (R89, R90). -/
def State.ttLit (s : State) : Bool :=
  let p := s.phase
  if s.ttDouble then
    decide (p.phi < p.onTime / 2) ||
      (decide (p.period / 2 ≤ p.phi) && decide (p.phi < p.period / 2 + p.onTime / 2))
  else p.singleLit

/-- The TT output (R89, R207). -/
def State.ttPin (s : State) : Bool :=
  s.power == .running && s.joined && (s.leftDemanded || s.rightDemanded) && s.ttLit

/-- The ATTN output (R201, R207). -/
def State.attnPin (s : State) : Bool := s.power == .running && s.port.attn

/-- The LAMP output of channel n (R99, R207). -/
def State.lampPin (s : State) (n : Nat) : Bool :=
  s.power == .running && ((nth s.lamps.channels n).map Channel.lit).getD false

/-- The BODY output of channel n (R151, R207). -/
def State.bodyPin (s : State) (n : Nat) : Bool :=
  s.power == .running && ((nth s.body.channels n).map BodyChannel.running).getD false

end Sys2Proof.Machine
end

