-- ==== Sys2Proof/Machine/Profile.lean ====
section
/-! DEFINITION. The profile memory (chapter 11): the 16-bit check, the identity and profile blocks, clamping, and the
PROFILE summary built from a profile (R39, R40). -/

namespace Sys2Proof.Machine

/-! ### The 16-bit check -/

/-- One bit into the register. -/
def crc16Step (r : Half) (b : Bool) : Half := if b != r.msb then (r <<< 1) ^^^ 4129 else r <<< 1

/-- One byte, most significant bit first. -/
def crc16Byte (r : Half) (b : Byte) : Half :=
  [7, 6, 5, 4, 3, 2, 1, 0].foldl (fun r k => crc16Step r (bitOf b k)) r

/-- The check over bytes: a register of ones, polynomial x¹⁶ + x¹² + x⁵ + 1, no final inversion. -/
def crc16 (l : List Byte) : Half := l.foldl crc16Byte 65535

/-! ### The image (section 12.3) -/

/-- The identity of an image, where it is good (R203). -/
def goodIdentity (image : List Byte) : Option Identity :=
  let i := image.take 6
  if (crc16 i).toNat = word2 (byteAt image 6) (byteAt image 7) ∧ identityOf i ≠ 0 then some (identityOf i) else none

/-- The profile block of an image. -/
def profileBlock (image : List Byte) : List Byte := image.drop 8

/-- The profile block is valid (R204). -/
def profileValid (image : List Byte) : Bool :=
  let b := profileBlock image
  (crc16 (b.take 161)).toNat == word2 (byteAt b 161) (byteAt b 162) && (byteAt b 0).toNat == 1

/-- A number brought into a range. -/
def clamp (lo hi n : Nat) : Nat := if n < lo then lo else if hi < n then hi else n

/-- The n-th lamp channel's entry, clamped (R205). -/
def lampCfgOf (b : List Byte) (n : Nat) : LampCfg :=
  let o := 9 + 6 * (n - 1)
  let imin := clamp 10 9990 (word2 (byteAt b (o + 2)) (byteAt b (o + 3)))
  { function := .ofCode (byteAt b o).toNat
    kind := if (byteAt b (o + 1)).toNat = 1 then .led else .filament
    imin := imin
    imax := clamp (imin + 10) 10000 (word2 (byteAt b (o + 4)) (byteAt b (o + 5))) }

/-- The n-th demand input's entry, clamped (R205). -/
def dinCfgOf (b : List Byte) (n : Nat) : DinCfg :=
  let o := 81 + 2 * (n - 1)
  let target := (byteAt b (o + 1)).toNat
  match (byteAt b o).toNat with
  | 1 => match Member.ofCode? target with | some m => .steady m | none => .unused
  | 2 => match Member.ofCode? target with | some m => .flasher m | none => .unused
  | 3 => if 1 ≤ target ∧ target ≤ 4 then .bodySwitch target else .unused
  | _ => .unused

/-- The n-th analog input's entry, clamped (R133, R205). -/
def analogCfgOf (b : List Byte) (n : Nat) : AnalogCfg :=
  let o := 97 + 10 * (n - 1)
  let onAt := signed2 (byteAt b (o + 6)) (byteAt b (o + 7))
  let offAt := signed2 (byteAt b (o + 8)) (byteAt b (o + 9))
  { inUse := (byteAt b o).toNat != 0
    brake := (byteAt b (o + 1)).toNat == 1
    offset := signed2 (byteAt b (o + 2)) (byteAt b (o + 3))
    gain := signed2 (byteAt b (o + 4)) (byteAt b (o + 5))
    onAt := onAt
    offAt := if onAt < offAt then onAt else offAt }

/-- The n-th pulse input's entry before the cascade of its pair is looked at: an unknown role or edge code makes the
input not in use (R205). Its role code is then 0; a listed edge code is kept and an unknown one is RISING: DESIGN CHOICE,
notes/assumptions/41.md. -/
def pulseEntryOf (b : List Byte) (n : Nat) : PulseCfg :=
  let o := 137 + 2 * (n - 1)
  let second := byteAt b (o + 1)
  let edge := EdgeSel.ofCode? (fieldOf second 1 0)
  { role := if edge.isSome then (PulseRole.ofCode? (byteAt b o).toNat).getD .notInUse else .notInUse
    edge := edge.getD .rising
    cascade := (n == 1 || n == 3) && bitOf second 7 }

/-- The n-th pulse input's entry: the second counter of a cascaded pair is not in use (R139, R205). Its role code is then 0 and its edge
selection stays: DESIGN CHOICE, notes/assumptions/54.md. -/
def pulseCfgOf (b : List Byte) (n : Nat) : PulseCfg :=
  if (n == 2 || n == 4) && (pulseEntryOf b (n - 1)).cascade then { pulseEntryOf b n with role := .notInUse }
  else pulseEntryOf b n

/-- The n-th body channel's entry, clamped (R150, R205). -/
def bodyCfgOf (b : List Byte) (n : Nat) : BodyCfg :=
  let o := 145 + 4 * (n - 1)
  let flags := byteAt b (o + 1)
  { kind := (byteAt b o).toNat
    motionInhibited := bitOf flags 0
    parkRequired := bitOf flags 1
    hazardRaising := bitOf flags 2
    limit := clamp 1 255 (byteAt b (o + 2)).toNat }

/-- The profile of a valid block, clamped field by field (R205). -/
def profileOf (b : List Byte) : Profile where
  cls := (UnitClass.ofCode? (byteAt b 1).toNat).getD .fullTrailer
  vn := if (byteAt b 2).toNat = 12 then 12000 else 24000
  rate := clamp 60 120 (byteAt b 3).toNat
  duty := clamp 30 70 (byteAt b 4).toNat
  report := clamp 100 5000 (word2 (byteAt b 5) (byteAt b 6))
  origin := (byteAt b 7).toNat != 0
  attn := clamp 0 3 (byteAt b 8).toNat
  lamps := [1, 2, 3, 4, 5, 6, 7, 8, 9, 10, 11, 12].map (lampCfgOf b)
  dins := [1, 2, 3, 4, 5, 6, 7, 8].map (dinCfgOf b)
  analog := [1, 2, 3, 4].map (analogCfgOf b)
  pulses := [1, 2, 3, 4].map (pulseCfgOf b)
  bodies := [1, 2, 3, 4].map (bodyCfgOf b)

/-- The profile applied from an image, or from a memory that could not be read (R202, R204). -/
def appliedProfile : Option (List Byte) → Profile
  | some image => if profileValid image then profileOf (profileBlock image) else defaultProfile
  | none => defaultProfile

/-- The applied profile is the default one. -/
def appliedDefault : Option (List Byte) → Bool
  | some image => !profileValid image
  | none => true

/-- The identity applied; zero where it is missing (R203). -/
def appliedIdentity : Option (List Byte) → Identity
  | some image => (goodIdentity image).getD 0
  | none => 0

/-! ### The PROFILE summary (R39, R40, section 12.3) -/

/-- The lamp functions assigned to at least one channel, in code order. -/
def assignedFunctions (p : Profile) : List LampFn :=
  lampFunctions.filter fun f => p.lamps.any fun c => c.function == f

/-- The body list: channel, kind code, motion-inhibited flag of each assigned channel, in channel order. -/
def bodyListFrom : Nat → List BodyCfg → List (Nat × Nat × Bool)
  | _, [] => []
  | n, c :: r => if c.kind = 0 then bodyListFrom (n + 1) r else (n, c.kind, c.motionInhibited) :: bodyListFrom (n + 1) r

/-- The analog part of the sensor list: input and quantity (1 BRAKE-PRESSURE, 2 ANALOG). -/
def analogListFrom : Nat → List AnalogCfg → List (Nat × Nat)
  | _, [] => []
  | n, c :: r => if c.inUse then (n, if c.brake then 1 else 2) :: analogListFrom (n + 1) r else analogListFrom (n + 1) r

/-- The pulse part of the sensor list: inputs 5..8, quantity the role code. -/
def pulseListFrom : Nat → List PulseCfg → List (Nat × Nat)
  | _, [] => []
  | n, c :: r =>
    if c.role = .notInUse then pulseListFrom (n + 1) r else (n, c.role.code) :: pulseListFrom (n + 1) r

/-- The profile summary of a station's own profile. -/
def ownSummary (l : Loader) : ProfileSummary :=
  { functions := assignedFunctions l.profile
    origin := l.profile.origin
    profileDefault := l.profileDefault
    bodies := bodyListFrom 1 l.profile.bodies
    sensors := analogListFrom 1 l.profile.analog ++ pulseListFrom 5 l.profile.pulses }

/-- The flags byte of a summary. -/
def summaryFlags (p : ProfileSummary) : Byte := byte (flagAt p.origin 0 + flagAt p.profileDefault 1)

/-- The bytes of a body list entry. -/
def bodyEntryBytes (e : Nat × Nat × Bool) : List Byte := [byte (e.1 + flagAt e.2.2 7), byte e.2.1]

/-- The byte of a sensor list entry. -/
def sensorEntryByte (e : Nat × Nat) : Byte := byte (e.1 * 16 + e.2)

/-- The bytes of a summary. -/
def summaryBytes (identity : Identity) (cls : UnitClass) (p : ProfileSummary) : List Byte :=
  identityBytes identity ++ [byte cls.code] ++ functionBytes p.functions ++ [summaryFlags p] ++
    [byte p.bodies.length] ++ p.bodies.flatMap bodyEntryBytes ++
    [byte p.sensors.length] ++ p.sensors.map sensorEntryByte

/-- The bytes of the own summary. -/
def ownSummaryBytes (l : Loader) : List Byte := summaryBytes l.identity l.profile.cls (ownSummary l)

/-- The number of segments of a summary: 11 data bytes each, the last taking the remainder (R40). -/
def segmentTotal (l : List Byte) : Nat := (l.length + 10) / 11

/-- The data bytes of a segment. -/
def segmentData (l : List Byte) (index : Nat) : List Byte := (l.drop (11 * index)).take 11

/-- The body list of received summary bytes. -/
def bodyEntriesOf : Nat → List Byte → List (Nat × Nat × Bool)
  | 0, _ => []
  | n + 1, l => (fieldOf (byteAt l 0) 2 0, (byteAt l 1).toNat, bitOf (byteAt l 0) 7) :: bodyEntriesOf n (l.drop 2)

/-- A received sensor entry: its input, and its quantity with an unlisted one taken as the lowest listed (R210). An input outside 1..8
is kept as it came, with the quantities of an analog input below 5 and of a pulse input above: DESIGN CHOICE,
notes/assumptions/47.md. -/
def sensorEntryOf (b : Byte) : Nat × Nat :=
  let input := fieldOf b 7 4
  let q := fieldOf b 3 0
  (input, if 1 ≤ q ∧ q ≤ (if input ≤ 4 then 2 else 3) then q else 1)

/-- A completed sequence read as a summary: identity, unit class, summary; none where R44 discards it. -/
def parseSummary (l : List Byte) : Option (Identity × UnitClass × ProfileSummary) :=
  let b := (byteAt l 10).toNat
  let n := (byteAt l (11 + 2 * b)).toNat
  let bodies := bodyEntriesOf b (l.drop 11)
  if l.length = 12 + 2 * b + n ∧ b ≤ 4 ∧ n ≤ 8 ∧ bodies.all (fun e => decide (1 ≤ e.1) && decide (e.1 ≤ 4)) then
    (UnitClass.ofCode? (byteAt l 6).toNat).map fun c =>
      (identityOf (l.take 6), c,
        { functions := functionsOf (byteAt l 7) (byteAt l 8)
          origin := bitOf (byteAt l 9) 0
          profileDefault := bitOf (byteAt l 9) 1
          bodies := bodies
          sensors := (l.drop (12 + 2 * b)).map sensorEntryOf })
  else none

end Sys2Proof.Machine
end

