-- ==== Sys2Proof/Machine/Wire.lean ====
section
/-! DEFINITION. Frames on the combination line: kind codes and payload layouts (section 12.2), the frame's CRC (R170),
bit stuffing (R171), and what a receiver makes of the bits it reads (R177, R178). A bit is recessive (1) as true and
dominant (0) as false. -/

namespace Sys2Proof.Machine

/-! ### Kinds and payloads -/

/-- The kind code of a frame (R182). -/
def Frame.kind : Frame → Nat
  | .demand _ _ _ => 0
  | .mark _ _ _ => 1
  | .depart _ _ => 2
  | .seatOffer _ | .seatClaim _ _ _ _ => 3
  | .probe _ | .probePresent _ => 4
  | .stageChecked _ _ _ | .stageJoined _ | .stageTake | .stageDecline _ | .stageYield => 5
  | .fault _ _ _ _ _ => 6
  | .bodyRequest _ _ _ _ | .bodyStatus _ _ _ _ => 7
  | .profile _ _ _ => 8
  | .reportCounts _ | .reportAnalog _ => 9
  | .query _ _ _ _ => 10
  | .answer _ _ _ _ _ => 11

/-- The payload of a frame (section 12.2). Contents not captured yet are laid out as 0. -/
def Frame.payload : Frame → List Byte
  | .demand set origin withdraw => demandBytes set origin withdraw
  | .mark period duty lag => bytes2 period ++ [byte duty] ++ bytes2 (lag.getD 0)
  | .depart ps reason => [positionsByte ps, byte reason.code]
  | .seatOffer seat => [1, byte seat]
  | .seatClaim seat identity cls rejoin =>
    [2, byte seat] ++ identityBytes identity ++ [byte (cls.code + flagAt rejoin 7)]
  | .probe prober => [1, byte prober]
  | .probePresent prober => [2, byte prober]
  | .stageChecked good failed complete => [1, byte good, byte failed, byte (flagAt complete 0)]
  | .stageJoined note => [2, byte note.code]
  | .stageTake => [3]
  | .stageDecline set => [4, byte set.code]
  | .stageYield => [5]
  | .fault code subject severity raised sum =>
    [byte code.code, byte subject, byte (severity + flagAt raised 7),
      byte (sum.count * 16 + sum.highest * 4 + flagAt sum.sides.right 1 + flagAt sum.sides.left 0)]
  | .bodyRequest target channel start tag => [1, byte target, byte channel, if start then 1 else 2, byte tag]
  | .bodyStatus channel running outcome tag =>
    [2, byte channel, byte (flagAt running 0), byte outcome.code, byte tag]
  | .profile index total data => byte (index * 16 + total) :: data
  | .reportCounts content =>
    let c := content.getD (false, List.replicate 4 0)
    [1, byte (flagAt c.1 0)] ++ c.2.flatMap fun h => bytes2 h.toNat
  | .reportAnalog content =>
    let c := content.getD (List.replicate 4 false, List.replicate 4 0)
    [2, byte (flagAt (c.1.getD 0 false) 0 + flagAt (c.1.getD 1 false) 1 + flagAt (c.1.getD 2 false) 2 +
      flagAt (c.1.getD 3 false) 3)] ++ c.2.flatMap bytes2s
  | .query target cls first count => [byte target, byte cls, byte first, byte count]
  | .answer requester cls index status data =>
    [byte requester, byte cls, byte index, byte status.code] ++ data

/-- The frame is a SEAT CLAIM. -/
def Frame.isSeatClaim : Frame → Bool
  | .seatClaim _ _ _ _ => true
  | _ => false

/-- The sender position a station at seat `own` sends a frame with (R4, R170). -/
def Frame.sender (own : Nat) (f : Frame) : Nat := if f.isSeatClaim then 0 else own

/-! ### Bits -/

/-- The `n` low bits of a number, most significant first. -/
def bitsOf : Nat → Nat → List Bool
  | 0, _ => []
  | n + 1, v => v.testBit n :: bitsOf n v

/-- The bits of a payload. -/
def payloadBits (p : List Byte) : List Bool := p.flatMap fun b => bitsOf 8 b.toNat

/-- The number of a list of bits, most significant first. -/
def natOfBits (l : List Bool) : Nat := l.foldl (fun n b => 2 * n + b.toNat) 0

/-- One bit into the Check register (R170). -/
def crc8Step (r : Byte) (b : Bool) : Byte := if b != r.msb then (r <<< 1) ^^^ 7 else r <<< 1

/-- The Check over unstuffed bits (R170). -/
def crc8 (bits : List Bool) : Byte := bits.foldl crc8Step 255

/-- The bits the Check covers: Kind, Sender position, Length, Payload. -/
def checkedBits (kind sender : Nat) (payload : List Byte) : List Bool :=
  bitsOf 4 kind ++ bitsOf 4 sender ++ bitsOf 4 payload.length ++ payloadBits payload

/-- Stuffing (R171): after five equal bits one of the opposite value, which begins the count of the next run. `last`
and `run` are the bit before and the length of its run. -/
def stuff : Bool → Nat → List Bool → List Bool
  | _, _, [] => []
  | last, run, b :: bs =>
    let run' := if b = last then run + 1 else 1
    if run' = 5 then b :: (!b) :: stuff (!b) 1 bs else b :: stuff b run' bs

/-- The bits before the Check as they stand on the line, those that a sender compares (R173): Start to Payload, stuff bits
included. -/
def comparedBits (kind sender : Nat) (payload : List Byte) : List Bool :=
  stuff true 0 (false :: checkedBits kind sender payload)

/-- A whole frame as it stands on the line: Start to Check stuffed, then three recessive End bits. -/
def frameBits (kind sender : Nat) (payload : List Byte) : List Bool :=
  let body := checkedBits kind sender payload
  stuff true 0 (false :: (body ++ bitsOf 8 (crc8 body).toNat)) ++ [true, true, true]

/-! ### Reception -/

/-- What removing the stuff bits of `n` bits gives: the bits, with the rest of the line and the run they end in; or a
stuff error; or too few bits read. -/
inductive Unstuffed where
  | bits (data : List Bool) (last : Bool) (run : Nat) (rest : List Bool)
  | error
  | short
  deriving DecidableEq, Repr

/-- Put a bit in front of what was read. -/
def Unstuffed.cons (b : Bool) : Unstuffed → Unstuffed
  | .bits d l r rest => .bits (b :: d) l r rest
  | .error => .error
  | .short => .short

/-- Read `n` bits, removing each bit that follows five equal bits; one of the same value is a stuff error (R171). -/
def unstuff : Nat → Bool → Nat → List Bool → Unstuffed
  | 0, last, run, l => .bits [] last run l
  | _ + 1, _, _, [] => .short
  | n + 1, last, run, b :: bs =>
    if run = 5 then (if b = last then .error else unstuff (n + 1) b 1 bs)
    else Unstuffed.cons b (unstuff n b (if b = last then run + 1 else 1) bs)

/-- The stuff bit that may follow the last Check bit. -/
def unstuffEnd (last : Bool) (run : Nat) : List Bool → Unstuffed
  | [] => if run = 5 then .short else .bits [] last run []
  | b :: bs =>
    if run = 5 then (if b = last then .error else .bits [] b 1 bs) else .bits [] last run (b :: bs)

/-- What the bits of a frame come to at a receiver. -/
inductive Heard where
  | discarded
  | incomplete
  | frame (kind sender : Nat) (payload : List Byte)
  deriving DecidableEq, Repr

/-- The bytes of a list of bits, eight to a byte. -/
def bytesOfBits : Nat → List Bool → List Byte
  | 0, _ => []
  | n + 1, l => byte (natOfBits (l.take 8)) :: bytesOfBits n (l.drop 8)

/-- The three End bits (R177). -/
def hearEnd (kind sender : Nat) (payload : List Byte) : List Bool → Heard
  | a :: b :: c :: _ => if a && b && c then .frame kind sender payload else .discarded
  | [a, b] => if a && b then .incomplete else .discarded
  | [a] => if a then .incomplete else .discarded
  | [] => .incomplete

/-- The Payload, Check and End of a frame whose first fields have been read (R177); the Check is compared at its last bit, before
the stuff bit that may follow it. -/
def hearBody (kind sender len : Nat) (head : List Bool) (last : Bool) (run : Nat) (l : List Bool) : Heard :=
  match unstuff (8 * len + 8) last run l with
  | .error => .discarded
  | .short => .incomplete
  | .bits d last run rest =>
    if natOfBits (d.drop (8 * len)) ≠ (crc8 (head ++ d.take (8 * len))).toNat then .discarded
    else
      match unstuffEnd last run rest with
      | .error => .discarded
      | .short => .incomplete
      | .bits _ _ _ rest => hearEnd kind sender (bytesOfBits len d) rest

/-- What a receiver makes of the bits read from a Start on (R177): a stuff error, a Length above 12, a wrong Check or a
dominant End bit discards the frame. -/
def hear (l : List Bool) : Heard :=
  match unstuff 13 true 0 l with
  | .error => .discarded
  | .short => .incomplete
  | .bits d last run rest =>
    let head := d.drop 1
    let len := natOfBits (head.drop 8)
    if 12 < len then .discarded
    else hearBody (natOfBits (head.take 4)) (natOfBits ((head.drop 4).take 4)) len head last run rest

/-! ### The validity tests (R178) -/

/-- A payload length the kind and sub-kind allow (section 12.2); `sub` is the first payload byte. -/
def lengthOk (kind sub n : Nat) : Bool :=
  match kind with
  | 0 => n == 2
  | 1 => n == 5
  | 2 => n == 2
  | 3 => (sub == 1 && n == 2) || (sub == 2 && n == 9)
  | 4 => (sub == 1 || sub == 2) && n == 2
  | 5 => (sub == 1 && n == 4) || ((sub == 2 || sub == 4) && n == 2) || ((sub == 3 || sub == 5) && n == 1)
  | 6 => n == 4
  | 7 => (sub == 1 || sub == 2) && n == 5
  | 8 => decide (2 ≤ n) && decide (n ≤ 12)
  | 9 => (sub == 1 || sub == 2) && n == 10
  | 10 => n == 4
  | 11 => decide (4 ≤ n) && decide (n ≤ 12)
  | _ => false

/-- The sender position passes: 1..8, or 0 in a SEAT CLAIM. -/
def senderOk (isClaim : Bool) (sender : Nat) : Bool := decide (sender ≤ 8) && (sender != 0 || isClaim)

/-- The period, duty and lag of a MARK pass at a receiver whose period is `own`. -/
def markOk (own period duty lag : Nat) : Bool :=
  decide (500 ≤ period) && decide (period ≤ 1000) && decide (30 ≤ duty) && decide (duty ≤ 70) && decide (lag < own)

/-- A frame whose check completed is not malformed (R178). -/
def frameValid (own kind sender : Nat) (payload : List Byte) : Bool :=
  let sub := (byteAt payload 0).toNat
  lengthOk kind sub payload.length && senderOk (kind == 3 && sub == 2) sender &&
    (kind != 1 ||
      markOk own (word2 (byteAt payload 0) (byteAt payload 1)) (byteAt payload 2).toNat
        (word2 (byteAt payload 3) (byteAt payload 4)))

/-- The command a valid frame comes to at a receiver, by kind and sub-kind (R178, section 12.2). -/
def commandOf (kind sender : Nat) (payload : List Byte) : Option Instr :=
  let n : Nibble := BitVec.ofNat 4 sender
  match kind, payload with
  | 0, [a, b] => some (.demandReceived n a b)
  | 1, [a, b, d, l, m] => some (.markReceived n (a ++ b) d (l ++ m))
  | 2, [a, b] => some (.departReceived n a b)
  | 3, [1, a] => some (.seatOfferReceived n a)
  | 3, [2, a, i0, i1, i2, i3, i4, i5, c] => some (.seatClaimReceived n a (identityOf [i0, i1, i2, i3, i4, i5]) c)
  | 4, [1, a] => some (.probeReceived n a)
  | 4, [2, a] => some (.probePresentReceived n a)
  | 5, [1, g, f, c] => some (.stageCheckedReceived n g f c)
  | 5, [2, a] => some (.stageJoinedReceived n a)
  | 5, [3] => some (.stageTakeReceived n)
  | 5, [4, a] => some (.stageDeclineReceived n a)
  | 5, [5] => some (.stageYieldReceived n)
  | 6, [a, b, c, d] => some (.faultReceived n a b c d)
  | 7, [1, t, c, a, g] => some (.bodyRequestReceived n t c a g)
  | 7, [2, c, st, o, g] => some (.bodyStatusReceived n c st o g)
  | 8, h :: data => some (.profileSegmentReceived n h data)
  | 9, [1, m, a, b, c, d, e, f, g, h] =>
    some (.reportCountsReceived n m [a ++ b, c ++ d, e ++ f, g ++ h])
  | 9, [2, m, a, b, c, d, e, f, g, h] =>
    some (.reportAnalogReceived n m [a ++ b, c ++ d, e ++ f, g ++ h])
  | 10, [t, c, f, k] => some (.queryReceived n t c f k)
  | 11, r :: c :: i :: st :: data => some (.answerReceived n r c i st data)
  | _, _ => none

/-! ### The fields of a frame under way (section 9.1) -/

/-- What is left of a frame's bits when its stuff bits are taken out (R171). -/
def unstuffed : Bool → Nat → List Bool → List Bool
  | _, _, [] => []
  | last, run, b :: bs =>
    if run = 5 then unstuffed b 1 bs else b :: unstuffed b (if b = last then run + 1 else 1) bs

/-- The field of `n` bits from the `o`-th bit after the Start on, once all of them have been read. -/
def fieldRead (o n : Nat) (bits : List Bool) : Option Nat :=
  let d := (unstuffed true 0 bits).drop (o + 1)
  if n ≤ d.length then some (natOfBits (d.take n)) else none

/-- The Kind field of the frame on the line. -/
def Reception.kind (r : Reception) : Option Nat := fieldRead 0 4 r.bits

/-- Its Sender position field. -/
def Reception.sender (r : Reception) : Option Nat := fieldRead 4 4 r.bits

/-- Its Length field. -/
def Reception.length (r : Reception) : Option Nat := fieldRead 8 4 r.bits

/-- The n-th byte of its Payload, counted from 0. -/
def Reception.byte (r : Reception) (n : Nat) : Option Nat := fieldRead (12 + 8 * n) 8 r.bits

/-! ### Bit times (R169) -/

/-- One bit time is counted: the runs, and the line state that follows from them. The two changes that end in or leave STUCK are
the commands LINE_STUCK and LINE_STUCK_CLEARED. -/
def LineUnit.count (l : LineUnit) (b : Bool) : LineUnit :=
  if b then
    { l with
      recessive := min (l.recessive + 1) Config.recessiveTop
      dominant := 0
      state := if l.state = .busy ∧ Config.idleRun ≤ l.recessive + 1 then .idle else l.state }
  else
    { l with
      recessive := 0
      dominant := min (l.dominant + 1) Config.dominantTop
      state := if l.state = .idle then .busy else l.state }

/-- Bits are read and counted, one after another. -/
def LineUnit.read (l : LineUnit) (bits : List Bool) : LineUnit := bits.foldl LineUnit.count l

/-- How many bits of the frame on the line have been counted. -/
def LineUnit.known (l : LineUnit) : Nat := (l.reception.map fun r => r.bits.length).getD 0

/-- The station sends the frame on the line itself. -/
def LineUnit.sending (l : LineUnit) : Bool := (l.reception.map fun r => !r.receiving).getD false

/-- The frame another station sends is over, and its mark instant is dropped with it (R175). -/
def LineUnit.dropHeard (l : LineUnit) : LineUnit := if l.sending then l else { l with reception := none }

/-- Bits of a frame another station sends are read: those of it not yet counted are. The line carries one frame at a time, so none are
while the station sends. -/
def LineUnit.readOther (l : LineUnit) (bits : List Bool) : LineUnit :=
  if l.sending then l else l.read (bits.drop l.known)

/-- A frame another station sends is read to the end of its End bits, and its reception is over. -/
def LineUnit.heard (l : LineUnit) (kind sender : Nat) (payload : List Byte) : LineUnit :=
  (l.readOther (frameBits kind sender payload)).dropHeard

/-- What the station sends in one millisecond of a frame of its own. -/
def Reception.tick (r : Reception) : Reception :=
  { r with bits := r.bits ++ r.rest.take Config.bitsPerMs, rest := r.rest.drop Config.bitsPerMs }

/-- One millisecond of the line: the bits of a cut-off, of a frame of the station's own, or of an IDLE line are counted. Of a frame
another station sends the commands tell the bits (notes/assumptions/18.md). -/
def LineUnit.tick (l : LineUnit) : LineUnit :=
  let l := { l with disable := l.disable.tick }
  if l.cutOff ≠ 0 then { l.read (List.replicate l.cutOff false) with cutOff := 0 }
  else
    match l.reception with
    | some r =>
      if r.receiving then l
      else { l.read (r.rest.take Config.bitsPerMs) with reception := some r.tick }
    | none => if l.state = .idle then l.read (List.replicate Config.bitsPerMs true) else l

/-- A bit of the own frame was read as the opposite of what was sent (R173): the station receives what the line carries. That bit and
those after it are counted with the bits of that frame (notes/assumptions/18.md). -/
def LineUnit.goOnReceiving (l : LineUnit) : LineUnit :=
  { l with reception := l.reception.map fun r => { r with receiving := true, rest := [] } }

/-- The own Start was read recessive (R179): no dominant bit ended the recessive run, so the line is IDLE, and with no Start read
there is no mark instant (R169, R175). -/
def LineUnit.readNoStart (l : LineUnit) : LineUnit :=
  { l with
    state := .idle
    recessive := min ((l.reception.map Reception.before).getD l.recessive + 1) Config.recessiveTop
    dominant := 0
    reception := none }

/-- No bit of the frame on the line has been counted but its Start. -/
def LineUnit.atStart (l : LineUnit) : Bool := l.known == 1

/-! ### What the station drives -/

/-- The bits of the station's frame in flight. -/
def State.ownBits (s : State) : List Bool :=
  match s.line.queue.find? fun e => e.inFlight with
  | none => []
  | some e => frameBits e.frame.kind (e.frame.sender s.seat.ownSeat) e.frame.payload

/-- Those of them that the station compares (R173). -/
def State.comparedOwn (s : State) : List Bool :=
  match s.line.queue.find? fun e => e.inFlight with
  | none => []
  | some e => comparedBits e.frame.kind (e.frame.sender s.seat.ownSeat) e.frame.payload

/-- The bits the station drives: those of its frame in flight from the Start on, or the dominant bits of a cut-off (R186); a stopped
station drives none (R207). -/
def State.lineBits (s : State) : List Bool :=
  if s.power ≠ .running then []
  else if s.line.cutOff ≠ 0 then List.replicate s.line.cutOff false
  else
    match s.line.reception with
    | some r => if r.receiving then [] else r.bits ++ r.rest
    | none => []

end Sys2Proof.Machine
end

