-- ==== Sys2Proof/Machine/Queue.lean ====
section
/-! DEFINITION. The transmit queue (R4, R182 to R187): how a frame is offered, replaced, held, dropped, withdrawn,
captured at its Start and returned to pending, and what its owner is told. -/

namespace Sys2Proof.Machine

/-- Count one up, stopping at 65,535. -/
def bump (n : Nat) : Nat := if n < Config.countTop then n + 1 else n

/-- Replace the queue's entries. -/
def State.setQueue (s : State) (q : List Entry) : State := { s with line := { s.line with queue := q } }

/-- The queue takes the frame at all (R4): a seated station's queue every frame, an unseated one's only a SEAT CLAIM,
and in LOADING and CONFLICT none. -/
def State.queueTakes (s : State) (f : Frame) : Bool :=
  match s.seat.stage with
  | .loading | .conflict => false
  | .listen | .standalone | .claiming => f.isSeatClaim
  | .profiling | .checking | .sync | .joined => true

/-- The replaceable class of a frame (R183), where it has one. -/
def Frame.replaceClass : Frame → Option Nat
  | .demand _ _ _ => some 0
  | .mark _ _ _ => some 1
  | .reportCounts _ => some 2
  | .reportAnalog _ => some 3
  | _ => none

/-- The kinds queued one at a time (R184). -/
def Frame.isSequenced : Frame → Bool
  | .profile _ _ _ => true
  | .answer _ _ _ _ _ => true
  | _ => false

/-- The query that has ended leaves its outcome (R199). -/
def endQuery (o : QueryOutcome) (s : State) : State :=
  { s with port := { s.port with query := none, queryOutcome := o } }

/-- The relay record becomes NOT-SENT with its reply timer stopped (R164). -/
def relayNotSent (s : State) : State :=
  { s with body := { s.body with relay := { s.body.relay with state := .notSent, timer := .stopped } } }

/-- The answering state after its ANSWER for `index` was lost: that index is answered again (R193). -/
def Answering.lost (a : Answering) (index : Nat) (status : AnswerStatus) : Answering :=
  { a with next := index, left := if status = .ok then a.left + 1 else a.left, ended := false, retry := true }

/-- An owner is told that its frame was dropped by a full queue, or turned away because one of its kind still stood
there (R184, R185): the Roster and the ANSWERs are offered again, a relayed request is NOT-SENT, a QUERY ends NOT-SENT. A BUSY dropped
while another is owed is lost: DESIGN CHOICE, notes/assumptions/53.md. -/
def tellLost (f : Frame) (id : Nat) (s : State) : State :=
  match f with
  | .profile _ _ _ =>
    { s with roster := { s.roster with announce := s.roster.announce.map fun a => { a with reoffer := true } } }
  | .bodyRequest _ _ _ _ =>
    if s.body.relay.state = .waiting ∧ s.body.relay.frameId = id then relayNotSent s else s
  | .query _ _ _ _ =>
    if (s.port.query.map Query.frameId) = some id then endQuery .notSent s else s
  | .answer requester cls index status _ =>
    if status = .busy then
      { s with port :=
          { s.port with owed := some (s.port.owed.getD { requester := requester, cls := cls, index := index }) } }
    else { s with port := { s.port with answering := s.port.answering.map fun a => a.lost index status } }
  | _ => s

/-- Put an entry in its place: by kind code, and within one code behind the older ones (R182). -/
def insertEntry (e : Entry) : List Entry → List Entry
  | [] => [e]
  | x :: r => if e.frame.kind < x.frame.kind then e :: x :: r else x :: insertEntry e r

/-- The last entry in queue order that is not in flight. -/
def lastPending (q : List Entry) : Option Entry := q.reverse.find? fun e => !e.inFlight

/-- Count one frame lost to a full queue. -/
def State.countOverflow (s : State) : State :=
  { s with line := { s.line with overflow := bump s.line.overflow } }

/-- A frame is to enter as a new entry (R185): into a free place, or in place of the last pending entry where its kind
code is lower, or not at all. -/
def enterQueue (f : Frame) (id : Nat) (s : State) : State :=
  let e : Entry := { id := id, frame := f, inFlight := false, dying := false }
  if s.line.queue.length < Config.queueSize then s.setQueue (insertEntry e s.line.queue)
  else
    match lastPending s.line.queue with
    | none => tellLost f id s.countOverflow
    | some x =>
      if f.kind < x.frame.kind then
        tellLost x.frame x.id
          (s.countOverflow.setQueue (insertEntry e (s.line.queue.filter fun y => y.id != x.id)))
      else tellLost f id s.countOverflow

/-- Hold a frame in its class's follow-on slot, replacing any held there (R183). -/
def holdFollowOn (f : Frame) (s : State) : State :=
  { s with line :=
      { s.line with followOn := (s.line.followOn.filter fun g => g.replaceClass != f.replaceClass) ++ [f] } }

/-- A frame not turned away by R4 is taken as its kind asks (R183, R184, R185). -/
def takeFrame (f : Frame) (id : Nat) (s : State) : State :=
  if f.replaceClass.isSome then
    match s.line.queue.find? fun e => e.frame.replaceClass == f.replaceClass with
    | none => enterQueue f id s
    | some e =>
      if e.inFlight then holdFollowOn f s
      else
        s.setQueue (s.line.queue.map fun x =>
          if x.frame.replaceClass == f.replaceClass then { x with frame := f } else x)
  else if f.isSequenced && s.line.queue.any fun e => e.frame.kind == f.kind then tellLost f id s
  else enterQueue f id s

/-- Offer a frame to the transmit queue. Its entry's number is the state's `nextId` before. -/
def offer (f : Frame) (s : State) : State :=
  let id := s.line.nextId
  let s := { s with line := { s.line with nextId := id + 1 } }
  if s.queueTakes f then takeFrame f id s else s

/-- An owner withdraws its pending entries (R186); an entry in flight stays. -/
def withdraw (p : Frame → Bool) (s : State) : State :=
  s.setQueue (s.line.queue.filter fun e => e.inFlight || !p e.frame)

/-- Withdraw the pending entry of a number. -/
def withdrawId (id : Nat) (s : State) : State :=
  s.setQueue (s.line.queue.filter fun e => e.inFlight || e.id != id)

/-- The entry in flight. -/
def State.inFlight (s : State) : Option Entry := s.line.queue.find? fun e => e.inFlight

/-- The pending entry of a number stands on the queue. -/
def State.pendingId (s : State) (id : Nat) : Bool := s.line.queue.any fun e => e.id == id && !e.inFlight

/-- What a frame carries from its Start on (R187): a MARK its lag, a REPORT its contents (R148). -/
def captureFrame (s : State) : Frame → Frame
  | .mark p d _ => .mark p d (some s.phase.phi)
  | .reportCounts _ => .reportCounts (some (s.sensor.moving, s.retention.counts))
  | .reportAnalog _ => .reportAnalog (some (s.sensor.analogs.map Analog.on, s.sensor.analogs.map Analog.value))
  | f => f

/-- The captured contents are discarded (R187). -/
def Frame.uncaptured : Frame → Frame
  | .mark p d _ => .mark p d none
  | .reportCounts _ => .reportCounts none
  | .reportAnalog _ => .reportAnalog none
  | f => f

/-- The entry in flight returns to pending in its place (R173), a frame held for its class replaces it (R183), and a dying one
leaves the queue (R186, R199). The own SEAT CLAIM is PENDING again (R15). A MARK is pending again whatever φ is, also past Q: DESIGN
CHOICE, notes/assumptions/62.md. -/
def returnToPending (s : State) : State :=
  match s.inFlight with
  | none => s
  | some x =>
    let held := s.line.followOn.find? fun g => x.frame.replaceClass.isSome && g.replaceClass == x.frame.replaceClass
    let back := { x with inFlight := false, frame := held.getD x.frame.uncaptured }
    { s with
      line :=
        { s.line with
          queue :=
            if x.dying then s.line.queue.filter fun e => !e.inFlight
            else s.line.queue.map fun e => if e.inFlight then back else e
          followOn :=
            s.line.followOn.filter fun g =>
              !(x.frame.replaceClass.isSome && g.replaceClass == x.frame.replaceClass) }
      seat :=
        if s.seat.claim = .inFlight ∧ x.id = s.seat.claimId then { s.seat with claim := .pending } else s.seat }

/-- The last End bit of the frame in flight has begun (R186): no bit after it is left to drive. -/
def State.ending (s : State) : Bool :=
  s.inFlight.isSome && ((s.line.reception.map fun r => !r.receiving && r.rest.isEmpty).getD false)

/-- The line when the queue is emptied (R4, R186): the frame in flight is cut off, its six dominant bits to be driven from the next
bit time on, unless its last End bit has begun, when it completes; pending frames are withdrawn (a pending SEAT CLAIM only where
`all` is set, notes/assumptions/11.md), and held frames go with them. The station does not count its own frame cut off as a malformed
one: DESIGN CHOICE, notes/assumptions/59.md. -/
def State.emptiedLine (s : State) (all : Bool) : LineUnit :=
  let cut := s.inFlight.isSome && !s.ending
  { s.line with
    queue :=
      (s.line.queue.filter fun e => (e.inFlight && s.ending) || (!all && !e.inFlight && e.frame.isSeatClaim)).map
        fun e => { e with dying := e.dying || e.inFlight }
    followOn := []
    reception := if cut then none else s.line.reception
    cutOff := if cut then Config.cutOffBits else s.line.cutOff }

/-- The relayed request's BODY REQUEST is the frame that completes. -/
def State.relayEnding (s : State) : Bool :=
  s.ending && ((s.inFlight.map fun e => e.id == s.body.relay.frameId).getD false)

/-- The queue is emptied when the station becomes unseated or enters CONFLICT (R4, R186), and the owners act: the announcement ends
(R42), a relayed request that leaves the queue unsent is NOT-SENT (R164), the outstanding query ends (R199), answering stops
(R193). -/
def emptyQueue (all : Bool) (s : State) : State :=
  let r := s.body.relay
  { s with
    line := s.emptiedLine all
    roster := { s.roster with announce := none, due := false }
    body :=
      { s.body with
        relay := if r.state = .waiting ∧ s.relayEnding = false then { r with state := .notSent, timer := .stopped } else r }
    port :=
      { s.port with
        answering := none
        owed := none
        query := none
        queryOutcome :=
          match s.port.query with
          | none => s.port.queryOutcome
          | some x => if x.sent then .abandoned else .notSent } }

end Sys2Proof.Machine
end

