-- ==== Sys2Proof/Machine/FaultList.lean ====
section
/-! DEFINITION. The fault list (R188 to R191), the own fault summary (R33, R117) and ATTN's part in an addition
(R201). -/

namespace Sys2Proof.Machine

/-- The latched codes (R190). -/
def FaultCode.latched : FaultCode → Bool
  | .lampLocked | .seatConflict | .lineMute | .identityMissing | .profileDefault => true
  | .lampOpen | .lampOverload | .lampShort | .rearDeficient | .seatUnavailable | .combinationFull
  | .frontLinkLost | .presenceFault | .lineDrive | .lineStuck | .demandLost | .bodyTripped => false

/-- The four lamp fault codes (R117). -/
def FaultCode.isLamp : FaultCode → Bool
  | .lampOpen | .lampOverload | .lampShort | .lampLocked => true
  | .rearDeficient | .seatConflict | .seatUnavailable | .combinationFull | .frontLinkLost | .presenceFault
  | .lineDrive | .lineMute | .lineStuck | .demandLost | .profileDefault | .identityMissing | .bodyTripped => false

/-- Some lamp fault of the list is of a channel of the function. -/
def hasLampFault (s : State) (l : List FaultEntry) (f : LampFn) : Bool :=
  l.any fun e => e.code.isLamp && s.functionOf e.subject == f

/-- The summary of a list (R33): its number of entries, its highest severity, its turn-fault sides (R117). -/
def summaryOf (s : State) (l : List FaultEntry) : FaultSummary :=
  { count := l.length
    highest := l.foldl (fun m e => max m e.severity) 0
    sides := { left := hasLampFault s l .turnL, right := hasLampFault s l .turnR } }

/-- The list changes; a seated station's own entry takes the new summary (R33). -/
def setFaultList (l : List FaultEntry) (s : State) : State :=
  { s with
    faults := { s.faults with list := l }
    roster :=
      if s.seated then
        { s.roster with
          entries := Table.modify s.roster.entries s.seat.ownSeat fun e => { e with fault := some (summaryOf s l) } }
      else s.roster }

/-- A FAULT frame for a change of the list, sent in SYNC and JOINED only (R191). It carries the summary of the list as it
stands. -/
def queueFault (e : FaultEntry) (raised : Bool) (s : State) : State :=
  if s.serving then offer (.fault e.code e.subject e.severity raised (summaryOf s s.faults.list)) s else s

/-- An addition at or above the profile's threshold asserts ATTN; a threshold of 0 means none does (R201). In LOADING, where LINE-STUCK
can be raised, the threshold is the default profile's 2: DESIGN CHOICE, notes/assumptions/8.md. -/
def attnForFault (severity : Nat) (s : State) : State :=
  if s.loader.profile.attn ≠ 0 ∧ s.loader.profile.attn ≤ severity then { s with port := { s.port with attn := true } }
  else s

/-- A new entry joins at the end of the list (R189). -/
def addFault (code : FaultCode) (subject severity : Nat) (s : State) : State :=
  let e : FaultEntry := { code := code, subject := subject, severity := severity, onset := min s.now Config.onsetTop }
  attnForFault severity (queueFault e true (setFaultList (s.faults.list ++ [e]) s))

/-- An entry leaves the list (R189, R190). -/
def removeFault (e : FaultEntry) (s : State) : State :=
  queueFault e false
    (setFaultList (s.faults.list.filter fun x => !(x.code == e.code && x.subject == e.subject)) s)

/-- The lowest severity among entries of codes that are not latched. -/
def lowestUnlatched (l : List FaultEntry) : Option Nat :=
  ((l.filter fun e => !e.code.latched).map FaultEntry.severity).min?

/-- The entry a raise of the given severity evicts from a full list (R189): the oldest of the lowest severity among
codes not latched, where the new severity is greater. -/
def evictable (severity : Nat) (l : List FaultEntry) : Option FaultEntry :=
  match lowestUnlatched l with
  | none => none
  | some m => if m < severity then l.find? fun e => !e.code.latched && e.severity == m else none

/-- The list overflowed. -/
def setFaultOverflow (s : State) : State := { s with faults := { s.faults with overflow := true } }

/-- The list holds an entry of the code and subject. -/
def State.hasFault (s : State) (code : FaultCode) (subject : Nat) : Bool :=
  s.faults.list.any fun e => e.code == code && e.subject == subject

/-- A fault is raised by its owner (R189). -/
def raiseFault (code : FaultCode) (subject severity : Nat) (s : State) : State :=
  if s.hasFault code subject then s
  else if s.faults.list.length < Config.faultListSize then addFault code subject severity s
  else
    match evictable severity s.faults.list with
    | some x => setFaultOverflow (addFault code subject severity (removeFault x s))
    | none => setFaultOverflow s

/-- A fault is cleared by its owner (R190); an entry of a latched code stays. -/
def clearFault (code : FaultCode) (subject : Nat) (s : State) : State :=
  if code.latched then s
  else
    match s.faults.list.find? fun e => e.code == code && e.subject == subject with
    | none => s
    | some x => removeFault x s

/-- PRESENCE-FAULT is cleared whatever its subject (R28). -/
def clearPresence (s : State) : State :=
  (s.faults.list.filter fun e => e.code == .presenceFault).foldl (fun s e => clearFault .presenceFault e.subject s) s

/-- On entering SYNC one RAISED frame is queued for each entry, in list order (R191). -/
def queueListedFaults (s : State) : State := s.faults.list.foldl (fun s e => queueFault e true s) s

end Sys2Proof.Machine
end

