-- ==== Sys2Proof/Machine/LampOps.lean ====
section
/-! DEFINITION. The Lamp Channel Unit's shared operations (chapter 5): health with its faults and its place in the
retention record, which channels are called for and lit, the re-drive, samples and trips. -/

namespace Sys2Proof.Machine

/-! ### Channel records and the retention record (R118, R208) -/

/-- Put the channels whose health or retry count changed into the retained list. -/
def mirrorChannels : List Channel → List Channel → List (Health × Nat) → List (Health × Nat)
  | o :: os, n :: ns, r :: rs =>
    (if o.health = n.health ∧ o.retry = n.retry then r else (n.health, n.retry)) :: mirrorChannels os ns rs
  | _, _, rs => rs

/-- Write the channel records; each change of health or retry count rewrites the retention record (R118). -/
def setChannels (l : List Channel) (s : State) : State :=
  { s with
    lamps := { s.lamps with channels := l }
    retention := { s.retention with channels := mirrorChannels s.lamps.channels l s.retention.channels } }

/-- Change the n-th channel's record. -/
def modChannel (n : Nat) (f : Channel → Channel) (s : State) : State :=
  setChannels (modNth s.lamps.channels n f) s

/-- The n-th channel's record. -/
def State.channel (s : State) (n : Nat) : Channel := (nth s.lamps.channels n).getD .reset

/-- The n-th channel's profile entry. -/
def State.lampCfg (s : State) (n : Nat) : LampCfg :=
  (nth s.loader.profile.lamps n).getD { function := .unassigned, kind := .filament, imin := 10, imax := 20 }

/-! ### Health and its faults (R116) -/

/-- The fault a health calls for. -/
def Health.fault : Health → Option FaultCode
  | .untested | .good => none
  | .openCircuit => some .lampOpen
  | .overload => some .lampOverload
  | .short => some .lampShort
  | .locked => some .lampLocked

/-- The severity of a lamp fault: LAMP-OPEN of WORK and BEACON is 1, LAMP-LOCKED 3, the rest 2. -/
def lampSeverity (f : LampFn) : FaultCode → Nat
  | .lampLocked => 3
  | .lampOpen => if f = .work ∨ f = .beacon then 1 else 2
  | _ => 2

/-- Raise the fault the health of channel n calls for. -/
def raiseHealthFault (n : Nat) (h : Health) (s : State) : State :=
  match h.fault with
  | none => s
  | some c => raiseFault c n (lampSeverity (s.functionOf n) c) s

/-- Clear the fault the health of channel n called for. -/
def clearHealthFault (n : Nat) (h : Health) (s : State) : State :=
  match h.fault with
  | none => s
  | some c => clearFault c n s

/-- REAR-DEFICIENT is cleared where the rear group has become complete (R132). -/
def clearIfCompleted (before : Bool) (s : State) : State :=
  if !before && s.rearComplete then clearFault .rearDeficient 0 s else s

/-- The health of channel n becomes `h`: its sample run is none, the old fault is cleared, then the new one raised
(R111, R116); completeness is judged again (R104), and a group then complete clears REAR-DEFICIENT last: DESIGN CHOICE,
notes/assumptions/40.md. No change where the health is `h` already. -/
def setHealth (n : Nat) (h : Health) (s : State) : State :=
  let old := (s.channel n).health
  if old = h then s
  else
    clearIfCompleted s.rearComplete
      (raiseHealthFault n h (clearHealthFault n old (modChannel n (fun c => { c with health := h, run := none }) s)))

/-! ### Called for and lit (R93 to R99) -/

/-- The fallback set calls for the function (R96). -/
def State.fallbackCalls (s : State) : LampFn → Bool
  | .tail | .marker => true
  | .stop => s.brakeOn
  | .unassigned | .turnL | .turnR | .reverse | .rearFog | .plate | .work | .beacon => false

/-- A steady function is asked for, and a rear-end one only under a lighting status (R94, R97). -/
def State.steadyCalls (s : State) (f : LampFn) : Bool :=
  !f.isFlash && s.demand.eff.asks f && (!f.isRear || s.rear.status.lighting)

/-- The gate lets its lamps follow the pattern (R86). -/
def Gate.open : Gate → Bool
  | .running | .ending => true
  | .off | .armed => false

/-- A flash function's gate is open and φ lies in a lit part of its pattern (R95). -/
def State.flashCalls (s : State) : LampFn → Bool
  | .turnL => s.demand.gateL.open && s.phase.singleLit
  | .turnR => s.demand.gateR.open && s.phase.singleLit
  | .beacon => s.demand.gateB.open && s.phase.doubleLit
  | .unassigned | .tail | .stop | .reverse | .rearFog | .plate | .marker | .work => false

/-- Channel n is under its check pulse (R101). -/
def State.pulsed (s : State) (n : Nat) : Bool :=
  match s.lamps.check with
  | none => false
  | some c => c.pulse && c.todo.head? == some n

/-- Channel n is called for (R93). -/
def State.calledFor (s : State) (n : Nat) : Bool :=
  match s.seat.stage with
  | .loading | .listen => false
  | .standalone | .conflict => s.fallbackCalls (s.functionOf n)
  | .claiming | .profiling => s.seat.fallbackMark && s.fallbackCalls (s.functionOf n)
  | .checking => s.pulsed n
  | .sync => s.steadyCalls (s.functionOf n)
  | .joined => s.steadyCalls (s.functionOf n) || s.flashCalls (s.functionOf n)

/-- A channel goes lit or dark: its steady timer starts or stops (R99). -/
def Channel.setLit (f : LampFn) (lit : Bool) (c : Channel) : Channel :=
  if c.lit = lit then c else { c with lit := lit, steady := if lit && !f.isFlash then some 0 else none }

/-- A re-drive (R113): the retry count rises where it is below 3, the trial starts, and the channel is lit. -/
def Channel.redrive (f : LampFn) (c : Channel) : Channel :=
  Channel.setLit f true
    { c with
      retry := if c.retry < Config.maxRetries then c.retry + 1 else c.retry
      short := .proving
      proving := Timer.start Config.provingMs }

/-- The lit state judged again (R93, R98, R99, R113). -/
def Channel.judge (f : LampFn) (called : Bool) (c : Channel) : Channel :=
  if called && c.short == .waiting && c.health != .locked then c.redrive f
  else c.setLit f (called && c.health != .locked && c.short != .resting)

/-- Judge the channels of a list, the first of which is channel n. -/
def judgeFrom (s : State) : Nat → List Channel → List Channel
  | _, [] => []
  | n, c :: r => c.judge (s.functionOf n) (s.calledFor n) :: judgeFrom s (n + 1) r

/-- Every channel's lit state is judged again (R99). -/
def judgeLamps (s : State) : State := setChannels (judgeFrom s 1 s.lamps.channels) s

/-! ### Samples (R106, R107, R111) -/

/-- The supply lies in the window of the nominal supply. -/
def supplyInWindow (vn v : Nat) : Bool :=
  if vn = 12000 then decide (9000 ≤ v) && decide (v ≤ 16000) else decide (18000 ≤ v) && decide (v ≤ 32000)

/-- The normalised current. -/
def normalised (k : LampKind) (vn i v : Nat) : Nat :=
  match k with
  | .filament => i * vn / v
  | .led => i * v / vn

/-- The class of a sample. -/
def classify (cfg : LampCfg) (vn i v : Nat) : SampleClass :=
  let n := normalised cfg.kind vn i v
  if n < cfg.imin then .openCircuit else if cfg.imax < n then .overload else .good

/-- The outcome recorded for a class. -/
def SampleClass.outcome : SampleClass → SampleOutcome
  | .good => .good | .openCircuit => .openCircuit | .overload => .overload

/-- The health a class moves a channel to. -/
def SampleClass.health : SampleClass → Health
  | .good => .good | .openCircuit => .openCircuit | .overload => .overload

/-- Record a sample in the last sample. -/
def recordSample (n i v : Nat) (o : SampleOutcome) (s : State) : State :=
  modChannel n (fun c => { c with last := some { current := i, supply := v, outcome := o } }) s

/-- The health moves to the class of three samples; a move to GOOD clears the retry count (R111). -/
def moveHealth (n : Nat) (k : SampleClass) (s : State) : State :=
  let s := setHealth n k.health s
  if k = .good then modChannel n (fun c => { c with retry := 0 }) s else s

/-- A classified service sample is taken against the health and the sample run (R111). -/
def takeClass (n : Nat) (k : SampleClass) (s : State) : State :=
  let c := s.channel n
  if k.health = c.health then modChannel n (fun c => { c with run := none }) s
  else
    match c.run with
    | some (r, m) =>
      if r = k then
        if m = 1 then modChannel n (fun c => { c with run := some (k, 2) }) s else moveHealth n k s
      else modChannel n (fun c => { c with run := some (k, 1) }) s
    | none => modChannel n (fun c => { c with run := some (k, 1) }) s

/-- A service sample (R106, R107, R111). A raw current at or above the trip level is classified like any other, and is no trip by itself:
DESIGN CHOICE, notes/assumptions/66.md. -/
def serviceSample (n i v : Nat) (s : State) : State :=
  let vn := s.loader.profile.vn
  if supplyInWindow vn v then
    let k := classify (s.lampCfg n) vn i v
    takeClass n k (recordSample n i v k.outcome s)
  else recordSample n i v .skipped s

/-! ### Trips (R91, R102, R108, R112, R115) -/

/-- The trip level of a channel. -/
def tripLevel (imax : Nat) : Nat := min (imax * 5 / 2) 10000

/-- A driver cut off for a short: dark, RESTING, the rest timer started. -/
def Channel.cutOff (c : Channel) : Channel :=
  { c with
    lit := false, steady := none, run := none, short := .resting, rest := Timer.start Config.restMs
    proving := .stopped }

/-- A short is handled: the health becomes SHORT, the channel rests, LAMP-SHORT is raised. -/
def takeShort (n : Nat) (s : State) : State :=
  raiseHealthFault n .short (setHealth n .short (modChannel n Channel.cutOff s))

/-- A trip in a check pulse (R102): the retry count is 0 and the pulse is over. -/
def checkTrip (n : Nat) (s : State) : State :=
  let s := takeShort n (modChannel n (fun c => { c with retry := 0 }) s)
  { s with lamps := { s.lamps with check := s.lamps.check.map fun c => { c with pulse := false } } }

/-- A trip that locks the channel out (R115). -/
def lockOut (n : Nat) (s : State) : State :=
  setHealth n .locked
    (modChannel n
      (fun c =>
        { c with lit := false, steady := none, run := none, short := .none, rest := .stopped, proving := .stopped })
      s)

/-- A trip in service (R112, R115). -/
def serviceTrip (n : Nat) (s : State) : State :=
  if (s.channel n).retry < Config.maxRetries then takeShort n s else lockOut n s

/-! ### The circuit check (R100, R103) -/

/-- The numbers of the channels of a list, the first of which is n, that satisfy a test. -/
def numbersFrom (p : Nat → Channel → Bool) : Nat → List Channel → List Nat
  | _, [] => []
  | n, c :: r => if p n c then n :: numbersFrom p (n + 1) r else numbersFrom p (n + 1) r

/-- The channel is assigned (R91). -/
def State.assigned (s : State) (n : Nat) : Bool := s.functionOf n != .unassigned

/-- The channels to be tested: assigned and not LOCKED (R100). -/
def State.underTest (s : State) : List Nat :=
  numbersFrom (fun n c => s.assigned n && c.health != .locked) 1 s.lamps.channels

/-- One channel is prepared for testing (R100). -/
def prepareChannel (s : State) (n : Nat) : State :=
  let s := setHealth n .untested s
  let s :=
    modChannel n
      (fun c => { c with retry := 0, run := none, short := .none, rest := .stopped, proving := .stopped }) s
  clearFault .lampShort n (clearFault .lampOverload n (clearFault .lampOpen n s))

/-- Every channel is dark and a LOCKED channel's retry count is 0 (R100). -/
def darkenAll (s : State) : State :=
  setChannels
    (s.lamps.channels.map fun c =>
      { c with lit := false, steady := none, retry := if c.health = .locked then 0 else c.retry }) s

/-- The circuit check is prepared and its first pulse is due (R100). -/
def beginCheck (s : State) : State :=
  let test := s.underTest
  let s := darkenAll (test.foldl prepareChannel s)
  { s with lamps := { s.lamps with check := some { todo := test, turn := 0, pulse := true } } }

/-- The results of a check (R103). -/
def State.checkResults (s : State) : CheckSummary :=
  let l := s.lampHealth.filter fun e => e.1 != .unassigned
  { good := (l.filter fun e => e.2 == .good).length
    failed := (l.filter fun e => e.2 != .good && e.2 != .overload).length
    complete := s.rearComplete }

/-- Every assigned channel has been tested (R19). -/
def State.allTested (s : State) : Bool :=
  s.lampHealth.all fun e => e.1 == .unassigned || e.2 != .untested

end Sys2Proof.Machine
end

