-- ==== Sys2Proof/Machine/DemandOps.lean ====
section
/-! DEFINITION. The Demand Merger's shared operations (chapter 4): the own contribution, sending DEMAND, fallback, the
effective demand and the flash gates. -/

namespace Sys2Proof.Machine

/-- What one demand input places in the own contribution (R74 to R76). -/
def placed (cfg : DinCfg) (level : Bool) (hold : Timer) : DemandSet :=
  match cfg with
  | .steady m => if level then .single m else .empty
  | .flasher m => if level || hold.isRunning then .single m else .empty
  | .unused | .bodySwitch _ => .empty

/-- What the inputs of three lists place together. -/
def placedAll : List DinCfg → List Bool → List Timer → DemandSet
  | c :: cs, l :: ls, h :: hs => (placed c l h).union (placedAll cs ls hs)
  | _, _, _ => .empty

/-- The hazard part's share. -/
def hazardShare (on : Bool) : DemandSet := if on then .single .hazard else .empty

/-- The own contribution by the inputs and the hazard part (R77). -/
def State.contribution (s : State) : DemandSet :=
  (placedAll s.loader.profile.dins s.demand.levels s.demand.holds).union (hazardShare s.demand.hazard)

/-- Some hazard-raising body channel is RUNNING (R161). -/
def State.hazardDue (s : State) : Bool :=
  (s.loader.profile.bodies.zip s.body.channels).any fun e => e.1.hazardRaising && e.2.running

/-- Queue a DEMAND with the own contribution and restart the repeat timer (R78, R79). -/
def sendDemand (s : State) : State :=
  offer (.demand s.demand.own s.loader.profile.origin false)
    { s with demand := { s.demand with repeatTimer := Timer.start Config.repeatMs } }

/-- Queue the withdraw DEMAND and fall SILENT (R79). -/
def withdrawDemand (s : State) : State :=
  offer (.demand .empty false true) { s with demand := { s.demand with repeatTimer := .stopped, active := false } }

/-- A non-origin station becomes or stays ACTIVE and sends (R79). -/
def sendActive (s : State) : State := sendDemand { s with demand := { s.demand with active := true } }

/-- SYNC is entered: DEMAND sending begins (R78, R79). -/
def beginDemand (s : State) : State :=
  if s.loader.profile.origin then sendDemand s
  else if s.demand.own = .empty then s else sendActive s

/-- The own contribution has changed, or the hazard part, which is taken as such a change (R78, R79, R161); outside SYNC and JOINED nothing
is queued. -/
def sendChange (s : State) : State :=
  if !s.serving then s
  else if s.loader.profile.origin then sendDemand s
  else if s.demand.own = .empty then (if s.demand.active then withdrawDemand s else s) else sendActive s

/-- The hazard part and the own contribution are worked out again (R77). A change of the contribution is sent, and each change of the
hazard part is taken as one, also where an input that places HAZARD too leaves the set as it was (R161). -/
def judgeOwn (s : State) : State :=
  let t := { s with demand := { s.demand with hazard := s.hazardDue } }
  if s.hazardDue = s.demand.hazard ∧ t.contribution = s.demand.own then s
  else sendChange { t with demand := { t.demand with own := t.contribution } }

/-- The conditions of fallback hold (R84). -/
def State.fallbackDue (s : State) : Bool :=
  s.serving && !s.loader.profile.origin && s.demand.table.all fun e => !e.2.origin

/-- The fallback flag is judged again (R84). -/
def judgeFallback (s : State) : State :=
  if s.fallbackDue = s.demand.fallback then s
  else
    let s := { s with demand := { s.demand with fallback := s.fallbackDue } }
    if s.demand.fallback then raiseFault .demandLost 0 2 s else clearFault .demandLost 0 s

/-- The union of the sets of a demand table. -/
def tableUnion (t : Table DemandEntry) : DemandSet := t.foldl (fun d e => d.union e.2.set) .empty

/-- What fallback adds to the effective demand (R84). -/
def State.fallbackShare (s : State) : DemandSet :=
  if s.demand.fallback then
    (DemandSet.single .tail).union (if s.brakeOn then .single .stop else .empty)
  else .empty

/-- The effective demand by its inputs (R83, R84). -/
def State.effective (s : State) : DemandSet :=
  (s.demand.own.union (tableUnion s.demand.table)).union s.fallbackShare

/-- The effective demand is worked out again (R83). -/
def judgeEff (s : State) : State := { s with demand := { s.demand with eff := s.effective } }

/-- One flash gate judged again (R86, R87): `asked` in JOINED, φ in a lit part. -/
def Gate.judge (joined asked lit : Bool) : Gate → Gate
  | .off | .armed => if joined && asked then .armed else .off
  | .running | .ending =>
    if !joined then .off else if asked then .running else if lit then .ending else .off

/-- The flash gates are judged again. -/
def judgeGates (s : State) : State :=
  let d := s.demand
  { s with
    demand :=
      { d with
        gateL := d.gateL.judge s.joined (d.eff.asks .turnL) s.phase.singleLit
        gateR := d.gateR.judge s.joined (d.eff.asks .turnR) s.phase.singleLit
        gateB := d.gateB.judge s.joined (d.eff.asks .beacon) s.phase.doubleLit } }

/-- An ARMED gate becomes RUNNING at a wrap in JOINED (R86). -/
def Gate.wrapped : Gate → Gate
  | .armed => .running
  | .off => .off
  | .running => .running
  | .ending => .ending

/-- The gates take a wrap (R86). -/
def wrapGates (s : State) : State :=
  if s.joined then
    { s with
      demand :=
        { s.demand with
          gateL := s.demand.gateL.wrapped, gateR := s.demand.gateR.wrapped, gateB := s.demand.gateB.wrapped } }
  else s

end Sys2Proof.Machine
end

