-- ==== Sys2Proof/Machine/RearOps.lean ====
section
/-! DEFINITION. The Rear-End Logic's shared operations (chapter 6), and the operations over the own roster entry. -/

namespace Sys2Proof.Machine

/-- Change the own roster entry (R33). -/
def modOwnEntry (f : RosterEntry → RosterEntry) (s : State) : State :=
  if s.seated then
    { s with roster := { s.roster with entries := Table.modify s.roster.entries s.seat.ownSeat f } }
  else s

/-- The rear-end note of the own entry. -/
def State.ownNote (s : State) : Note :=
  ((Table.get s.roster.entries s.seat.ownSeat).map RosterEntry.note).getD .none

/-- Queue a rear-end notice and note it in the own entry (R33), also where a full queue drops the notice: DESIGN CHOICE,
notes/assumptions/39.md. -/
def queueNotice (f : Frame) (n : Note) (s : State) : State :=
  modOwnEntry (fun e => { e with note := n }) (offer f s)

/-- Set the rear-end status. -/
def setRear (r : RearStatus) (s : State) : State := { s with rear := { s.rear with status := r } }

/-- Set the rear neighbour's deficiency. -/
def setNeighbour (d : Option Deficiency) (s : State) : State := { s with rear := { s.rear with neighbour := d } }

/-- The lighting status by PRES-IN (R122). -/
def State.lightingByPres (s : State) : RearStatus :=
  if s.seat.presIn then (if s.rear.neighbour.isSome then .retained else .pending) else .holder

/-- The entry decision (R122 to R124). -/
def entryDecision (s : State) : State :=
  if s.seat.ownSeat = 1 then setRear s.lightingByPres s
  else if s.rearComplete then setRear s.lightingByPres (queueNotice .stageTake .taken s)
  else
    let s := queueNotice (.stageDecline s.deficiency) .declined s
    if s.seat.presIn then s else raiseFault .rearDeficient 0 2 s

/-- REAR-DEFICIENT is raised where the group is incomplete (R129, R130). -/
def raiseIfDeficient (s : State) : State :=
  if s.rearComplete then s else raiseFault .rearDeficient 0 2 s

/-- A STAGE TAKE from behind (R125). -/
def takeFromBehind (sender : Nat) (s : State) : State :=
  let s :=
    if s.rear.status.lighting then queueNotice .stageYield .yielded (setRear .none s) else s
  let s := clearFault .rearDeficient 0 s
  if sender = s.seat.ownSeat + 1 then setNeighbour none s else s

/-- A STAGE TAKE from in front (R126). -/
def takeFromFront (s : State) : State :=
  if s.joined && s.rear.status.lighting then queueNotice .stageTake .taken s else s

/-- A STAGE TAKE at a seated station (R125, R126). -/
def rearTake (sender : Nat) (s : State) : State :=
  if !s.seated then s
  else if s.seat.ownSeat < sender then takeFromBehind sender s
  else if sender < s.seat.ownSeat then takeFromFront s
  else s

/-- A STAGE DECLINE at a seated station (R127). -/
def rearDecline (sender : Nat) (d : Deficiency) (s : State) : State :=
  if s.seated && sender == s.seat.ownSeat + 1 then
    let s := setNeighbour (some d) s
    if s.rear.status = .pending then setRear .retained s else s
  else s

/-- PRES-IN became asserted (R128). -/
def rearPresence (s : State) : State := if s.rear.status = .holder then setRear .pending s else s

/-- The own UNCOUPLED DEPART is queued (R129). -/
def rearUncoupled (s : State) : State :=
  let s := setNeighbour none s
  if s.joined then raiseIfDeficient (setRear .holder s) else s

/-- A DEPART listing the own seat plus 1 but not the own seat is applied (R130). -/
def rearDepart (l : List Nat) (s : State) : State :=
  if s.seated && l.contains (s.seat.ownSeat + 1) && !l.contains s.seat.ownSeat then
    let s := setNeighbour none s
    if s.rear.status = .retained then
      if s.seat.presIn then setRear .pending s else raiseIfDeficient (setRear .holder s)
    else s
  else s

end Sys2Proof.Machine
end

