-- ==== Sys2Proof/Machine/BodyOps.lean ====
section
/-! DEFINITION. The Body Unit's shared operations (chapter 8): requests, endings, BODY STATUS and the relay record. -/

namespace Sys2Proof.Machine

/-- Change the n-th body channel's record. -/
def modBody (n : Nat) (f : BodyChannel → BodyChannel) (s : State) : State :=
  { s with body := { s.body with channels := modNth s.body.channels n f } }

/-- The n-th body channel's record. -/
def State.bodyChannel (s : State) (n : Nat) : BodyChannel := (nth s.body.channels n).getD .reset

/-- The n-th body channel's profile entry; a channel outside 1..4 is unassigned. -/
def State.bodyCfg (s : State) (n : Nat) : BodyCfg :=
  (nth s.loader.profile.bodies n).getD
    { kind := 0, motionInhibited := false, parkRequired := false, hazardRaising := false, limit := 1 }

/-- Queue a BODY STATUS for channel n as it stands (R162). -/
def queueStatus (n : Nat) (o : BodyOutcome) (tag : Nat) (s : State) : State :=
  offer (.bodyStatus n (s.bodyChannel n).running o tag) s

/-- A request is refused (R152): only the last tag changes. -/
def refuse (n : Nat) (o : BodyOutcome) (tag : Nat) (s : State) : State :=
  queueStatus n o tag (modBody n (fun c => { c with lastTag := tag }) s)

/-- The result of a START's checks: the first that applies, or none where it is served (R152). -/
def State.startRefusal (s : State) (n : Nat) : Option BodyOutcome :=
  let c := s.bodyCfg n
  if !s.joined then some .notReady
  else if c.kind = 0 then some .noChannel
  else if (s.bodyChannel n).running then some .busy
  else if c.motionInhibited && s.sensor.view then some .interlock
  else if c.parkRequired && !s.demand.eff.park then some .interlock
  else none

/-- A START is served (R153). The order of the clear, the DEMAND and the BODY STATUS is notes/assumptions/32.md. -/
def serveStart (n tag : Nat) (s : State) : State :=
  let limit := 1000 * (s.bodyCfg n).limit
  let s := modBody n (fun c => { c with running := true, timer := Timer.start limit, lastTag := tag, runTag := tag }) s
  queueStatus n .started tag (judgeOwn (clearFault .bodyTripped n s))

/-- A START request (R152, R153). -/
def bodyStart (n tag : Nat) (s : State) : State :=
  match s.startRefusal n with
  | some o => refuse n o tag s
  | none => serveStart n tag s

/-- A run ends: the channel is IDLE with the outcome, and its hazard part is judged again (R161), before BODY STATUS is queued
(notes/assumptions/32.md). -/
def stopRun (n : Nat) (o : BodyOutcome) (s : State) : State :=
  judgeOwn (modBody n (fun c => { c with running := false, timer := .stopped, outcome := o }) s)

/-- A STOP request (R154). -/
def bodyStop (n tag : Nat) (s : State) : State :=
  if (s.bodyCfg n).kind = 0 then offer (.bodyStatus n false .noChannel tag) s
  else
    let s := modBody n (fun c => { c with lastTag := tag }) s
    if (s.bodyChannel n).running then queueStatus n .stopped tag (stopRun n .stopped s)
    else queueStatus n (s.bodyChannel n).outcome tag s

/-- A request for an own channel (section 8.2). -/
def ownRequest (n : Nat) (start : Bool) (tag : Nat) (s : State) : State :=
  if start then bodyStart n tag s else bodyStop n tag s

/-- An ending taken without a request: of a RUNNING channel only, reported with the run tag (section 8.3). -/
def endRun (o : BodyOutcome) (s : State) (n : Nat) : State :=
  if (s.bodyChannel n).running then queueStatus n o (s.bodyChannel n).runTag (stopRun n o s) else s

/-- The body channels. -/
def bodyNumbers : List Nat := [1, 2, 3, 4]

/-- End the runs of the channels of which a test holds, in channel order: DESIGN CHOICE, notes/assumptions/43.md. -/
def endRuns (o : BodyOutcome) (p : BodyCfg → Bool) (s : State) : State :=
  (bodyNumbers.filter fun n => p (s.bodyCfg n)).foldl (endRun o) s

/-- Every run ends outside JOINED (R159). -/
def endWithdrawn (s : State) : State := if s.joined then s else endRuns .withdrawn (fun _ => true) s

/-- Motion-inhibited runs end while the view is MOVING (R156). -/
def endMotion (s : State) : State :=
  if s.sensor.view then endRuns .motion (fun c => c.motionInhibited) s else s

/-- Park-required runs end while PARK is not in the effective demand (R157). -/
def endPark (s : State) : State :=
  if s.demand.eff.park then s else endRuns .parkLost (fun c => c.parkRequired) s

/-! ### The relay record (R164, R165) -/

/-- Set the relay state, the reply timer kept. -/
def setRelay (r : RelayState) (s : State) : State :=
  { s with body := { s.body with relay := { s.body.relay with state := r } } }

/-- Stop the relay's reply timer. -/
def stopRelayTimer (s : State) : State :=
  { s with body := { s.body with relay := { s.body.relay with timer := .stopped } } }

/-- A relayed request is taken (R164). -/
def relayRequest (target channel : Nat) (start : Bool) (tag : Nat) (s : State) : State :=
  let r : Relay :=
    { state := .notSent, target := target, channel := channel, start := start, tag := tag, reply := none,
      timer := .stopped, frameId := s.line.nextId }
  if s.seated then
    offer (.bodyRequest target channel start tag)
      { s with
        body := { s.body with relay := { r with state := .waiting, timer := Timer.start Config.relayReplyMs } } }
  else { s with body := { s.body with relay := r } }

/-- A BODY STATUS matches the relay record (R165). -/
def Relay.takes (r : Relay) (sender channel tag : Nat) : Bool :=
  (r.state == .sent || r.state == .answered || r.state == .noReply) &&
    sender == r.target && channel == r.channel && tag == r.tag

/-- The reply timer expires (R164). -/
def relayExpiry (s : State) : State :=
  let r := s.body.relay
  if r.state = .waiting ∧ s.pendingId r.frameId then relayNotSent (withdrawId r.frameId s)
  else stopRelayTimer (setRelay .noReply s)

end Sys2Proof.Machine
end

