-- ==== Sys2Proof/Machine/SensorOps.lean ====
section
/-! DEFINITION. The Sensor Unit's shared operations (chapter 7): scaling, thresholds, counting, motion and the sending of
REPORT. -/

namespace Sys2Proof.Machine

/-! ### Analog inputs (R134 to R136) -/

/-- The counts nearest to a voltage, with 1,023 of them over 5,000 mV. -/
def nearestCounts (mv : Nat) : Nat := (mv * 1023 + 2500) / 5000

/-- The counts below a voltage, with 1,024 of them over 5,000 mV. -/
def stepCounts (mv : Nat) : Nat := mv * 1024 / 5000

/-- The counts of a reading (R134): about 4.9 mV per count. The rule gives no rounding, and the counts are those of the reading
within the two scales that give the counts it states for 500 mV and 4,500 mV (notes/assumptions/7.md). -/
def countsOf (a : AnalogSample) : Nat :=
  if 5000 ≤ a.millivolts then 1023
  else if a.millivolts ≤ 0 then 0
  else
    let mv := a.millivolts.toNat
    max (min (nearestCounts mv) (stepCounts mv)) (min (max (nearestCounts mv) (stepCounts mv)) a.counts)

/-- A value saturated to 16 signed bits. -/
def saturate (v : Int) : Int := if v < -32768 then -32768 else if 32767 < v then 32767 else v

/-- The scaled value (R135). -/
def scaled (cfg : AnalogCfg) (c : Nat) : Int := saturate (cfg.offset + (c : Int) * cfg.gain / 256)

/-- The threshold state judged from a new value (R136). -/
def thresholdState (cfg : AnalogCfg) (v : Int) (before : Bool) : Bool :=
  if cfg.onAt ≤ v then true else if v < cfg.offAt then false else before

/-- One input's conversion; an input not in use keeps its record (R133, R134). -/
def convert (cfg : AnalogCfg) (a : AnalogSample) (r : Analog) : Analog :=
  if cfg.inUse then
    let c := countsOf a
    let v := scaled cfg c
    { counts := c, value := v, on := thresholdState cfg v r.on, converted := true }
  else r

/-- Every input's conversion, in one event. -/
def convertAll : List AnalogCfg → List AnalogSample → List Analog → List Analog
  | c :: cs, a :: as, r :: rs => convert c a r :: convertAll cs as rs
  | _, _, rs => rs

/-- Some analog input is in use. -/
def State.analogInUse (s : State) : Bool := s.loader.profile.analog.any AnalogCfg.inUse

/-! ### REPORT (R146, R147) -/

/-- The length the COUNTS timer takes (R146). -/
def State.countsLength (s : State) : Nat :=
  if s.sensor.moving then min s.loader.profile.report Config.movingReportMs else s.loader.profile.report

/-- Queue a REPORT COUNTS and restart its timer, in SYNC and JOINED (R146). -/
def queueCounts (s : State) : State :=
  if s.serving then
    offer (.reportCounts none) { s with sensor := { s.sensor with countsTimer := Timer.start s.countsLength } }
  else s

/-- Queue a REPORT ANALOG and restart its timer, in SYNC and JOINED with an input in use (R147). -/
def queueAnalog (s : State) : State :=
  if s.serving && s.analogInUse then
    offer (.reportAnalog none)
      { s with sensor := { s.sensor with analogTimer := Timer.start s.loader.profile.report } }
  else s

/-! ### Pulse counters (R138 to R140) -/

/-- The n-th pulse input's entry. -/
def State.pulseCfg (s : State) (n : Nat) : PulseCfg :=
  (nth s.loader.profile.pulses n).getD { role := .notInUse, edge := .rising, cascade := false }

/-- The edge selection counts a change to the level. -/
def EdgeSel.takes : EdgeSel → Bool → Bool
  | .rising, l => l
  | .falling, l => !l
  | .both, _ => true

/-- Add 1 to the n-th counter, in the retention record (R140). -/
def bumpCounter (n : Nat) (s : State) : State :=
  { s with retention := { s.retention with counts := modNth s.retention.counts n fun c => c + 1 } }

/-- A counted edge: the counter rises, and a cascaded first counter that wraps carries into the next (R138, R139). -/
def countEdge (n : Nat) (s : State) : State :=
  let s := bumpCounter n s
  if (s.pulseCfg n).cascade && nth s.retention.counts n == some 0 then bumpCounter (n + 1) s else s

/-- Set the own motion; a change queues a REPORT COUNTS (R142, R146). -/
def setMotion (m : Bool) (s : State) : State :=
  if s.sensor.moving = m then s else queueCounts { s with sensor := { s.sensor with moving := m } }

/-- A counted edge of a WHEEL input (R142). -/
def wheelEdge (s : State) : State :=
  let again := s.sensor.wheel.isRunning
  let s := { s with sensor := { s.sensor with wheel := Timer.start Config.wheelMs } }
  if again then setMotion true s else s

/-! ### The motion table and the view (R143 to R145) -/

/-- The combination motion view is judged again (R145). -/
def judgeView (s : State) : State :=
  { s with
    sensor := { s.sensor with view := s.sensor.moving || s.sensor.table.any fun e => e.2.moving && !e.2.stale } }

end Sys2Proof.Machine
end

