-- ==== Sys2Proof/Machine/Settle.lean ====
section
/-! DEFINITION. What follows from an event in the same event: the states that are judged again whenever their inputs may
have changed. The order is notes/assumptions/32.md. -/

namespace Sys2Proof.Machine

/-- The offer condition (R12). -/
def State.offerDue (s : State) : Bool :=
  s.serving && s.seat.presIn && decide (s.seat.ownSeat < 8) &&
    !Table.holds s.roster.entries (s.seat.ownSeat + 1)

/-- The frame is a SEAT OFFER. -/
def Frame.isOffer : Frame → Bool
  | .seatOffer _ => true
  | _ => false

/-- Queue a SEAT OFFER for the seat behind. -/
def sendOffer (s : State) : State := offer (.seatOffer (s.seat.ownSeat + 1)) s

/-- Start the offer timer. -/
def startOfferTimer (s : State) : State := { s with seat := { s.seat with offer := Timer.start Config.offerMs } }

/-- The offer condition is judged again: becoming true it queues a SEAT OFFER and starts the timer, becoming false it
stops the timer and withdraws a pending offer (R12). -/
def judgeOffer (s : State) : State :=
  if s.offerDue then (if s.seat.offer.isRunning then s else startOfferTimer (sendOffer s))
  else if s.seat.offer.isRunning then
    withdraw Frame.isOffer { s with seat := { s.seat with offer := .stopped } }
  else s

/-- Every judgement that an event may call for, in the order of notes/assumptions/32.md. -/
def settle (s : State) : State :=
  judgeOffer <| judgeLamps <| judgeGates <| judgeEff <| judgeOwn <| endPark <| judgeEff <| judgeFallback <|
    judgeOwn <| endMotion <| endWithdrawn <| judgeView s

/-- An event that the state admits has its effect and what follows from it; one that the state excludes changes nothing
(notes/assumptions/3.md). -/
def takeIf (admitted : Bool) (s : State) (effect : State → State) : State :=
  if admitted then settle (effect s) else s

end Sys2Proof.Machine
end

