-- ==== Sys2Proof/Machine/SeatOps.lean ====
section
/-! DEFINITION. The Seat Controller's shared operations (chapter 1): claims, the stage transitions, what each entry into
a stage does in the other blocks, the PROFILE sequence that drives PROFILING (chapter 2), and the end of a seat. -/

namespace Sys2Proof.Machine

/-! ### Small updates -/

/-- Set the stage. -/
def setStage (g : Stage) (s : State) : State := { s with seat := { s.seat with stage := g } }

/-- Write the seat into the retention record (R208). -/
def retainSeat (n : Nat) (s : State) : State :=
  { s with retention := { s.retention with valid := true, seat := n } }

/-- The identity of the station is not zero. -/
def State.hasIdentity (s : State) : Bool := s.loader.identity != 0

/-! ### The PROFILE sequence (R41, R42, R46, R47) -/

/-- Offer the current segment to the queue. -/
def offerSegment (s : State) : State :=
  match s.roster.announce with
  | none => s
  | some a =>
    let b := ownSummaryBytes s.loader
    offer (.profile a.index (segmentTotal b) (segmentData b a.index))
      { s with roster := { s.roster with announce := some { a with reoffer := false } } }

/-- Put the announcement state. -/
def setAnnounce (a : Option Sending) (s : State) : State := { s with roster := { s.roster with announce := a } }

/-- Begin a sequence at segment 0. -/
def beginSequence (p : Purpose) (s : State) : State :=
  offerSegment (setAnnounce (some { purpose := p, index := 0, restart := false, reoffer := false }) s)

/-- The frame is a PROFILE segment. -/
def Frame.isProfile : Frame → Bool
  | .profile _ _ _ => true
  | _ => false

/-- Restart a sequence in progress from segment 0 (R42); one awaiting a new offer is offered segment 0 at once
(notes/assumptions/14.md). -/
def restartSequence (p : Purpose) (a : Sending) (s : State) : State :=
  let p := if a.purpose = .initial then .initial else p
  if s.line.queue.any fun e => e.frame.isProfile && e.inFlight then
    setAnnounce (some { a with purpose := p, restart := true }) s
  else beginSequence p (withdraw Frame.isProfile s)

/-- A sequence is begun, or the one in progress restarted; a mute station queues no segment (R42). -/
def runSequence (p : Purpose) (s : State) : State :=
  if s.line.mute then s
  else
    match s.roster.announce with
    | none => beginSequence p s
    | some a => restartSequence p a s

/-- Act on the re-announcement-due flag (R46). -/
def actOnDue (s : State) : State :=
  if s.roster.due && s.joined && !s.line.mute then
    runSequence .announce { s with roster := { s.roster with due := false } }
  else s

/-! ### JOINED (R22) -/

/-- JOINED is entered: the own entry, the entry decision, STAGE JOINED, and a due re-announcement. -/
def enterJoined (s : State) : State :=
  let s := setStage .joined { s with phase := { s.phase with syncTimer := .stopped } }
  let s := entryDecision (modOwnEntry (fun e => { e with stage := .joined }) s)
  actOnDue (offer (.stageJoined s.ownNote) s)

/-! ### SYNC (R13, R21, R66) -/

/-- A station at seat 8 in SYNC or JOINED with PRES-IN asserted raises COMBINATION-FULL (R13). -/
def judgeFull (s : State) : State :=
  if s.serving && s.seat.ownSeat == 8 && s.seat.presIn then raiseFault .combinationFull 0 1 s else s

/-- SYNC is entered (R21). DEMAND, REPORT COUNTS, REPORT ANALOG and the FAULT frames are queued in this order, and COMBINATION-FULL is
raised before the DEMAND-LOST of a station that has heard no origin (R84): DESIGN CHOICE, notes/assumptions/42.md. -/
def enterSync (s : State) : State :=
  let s := { s with seat := { s.seat with stage := .sync, fallbackMark := false } }
  let s := { s with phase := { s.phase with marked := false, syncTimer := Timer.start (3 * s.phase.period) } }
  judgeFull (queueListedFaults (queueAnalog (queueCounts (beginDemand s))))

/-! ### CHECKING (R20, R103) -/

/-- The circuit check is done: STAGE CHECKED, the own entry's check summary, SYNC. The own entry is CHECKED (R33) also where a full
queue drops STAGE CHECKED as it is offered: DESIGN CHOICE, notes/assumptions/55.md. -/
def checkDone (s : State) : State :=
  let r := s.checkResults
  let s := { s with lamps := { s.lamps with check := none } }
  let s := offer (.stageChecked r.good r.failed r.complete) s
  enterSync (modOwnEntry (fun e => { e with stage := .checked, check := some r }) s)

/-- The check is over where no channel is left to be tested (R101). -/
def finishCheck (s : State) : State :=
  match s.lamps.check with
  | none => s
  | some c => if c.todo.isEmpty then checkDone s else s

/-- CHECKING is entered. -/
def enterChecking (s : State) : State :=
  finishCheck (beginCheck { s with seat := { s.seat with stage := .checking, fallbackMark := false } })

/-! ### PROFILING (R16, R19) -/

/-- The last segment has been sent, or is taken as sent. -/
def profilingEnd (s : State) : State :=
  let s := modOwnEntry (fun e => { e with stage := .profiled }) (setAnnounce none s)
  if (s.seat.claimRejoin || s.seat.reseat) && s.allTested then enterSync s else enterChecking s

/-- A segment has been sent to its end (R41, R42). -/
def segmentSent (s : State) : State :=
  match s.roster.announce with
  | none => s
  | some a =>
    if a.restart then beginSequence a.purpose s
    else if a.index + 1 < segmentTotal (ownSummaryBytes s.loader) then
      offerSegment (setAnnounce (some { a with index := a.index + 1 }) s)
    else
      match a.purpose with
      | .initial => profilingEnd s
      | .announce => offer (.stageJoined s.ownNote) (setAnnounce none s)
      | .defence => setAnnounce none s

/-- The own entry as created (R32). -/
def State.newOwnEntry (s : State) : RosterEntry :=
  { identity := s.loader.identity, cls := s.loader.profile.cls, stage := .claimed, rejoin := s.seat.claimRejoin,
    note := .none, profile := some (ownSummary s.loader), check := none, fault := some (summaryOf s s.faults.list) }

/-- A seated station that is not the head and has SEAT-IN deasserted raises FRONT-LINK-LOST (R25). -/
def judgeFront (s : State) : State :=
  if s.seated && !s.seat.head && !s.seat.seatIn then raiseFault .frontLinkLost 0 2 s else s

/-- The station is seated at its claimed seat and PROFILING is entered (R16, R19). SEAT-UNAVAILABLE is cleared before FRONT-LINK-LOST
is raised: DESIGN CHOICE, notes/assumptions/35.md. -/
def becomeSeated (s : State) : State :=
  let p := s.seat.claimed
  let s :=
    { s with
      seat := { s.seat with stage := .profiling, ownSeat := p, claimed := 0, claim := .none, window := .stopped }
      retention := { s.retention with valid := true, seat := p, identity := s.loader.identity } }
  let s := { s with roster := { s.roster with entries := Table.set s.roster.entries p s.newOwnEntry } }
  let s := judgeFront (clearFault .seatUnavailable 0 s)
  if s.line.mute then profilingEnd s else beginSequence .initial s

/-! ### Claims (R10, R14, R23, R24) -/

/-- Queue the own SEAT CLAIM and enter CLAIMING. -/
def queueClaim (seat : Nat) (rejoin : Bool) (s : State) : State :=
  offer (.seatClaim seat s.loader.identity s.loader.profile.cls rejoin)
    { s with
      seat :=
        { s.seat with
          stage := .claiming, claimed := seat, claim := .pending, claimId := s.line.nextId, claimRejoin := rejoin } }

/-- The warm rejoin claim is tried (R23). -/
def tryWarmClaim (s : State) : State :=
  match s.seat.rejoin with
  | none => s
  | some p =>
    if s.seat.stage == .listen && (s.seat.head || s.seat.seatIn) && s.hasIdentity && !s.line.mute then
      queueClaim p true s
    else s

/-- The conditions of accepting a SEAT OFFER other than the stage (R14); seats lie in 1..8 (notes/assumptions/12.md). -/
def State.mayAccept (s : State) (sender seat : Nat) : Bool :=
  !s.seat.head && s.seat.seatIn && s.hasIdentity && !s.line.mute && seat == sender + 1 && decide (seat ≤ 8)

/-- Withdraw the own claim where it is PENDING. -/
def withdrawClaim (s : State) : State :=
  if s.seat.claim = .pending then withdrawId s.seat.claimId s else s

/-- An offer that meets the conditions is taken by stage (R14, R24). -/
def acceptOffer (seat : Nat) (s : State) : State :=
  match s.seat.stage with
  | .listen => queueClaim seat false s
  | .standalone =>
    queueClaim seat false
      { s with seat := { s.seat with fallbackMark := true, unseated := Timer.start Config.unseatedMs } }
  | .claiming =>
    match s.seat.rejoin with
    | none => s
    | some p =>
      if s.seat.claim = .pending ∧ s.seat.claimRejoin = true ∧ seat ≠ p then
        queueClaim seat false
          (retainSeat 0 { withdrawClaim s with seat := { s.seat with rejoin := none } })
      else s
  | .loading | .profiling | .checking | .sync | .joined | .conflict => s

/-! ### STANDALONE and CONFLICT (R8, R9, R30) -/

/-- STANDALONE is entered by an unseated station, or by one that has left its seat (R8). -/
def enterStandalone (s : State) : State :=
  retainSeat 0
    { s with
      seat :=
        { s.seat with
          stage := .standalone, ownSeat := 0, rejoin := none, claimed := 0, claim := .none, fallbackMark := false,
          expiryHeld := false, headListen := .stopped, unseated := .stopped, window := .stopped, offer := .stopped,
          departure := .stopped, answered := [] } }

/-- STANDALONE is entered by the unseated timer: SEAT-UNAVAILABLE is raised (R7, R15). -/
def seatUnavailable (s : State) : State :=
  raiseFault .seatUnavailable 0 2 (enterStandalone (withdrawClaim s))

/-- A circuit check is abandoned: a pulse under way ends at once and every channel goes off (R30, R105). -/
def abandonCheck (s : State) : State :=
  if s.seat.stage = .checking then
    { s with
      lamps := { channels := s.lamps.channels.map fun c => { c with lit := false, steady := none }, check := none } }
  else { s with lamps := { s.lamps with check := none } }

/-- What ends with a seat in every block (R30, R68, R80, R131, R148); `g` is the stage entered and `all` says that even a
pending SEAT CLAIM goes (R4). -/
def leaveSeat (g : Stage) (all : Bool) (s : State) : State :=
  let p := s.seat.ownSeat
  let s := abandonCheck s
  let s := emptyQueue all { s with seat := { s.seat with stage := g, ownSeat := 0, reseat := true } }
  let s :=
    { s with
      roster := { s.roster with entries := Table.erase s.roster.entries [p] }
      phase := { s.phase with syncTimer := .stopped, adoption := none }
      demand := { s.demand with repeatTimer := .stopped, active := false }
      sensor := { s.sensor with countsTimer := .stopped, analogTimer := .stopped }
      rear := { status := .none, neighbour := none } }
  clearFault .rearDeficient 0 (clearFault .combinationFull 0 (clearPresence (clearFault .frontLinkLost 0 s)))

/-- CONFLICT is entered over the contested seat (R9). On a yield the faults that end with the seat are cleared before SEAT-CONFLICT is
raised, and the DEMAND-LOST of a fallback that ends with it (R84) after: DESIGN CHOICE, notes/assumptions/46.md. -/
def enterConflict (contested : Nat) (s : State) : State :=
  let s := if s.seated then leaveSeat .conflict true s else s
  let s :=
    retainSeat 0
      { s with
        seat :=
          { s.seat with
            stage := .conflict, ownSeat := 0, rejoin := none, claimed := 0, claim := .none, fallbackMark := false,
            expiryHeld := false, headListen := .stopped, unseated := .stopped, window := .stopped,
            offer := .stopped, departure := .stopped, answered := [] } }
  raiseFault .seatConflict contested 3 (emptyQueue true s)

/-! ### Departure (R29, R36, R82, R144) -/

/-- A DEPART removes its listed positions that the roster holds from the roster and both tables (R29, R82, R144), sets the reassembly
state of each listed position to IDLE (R36, R43), and is judged by the Rear-End Logic by its position set as it stands (R130). That R29's
words on a position the roster does not hold are about the roster and both tables only is DESIGN CHOICE: notes/assumptions/34.md. -/
def applyDepart (l : List Nat) (s : State) : State :=
  let held := l.filter fun p => Table.holds s.roster.entries p
  rearDepart l
    { s with
      roster :=
        { s.roster with entries := Table.erase s.roster.entries held, reasm := Table.erase s.roster.reasm l }
      demand := { s.demand with table := Table.erase s.demand.table held }
      sensor := { s.sensor with table := Table.erase s.sensor.table held } }

/-- The DEPART lists the own seat: the station leaves it for STANDALONE (R30). -/
def departSelf (s : State) : State := enterStandalone (leaveSeat .standalone false s)

/-- The own DEPART is queued and applied (R28, R29, R129), also where a full queue drops it as it is offered: DESIGN CHOICE,
notes/assumptions/48.md. That it is queued before REAR-DEFICIENT is raised is notes/assumptions/32.md. -/
def sendDepart (l : List Nat) (reason : DepartReason) (s : State) : State :=
  let s := applyDepart l (offer (.depart l reason) s)
  if reason = .uncoupled then rearUncoupled s else s

/-- The judgement at the departure timer's expiry (R28). -/
def judgeDeparture (s : State) : State :=
  let p := s.seat.ownSeat
  let h := s.seat.answered
  let s := { s with seat := { s.seat with departure := .stopped, answered := [] } }
  if h.contains (p + 1) then raiseFault .presenceFault (p + 1) 2 s
  else if h.isEmpty then
    sendDepart ((s.roster.entries.map Prod.fst).filter fun k => decide (p < k)) .uncoupled s
  else sendDepart [p + 1] .stationLost s

end Sys2Proof.Machine
end

