-- ==== Sys2Proof/Machine/PhaseOps.lean ====
section
/-! DEFINITION. The Phase Unit's shared operations (chapter 3): the wrap, the MARK decision, the phase error and the
corrections in SYNC and JOINED. -/

namespace Sys2Proof.Machine

/-- Withdraw the own pending MARK (R55, R56). -/
def withdrawMark (s : State) : State := withdraw Frame.isMark s

/-- A valid MARK was received no more than `q` ms ago (R53). -/
def State.markHeard (s : State) (q : Nat) : Bool :=
  match s.phase.lastMark with
  | none => false
  | some t => decide (s.now - t ≤ q)

/-- The MARK decision of a wrap in JOINED; `q` is the abandon window before the adoption (R53). -/
def markDecision (q : Nat) (s : State) : State :=
  if s.joined && !s.markHeard q then offer (.mark s.phase.period s.phase.duty none) s else s

/-- The quiet-cycle count stepped at a wrap (R67). -/
def PhaseUnit.quietNext (p : PhaseUnit) : Nat := if p.marked then 0 else min (p.quiet + 1) 3

/-- The Phase Unit's own part of a wrap (R52, R64, R65, R67): φ less the length that ended, and less the new length as
often as it takes to bring it below. -/
def PhaseUnit.wrapped (p : PhaseUnit) : PhaseUnit :=
  let pd := p.adoption.getD (p.period, p.duty)
  { p with
    phi := (p.phi - p.len) % pd.1
    len := pd.1
    period := pd.1
    duty := pd.2
    adoption := none
    quiet := p.quietNext
    lock := if p.quietNext = 3 then .own else p.lock
    marked := false }

/-- A frame heard before the wrap is placed in the new cycle (R59). -/
def Reception.carried (len : Nat) (r : Reception) : Reception := { r with phase := r.phase - (len : Int) }

/-- A new flash cycle has a sample instant of its own (R110); a steady channel's instants are its timer's. -/
def Channel.newCycle (c : Channel) : Channel := { c with sampled := c.sampled && c.steady.isSome }

/-- A wrap (R52): the phase, the flash channels' sample instants, the MARK decision, and the flash gates it is handed to. -/
def takeWrap (s : State) : State :=
  let q := s.phase.abandon
  let s :=
    { s with
      phase := s.phase.wrapped
      lamps := { s.lamps with channels := s.lamps.channels.map Channel.newCycle }
      line := { s.line with reception := s.line.reception.map (Reception.carried s.phase.len) } }
  wrapGates (markDecision q s)

/-- The wrap a correction may call for at once (R65). -/
def wrapIfOver (s : State) : State := if s.phase.len ≤ s.phase.phi then takeWrap s else s

/-- The phase error of a MARK (R60). -/
def phaseError (phiR : Int) (lag period : Nat) : Int :=
  let e := (phiR - (lag : Int)) % (period : Int)
  if (period : Int) < 2 * e then e - (period : Int) else e

/-- The lock status an applied MARK sets (R67). -/
def lockOf (e : Int) : LockStatus := if e.natAbs ≤ Config.lockedErrorMs then .locked else .slewing

/-- An error clamped to the slew limit (R63). -/
def clampError (slew : Nat) (e : Int) : Int :=
  if e < -(slew : Int) then -(slew : Int) else if (slew : Int) < e then (slew : Int) else e

/-- The Phase Unit's part of a MARK applied in SYNC (R62). -/
def PhaseUnit.stepped (period duty lag : Nat) (phiR : Int) (p : PhaseUnit) : PhaseUnit :=
  let e := phaseError phiR lag period
  { p with
    period := period
    duty := duty
    len := ((period : Int) + e).toNat
    syncTimer := .stopped
    lock := lockOf e
    quiet := 0
    adoption := none
    marked := true }

/-- The Phase Unit's part of a MARK applied in JOINED (R63). -/
def PhaseUnit.slewed (period duty lag : Nat) (phiR : Int) (p : PhaseUnit) : PhaseUnit :=
  let e := phaseError phiR lag p.period
  { p with
    len := ((p.period : Int) + clampError p.slew e).toNat
    slip := if p.slew < e.natAbs then bump p.slip else p.slip
    lock := lockOf e
    quiet := 0
    adoption := if period = p.period ∧ duty = p.duty then none else some (period, duty)
    marked := true }

/-- A MARK taken for correction in SYNC or JOINED (R61 to R65); what entering JOINED arms stands before the wrap that may
follow at once (R86). -/
def applyMark (period duty lag : Nat) (phiR : Int) (s : State) : State :=
  if s.phase.marked then s
  else
    match s.seat.stage with
    | .sync =>
      wrapIfOver (settle (enterJoined { s with phase := s.phase.stepped period duty lag phiR }))
    | .joined => wrapIfOver { s with phase := s.phase.slewed period duty lag phiR }
    | .loading | .listen | .standalone | .claiming | .profiling | .checking | .conflict => s

end Sys2Proof.Machine
end

