-- ==== Sys2Proof/Machine/Items.lean ====
section
/-! DEFINITION. The items (R49, R119, R141, R149, R166, R194, R211, section 12.4): their bytes at the status port and
in an ANSWER. An item is taken from the state at one moment; none where it does not exist. -/

namespace Sys2Proof.Machine

/-- Bring a list of bytes to a length, absent bytes reading as 0. -/
def padTo (n : Nat) (l : List Byte) : List Byte := (l ++ List.replicate n 0).take n

/-! ### STATION -/

/-- The starting byte of the start record. -/
def recordByte (r : StartRecord) : Byte :=
  byte (r.kind.code + flagAt r.warmPath 2 + flagAt r.profileDefault 3 + r.outcome * 16)

/-- Port byte 9: the flags. -/
def flagsByte (s : State) : Byte :=
  byte (flagAt s.seat.head 0 + flagAt s.demand.fallback 1 + flagAt s.line.mute 2 + flagAt s.faults.overflow 3 +
    flagAt s.port.collision 4 + flagAt s.port.attn 5 + flagAt s.port.storeFull 6 + flagAt s.brakeOn 7)

/-- Port byte 10: the rear-end standing. -/
def rearByte (s : State) : Byte :=
  byte (s.rear.status.code + flagAt s.rearComplete 2 + flagAt s.rear.neighbour.isSome 3 +
    ((s.rear.neighbour.map Deficiency.code).getD 0) * 16)

/-- A fault summary's highest severity and sides, as STATION port byte 23 and ROSTER port byte 33 lay them out. -/
def severityByte (f : FaultSummary) : Byte :=
  byte (f.highest + flagAt f.sides.left 2 + flagAt f.sides.right 3)

/-- Port byte 21: the motions. -/
def motionByte (s : State) : Byte := byte (flagAt s.sensor.moving 0 + flagAt s.sensor.view 1)

/-- The code of a relay record's action; a record that is NONE shows 0. -/
def Relay.actionCode (r : Relay) : Nat := if r.state = .none then 0 else if r.start then 1 else 2

/-- The outstanding query record, port bytes 31 to 36; its fields read 0 where none is outstanding
(notes/assumptions/17.md). Matching answers are counted without a bound, and byte 36 shows their number modulo 256: DESIGN CHOICE,
notes/assumptions/61.md. -/
def queryBytes (p : Port) : List Byte :=
  byte (flagAt p.query.isSome 7 + p.queryOutcome.code) ::
    (match p.query with
    | none => [0, 0, 0, 0, 0]
    | some q => [byte q.target, byte q.cls, byte q.first, byte q.count, byte q.answers])

/-- The relay record, port bytes 37 to 42; of a channel above 7 the three bits show the channel modulo 8: DESIGN CHOICE,
notes/assumptions/44.md. -/
def relayBytes (r : Relay) : List Byte :=
  [byte r.state.code, byte r.target, byte (r.channel % 8 + r.actionCode * 16), byte r.tag,
    byte (flagAt r.reply.isSome 7 + flagAt ((r.reply.map Prod.fst).getD false) 0),
    byte (((r.reply.map Prod.snd).map BodyOutcome.code).getD 0)]

/-- The STATION item at the port, 43 bytes. -/
def stationBytes (s : State) : List Byte :=
  let sum := summaryOf s s.faults.list
  [recordByte s.loader.record] ++ identityBytes s.loader.record.identity ++
    [byte s.seat.stage.code, byte s.seat.ownSeat, flagsByte s, rearByte s] ++
    bytes2 s.phase.period ++ [byte s.phase.duty, byte s.phase.lock.code] ++ bytes2 s.phase.slip ++
    demandBytes s.demand.own false false ++ demandBytes s.demand.eff false false ++
    [motionByte s, byte sum.count, severityByte sum, byte s.line.state.code, byte s.line.driveFaults] ++
    bytes2 s.line.malformed ++ bytes2 s.line.overflow ++
    [byte (flagAt s.port.slot.isSome 0 + s.port.store.length * 16)] ++ queryBytes s.port ++ relayBytes s.body.relay

/-- The STATION item's ANSWER form, 8 bytes. -/
def stationAnswer (s : State) : List Byte :=
  let sum := summaryOf s s.faults.list
  [byte s.seat.stage.code, byte s.seat.ownSeat, rearByte s, byte s.phase.lock.code, byte sum.count,
    severityByte sum, flagsByte s, byte ((motionByte s).toNat + s.line.state.code * 16)]

/-! ### ROSTER -/

/-- A roster entry's ANSWER form, 8 bytes. -/
def rosterAnswer (e : RosterEntry) : List Byte :=
  identityBytes e.identity ++
    [byte (e.cls.code * 16 + e.stage.code),
      byte (e.note.code + flagAt e.rejoin 2 + flagAt e.profile.isSome 3 + flagAt e.check.isSome 4 +
        flagAt e.fault.isSome 5)]

/-- The profile summary's part, port bytes 8 to 28. -/
def profilePart (p : ProfileSummary) : List Byte :=
  functionBytes p.functions ++ [summaryFlags p, byte p.bodies.length] ++
    padTo 8 (p.bodies.flatMap bodyEntryBytes) ++ [byte p.sensors.length] ++ padTo 8 (p.sensors.map sensorEntryByte)

/-- The check summary's part, port bytes 29 to 31. -/
def checkPart (c : CheckSummary) : List Byte := [byte c.good, byte c.failed, byte (flagAt c.complete 0)]

/-- The fault summary's part, port bytes 32 and 33. -/
def faultPart (f : FaultSummary) : List Byte := [byte f.count, severityByte f]

/-- A ROSTER item at the port, 34 bytes. -/
def rosterBytes (e : RosterEntry) : List Byte :=
  rosterAnswer e ++ padTo 21 ((e.profile.map profilePart).getD []) ++ padTo 3 ((e.check.map checkPart).getD []) ++
    padTo 2 ((e.fault.map faultPart).getD [])

/-! ### CHANNEL, COUNTER, ANALOG, FAULT, BODY -/

/-- A CHANNEL item, 8 bytes. -/
def channelBytes (s : State) (n : Nat) : List Byte :=
  let c := s.channel n
  let cfg := s.lampCfg n
  [byte cfg.function.code, byte (c.health.code + flagAt (cfg.kind == .led) 4 + flagAt c.lit 7), byte c.retry,
    byte (((c.last.map LastSample.outcome).map SampleOutcome.code).getD 0)] ++
    bytes2 ((c.last.map LastSample.current).getD 0) ++ bytes2 ((c.last.map LastSample.supply).getD 0)

/-- The n-th counter. -/
def State.counter (s : State) (n : Nat) : Half := (nth s.retention.counts n).getD 0

/-- The counter is the second of a cascaded pair. -/
def State.cascadeHigh (s : State) (n : Nat) : Bool := (n == 2 || n == 4) && (s.pulseCfg (n - 1)).cascade

/-- A COUNTER item, 8 bytes. -/
def counterBytes (s : State) (n : Nat) : List Byte :=
  let p := s.pulseCfg n
  [byte p.role.code, byte (p.edge.code + flagAt (p.cascade || s.cascadeHigh n) 6 + flagAt (p.role != .notInUse) 7)] ++
    bytes2 (s.counter n).toNat ++
    (if p.cascade then bytes2 (s.counter (n + 1)).toNat ++ bytes2 (s.counter n).toNat else [0, 0, 0, 0])

/-- The n-th analog input's record. -/
def State.analogRecord (s : State) (n : Nat) : Analog :=
  (nth s.sensor.analogs n).getD { counts := 0, value := 0, on := false, converted := false }

/-- An ANALOG item, 5 bytes. -/
def analogBytes (s : State) (n : Nat) : List Byte :=
  let a := s.analogRecord n
  let cfg := (nth s.loader.profile.analog n).getD
    { inUse := false, brake := false, offset := 0, gain := 0, onAt := 0, offAt := 0 }
  [byte (flagAt cfg.inUse 0 + flagAt cfg.brake 1 + flagAt a.on 2 + flagAt a.converted 3)] ++ bytes2 a.counts ++
    bytes2s a.value

/-- A FAULT item, 7 bytes. -/
def faultBytes (e : FaultEntry) : List Byte := [byte e.code.code, byte e.subject, byte e.severity] ++ bytes4 e.onset

/-- A BODY item at the port, 11 bytes. -/
def bodyBytes (s : State) (n : Nat) : List Byte :=
  let c := s.bodyChannel n
  let cfg := s.bodyCfg n
  let t := if c.running then c.timer.elapsed else 0
  [byte cfg.kind,
    byte (flagAt cfg.motionInhibited 0 + flagAt cfg.parkRequired 1 + flagAt cfg.hazardRaising 2 + flagAt c.running 7),
    byte cfg.limit, byte c.outcome.code, byte c.lastTag, byte c.runTag, byte (t / 1000)] ++ bytes4 t

/-! ### Items by class and index (R194) -/

/-- An item as the port reads it: class 1 STATION, 2 ROSTER, 3 CHANNEL, 4 COUNTER, 5 ANALOG, 6 FAULT, 7 BODY. -/
def portItem (s : State) (cls n : Nat) : Option (List Byte) :=
  match cls with
  | 1 => if n = 1 then some (stationBytes s) else none
  | 2 => (Table.get s.roster.entries n).map rosterBytes
  | 3 => if 1 ≤ n ∧ n ≤ 12 then some (channelBytes s n) else none
  | 4 => if 1 ≤ n ∧ n ≤ 4 then some (counterBytes s n) else none
  | 5 => if 1 ≤ n ∧ n ≤ 4 then some (analogBytes s n) else none
  | 6 => (nth s.faults.list n).map faultBytes
  | 7 => if 1 ≤ n ∧ n ≤ 4 then some (bodyBytes s n) else none
  | _ => none

/-- An item in its ANSWER form. -/
def answerItem (s : State) (cls n : Nat) : Option (List Byte) :=
  match cls with
  | 1 => if n = 1 then some (stationAnswer s) else none
  | 2 => (Table.get s.roster.entries n).map rosterAnswer
  | 7 => if 1 ≤ n ∧ n ≤ 4 then some ((bodyBytes s n).take 7) else none
  | _ => portItem s cls n

/-- An answer store entry, 12 bytes. -/
def storeBytes (e : StoreEntry) : List Byte :=
  [byte e.sender, byte e.cls, byte e.index, byte e.status.code] ++ (e.data ++ List.replicate 8 255).take 8

/-! ### The item pointer (R211) -/

/-- The item a pointer value names, as a class and an index: class 8 is the answer store, 9 the request slot. -/
def pointerItem (p : Nat) : Option (Nat × Nat) :=
  if p = 0 then some (1, 1)
  else if p ≤ 8 then some (2, p)
  else if 16 ≤ p ∧ p ≤ 27 then some (3, p - 15)
  else if 32 ≤ p ∧ p ≤ 35 then some (4, p - 31)
  else if 40 ≤ p ∧ p ≤ 43 then some (5, p - 39)
  else if 48 ≤ p ∧ p ≤ 55 then some (6, p - 47)
  else if 64 ≤ p ∧ p ≤ 67 then some (7, p - 63)
  else if 80 ≤ p ∧ p ≤ 87 then some (8, p - 79)
  else if p = 96 then some (9, 1)
  else none

/-- The bytes the item at a pointer reads as, where it exists. -/
def pointerBytes (s : State) (p : Nat) : Option (List Byte) :=
  match pointerItem p with
  | none => none
  | some (8, n) => (nth s.port.store n).map storeBytes
  | some (9, _) => some [byte (flagAt s.port.slot.isSome 0)]
  | some (c, n) => portItem s c n

/-- The item at a pointer exists. -/
def pointerExists (s : State) (p : Nat) : Bool := (pointerBytes s p).isSome

/-- The pointer of the request slot. -/
def slotPointer : Nat := 96

/-- The pointer of ANSWER 1. -/
def answerPointer : Nat := 80

/-- The first of `n` pointers from `p` on that names an existing item. -/
def nextFrom (s : State) : Nat → Nat → Option Nat
  | 0, _ => none
  | n + 1, p => if pointerExists s p then some p else nextFrom s n (p + 1)

/-- The first existing item from a pointer on, the request slot left out (R195). -/
def nextItem (s : State) (p : Nat) : Option Nat := nextFrom s (slotPointer - p) p

end Sys2Proof.Machine
end

