-- ==== Sys2Proof/Machine/PortOps.lean ====
section
/-! DEFINITION. The shared operations of queries, answers and the status port (chapter 10): answering, the outstanding
query, the answer store, port transactions and the request slot. -/

namespace Sys2Proof.Machine

/-! ### Answering (R192, R193) -/

/-- The frame is an ANSWER. -/
def Frame.isAnswer : Frame → Bool
  | .answer _ _ _ _ _ => true
  | _ => false

/-- An ANSWER stands on the queue. -/
def State.answerQueued (s : State) : Bool := s.line.queue.any fun e => e.frame.isAnswer

/-- Put the answering state. -/
def setAnswering (a : Option Answering) (s : State) : State := { s with port := { s.port with answering := a } }

/-- The query is answered with one NO-ITEM whatever its items: an undefined class, an index of 0, or a count outside
1..4 (R193). -/
def Answering.invalid (a : Answering) : Bool :=
  !(decide (1 ≤ a.cls) && decide (a.cls ≤ 7)) || a.first == 0 || !(decide (1 ≤ a.count) && decide (a.count ≤ 4))

/-- The item the next index answers with, where there is one. -/
def State.answerData (s : State) (a : Answering) : Option (List Byte) :=
  if a.invalid then none else answerItem s a.cls a.next

/-- The next ANSWER of the query being answered is queued, its item taken now (R193). -/
def answerNext (s : State) : State :=
  match s.port.answering with
  | none => s
  | some a =>
    match s.answerData a with
    | some d =>
      offer (.answer a.requester a.cls a.next .ok d)
        (setAnswering
          (some { a with next := a.next + 1, left := a.left - 1, ended := decide (a.left ≤ 1), retry := false }) s)
    | none =>
      offer (.answer a.requester a.cls a.next .noItem [])
        (setAnswering (some { a with ended := true, retry := false }) s)

/-- A BUSY is queued. -/
def offerBusy (b : OwedBusy) (s : State) : State := offer (.answer b.requester b.cls b.index .busy []) s

/-- A BUSY is held as the owed BUSY, in place of one held before (R192). -/
def oweBusy (b : OwedBusy) (s : State) : State := { s with port := { s.port with owed := some b } }

/-- The owed BUSY is queued (R192). -/
def answerBusy (b : OwedBusy) (s : State) : State := offerBusy b { s with port := { s.port with owed := none } }

/-- A QUERY for the own seat is taken (R192). While another is being answered its BUSY is queued at once where no ANSWER stands on
the queue, and one that a full queue drops there is owed. -/
def takeQuery (requester cls first count : Nat) (s : State) : State :=
  match s.port.answering with
  | none =>
    answerNext
      (setAnswering
        (some
          { requester := requester, cls := cls, first := first, count := count, next := first, left := count,
            ended := false, retry := false }) s)
  | some _ =>
    let b : OwedBusy := { requester := requester, cls := cls, index := first }
    if s.answerQueued then oweBusy b s
    else
      let t := offerBusy b s
      if t.answerQueued then t else oweBusy b t

/-- The answering state is IDLE once its last ANSWER has been sent (R193). -/
def answerSent (status : AnswerStatus) (s : State) : State :=
  match s.port.answering with
  | none => s
  | some a => if status ≠ .busy ∧ a.ended = true then setAnswering none s else s

/-- A frame of this station has been sent: an owed BUSY goes first, else the ANSWER that is due (R192, R193). `owed` and
`due` are as they stood when the frame was sent. -/
def answerAgain (owed : Option OwedBusy) (due : Bool) (s : State) : State :=
  if s.answerQueued then s
  else
    match owed with
    | some b => answerBusy b s
    | none =>
      match s.port.answering with
      | none => s
      | some a => if due && !a.ended then answerNext s else s

/-! ### The outstanding query and the answer store (R197, R199) -/

/-- A QUERY request is taken from the slot (R199). The last outcome stays until it is taken, so a query that becomes
outstanding shows NONE (notes/assumptions/17.md). -/
def requestQuery (target cls first count : Nat) (s : State) : State :=
  if target = 0 ∨ 8 < target ∨ target = s.seat.ownSeat then endQuery .invalid s
  else if !s.seated then endQuery .notSent s
  else
    offer (.query target cls first count)
      { s with
        port :=
          { s.port with
            queryOutcome := .none
            query :=
              some
                { target := target, cls := cls, first := first, count := count, answers := 0,
                  timer := Timer.start Config.queryReplyMs, sent := false, frameId := s.line.nextId } } }

/-- An item class as a receiver takes it: an unlisted one is STATION, the lowest listed (R210). -/
def listedClass (cls : Nat) : Nat := if 1 ≤ cls ∧ cls ≤ 7 then cls else 1

/-- An ANSWER matches the outstanding query (R197); both classes are taken by R210 (notes/assumptions/25.md). -/
def Query.takes (q : Query) (own requester sender cls index : Nat) : Bool :=
  requester == own && sender == q.target && cls == listedClass q.cls &&
    (index == q.first || (decide (q.first < index) && decide (index < q.first + q.count)))

/-- An ANSWER joins the answer store (R197, R201). -/
def storeAnswer (e : StoreEntry) (s : State) : State :=
  if s.port.store.length < Config.answerStoreSize then
    { s with port := { s.port with store := s.port.store ++ [e], attn := s.port.attn || s.port.store.isEmpty } }
  else { s with port := { s.port with storeFull := true } }

/-- The query goes on: one more answer, the reply timer restarted (R199). -/
def queryGoesOn (q : Query) (s : State) : State :=
  { s with
    port :=
      { s.port with query := some { q with answers := q.answers + 1, timer := Timer.start Config.queryReplyMs } } }

/-- The query moves on by a matching ANSWER (R199). -/
def queryMoves (q : Query) (index : Nat) (status : AnswerStatus) (s : State) : State :=
  match status with
  | .noItem => endQuery .noItem s
  | .busy => endQuery .busy s
  | .ok => if index + 1 = q.first + q.count then endQuery .complete s else queryGoesOn q s

/-- An ANSWER is taken (R197, R199); `cls` is its item class as R210 takes it. -/
def takeAnswer (sender requester cls index : Nat) (status : AnswerStatus) (data : List Byte) (s : State) : State :=
  match s.port.query with
  | none => s
  | some q =>
    if s.seated && q.takes s.seat.ownSeat requester sender cls index then
      queryMoves q index status
        (storeAnswer { sender := sender, cls := cls, index := index, status := status, data := data } s)
    else s

/-- The own QUERY has been sent to its end (R199). -/
def querySent (id : Nat) (s : State) : State :=
  match s.port.query with
  | none => s
  | some q =>
    if q.frameId = id then
      { s with port := { s.port with query := some { q with sent := true, timer := Timer.start Config.queryReplyMs } } }
    else s

/-- The reply timer of the query expires (R199). -/
def queryExpiry (q : Query) (s : State) : State :=
  if s.pendingId q.frameId then endQuery .notSent (withdrawId q.frameId s)
  else
    endQuery .timeout
      (s.setQueue (s.line.queue.map fun e => if e.id = q.frameId ∧ e.inFlight then { e with dying := true } else e))

/-! ### Port transactions (R195, R196, R197) -/

/-- The port's own 7-bit address (R195); in LOADING it answers to none. -/
def State.answersTo (s : State) (address : BitVec 7) : Bool :=
  s.loaded && address.toNat == s.loader.portAddress

/-- Record what SPD carried in a transaction (notes/assumptions/22.md). -/
def setBus (ack : Bool) (acks : List Bool) (out : List Byte) (s : State) : State :=
  { s with port := { s.port with addressAck := ack, byteAcks := acks, dataOut := out } }

/-- Set the item pointer. -/
def setPointer (p : Nat) (s : State) : State := { s with port := { s.port with pointer := p } }

/-- The read of the STATION item's first byte (R196). -/
def clearStationFlags (s : State) : State :=
  { s with
    faults := { s.faults with overflow := false }
    port := { s.port with collision := false, attn := false } }

/-- ANSWER 1 has been read to its last byte (R197). -/
def dropAnswer (s : State) : State :=
  { s with port := { s.port with store := s.port.store.drop 1, storeFull := false } }

/-- The first byte of the item at a pointer is read. -/
def startItem (p : Nat) (s : State) : State :=
  setPointer p (if p = 0 then clearStationFlags s else s)

/-- The bytes of a read transaction and the state after it; `fuel` bounds the items met, `n` is the bytes still to be
read. The pointer moves to the next existing item after each item's last byte (R195). -/
def readItems : Nat → Nat → State → List Byte × State
  | 0, n, s => (List.replicate n 255, s)
  | fuel + 1, n, s =>
    if n = 0 then ([], s)
    else
      let at? := if s.port.pointer = slotPointer then some slotPointer else nextItem s s.port.pointer
      match at? with
      | none => (List.replicate n 255, s)
      | some p =>
        let b := (pointerBytes s p).getD []
        let s := startItem p s
        if n < b.length then (b.take n, s)
        else if p = answerPointer then
          let r := readItems fuel (n - b.length) (dropAnswer s)
          (b ++ r.1, r.2)
        else
          match nextItem s (p + 1) with
          | none => (b ++ List.replicate (n - b.length) 255, s)
          | some q =>
            let r := readItems fuel (n - b.length) (setPointer q s)
            (b ++ r.1, r.2)

/-- A read transaction (R195). -/
def portRead (address : BitVec 7) (n : Nat) (s : State) : State :=
  if s.answersTo address then
    let r := readItems n n s
    setBus true [] r.1 r.2
  else setBus false [] [] s

/-- The number of field bytes of a request kind (R211). -/
def requestFields : Nat → Option Nat
  | 1 => some 3
  | 2 => some 3
  | 3 => some 4
  | 4 => some 0
  | _ => none

/-- The request of a kind and its field bytes. -/
def requestOf (kind : Nat) (f : List Byte) : Request :=
  let g := fun i => (byteAt f i).toNat
  match kind with
  | 1 => .bodyStart (g 0) (g 1) (g 2)
  | 2 => .bodyStop (g 0) (g 1) (g 2)
  | 3 => .query (g 0) (g 1) (g 2) (g 3)
  | _ => .restart

/-- The slot becomes FULL (R198). -/
def fillSlot (r : Request) (s : State) : State :=
  { s with port := { s.port with slot := some r, slotDue := false } }

/-- A request is refused with a collision (R198). -/
def setCollision (s : State) : State := { s with port := { s.port with collision := true } }

/-- The bytes of a write that follow the pointer of the request slot (R198). A write that has delivered every field fills the slot at its
end, be that a stop condition or a repeated start: DESIGN CHOICE, notes/assumptions/64.md. -/
def writeRequest (l : List Byte) (s : State) : State :=
  match l with
  | [] => setBus true [true] [] s
  | k :: f =>
    if s.port.slot.isSome || (k.toNat == 3 && s.port.query.isSome) then
      setBus true [true, false] [] (setCollision s)
    else
      match requestFields k.toNat with
      | none => setBus true [true, false] [] s
      | some m =>
        if f.length < m then setBus true (List.replicate (f.length + 2) true) [] s
        else
          setBus true (List.replicate (m + 2) true ++ (if m < f.length then [false] else [])) []
            (fillSlot (requestOf k.toNat f) s)

/-- A write transaction (R195). -/
def portWrite (address : BitVec 7) (l : List Byte) (s : State) : State :=
  if s.answersTo address then
    match l with
    | [] => setBus true [] [] s
    | p :: r =>
      if p.toNat = slotPointer then writeRequest r (setPointer slotPointer s)
      else if pointerExists s p.toNat then
        setBus true (if r.isEmpty then [true] else [true, false]) [] (setPointer p.toNat s)
      else setBus true [false] [] s
  else setBus false [] [] s

/-- A write that delivers a whole request to this port. -/
def writeWhole (kind : Byte) (f : List Byte) (s : State) : State :=
  portWrite (BitVec.ofNat 7 s.loader.portAddress) (byte slotPointer :: kind :: f) s

/-! ### The request slot (R198, R200) -/

/-- A COMMANDED start: the retention record is marked not valid first (R200, R207). The queue goes with the other blocks' state (R167),
and with it a frame in flight, whose bits end without a cut-off: DESIGN CHOICE, notes/assumptions/65.md. The record loses its mark only: its counters, which R140 and
section 11.5 have this start set to 0, keep their values through LOADING, and the load done of R208 sets them to 0: DESIGN CHOICE,
notes/assumptions/67.md. -/
def commandedStart (s : State) : State :=
  { State.atStart .commanded { s.retention with valid := false } with
    pending := s.pending, freeCount := s.freeCount }

/-- A body request goes to the Body Unit: its own, or relayed (R198). -/
def bodyRequest (position channel : Nat) (start : Bool) (tag : Nat) (s : State) : State :=
  if position = 0 ∨ position = s.seat.ownSeat then ownRequest channel start tag s
  else relayRequest position channel start tag s

/-- A request is handed on (R198). -/
def takeRequest (r : Request) (s : State) : State :=
  match r with
  | .bodyStart p c t => bodyRequest p c true t s
  | .bodyStop p c t => bodyRequest p c false t s
  | .query t c f k => requestQuery t c f k s
  | .restart => commandedStart s

end Sys2Proof.Machine
end

