-- ==== Sys2Proof/Machine/LineOps.lean ====
section
/-! DEFINITION. The Line Interface's shared operations (chapter 9): the frame in flight, drive faults and muting, the frame
sent, the line's states, and what every received frame has in common. -/

namespace Sys2Proof.Machine

/-- Count a frame discarded at reception (R177, R178); its mark instant is dropped with it (R175). -/
def countMalformed (s : State) : State :=
  { s with line := { s.line.dropHeard with malformed := bump s.line.malformed } }

/-- Set the line state with the runs that led to it (R169, notes/assumptions/18.md): a run that reaches 7, 20 or 200, or the first
dominant bit of a Start. A cut-off is over by then. -/
def setLine (l : LineState) (recessive dominant : Nat) (s : State) : State :=
  { s with line := { s.line with state := l, recessive := recessive, dominant := dominant, cutOff := 0 } }

/-- A Start was read: the line is BUSY and the mark instant is captured (R169, R175). -/
def noteStart (receiving : Bool) (s : State) : State :=
  setLine .busy 0 1
    { s with
      line :=
        { s.line with
          reception :=
            some
              { instant := s.now, phase := (s.phase.phi : Int), receiving := receiving, before := s.line.recessive
                bits := [false], rest := if receiving then [] else s.ownBits.drop 1 } } }

/-- A bit of the own frame sent as `sent` may yet be read as the other value (R173): the sender compares it, and it has not been
counted as read. That a bit once counted was read as sent, but for a Start with no bit after it, is DESIGN CHOICE:
notes/assumptions/18.md. -/
def State.mayDiffer (s : State) (sent : Bool) : Bool := s.line.sending && (s.comparedOwn.drop s.line.known).contains sent

/-- A bit of the own frame was read as the opposite of what was sent (R173). -/
def goOnReceiving (s : State) : State := { s with line := s.line.goOnReceiving }

/-- A dominant bit of the own frame was read recessive (R179). Where no bit after the Start has been counted it may have been the
Start itself: a free value says whether the Start was read, and its uses are counted (notes/assumptions/58.md). -/
def readRecessive (s : State) : State :=
  if s.line.atStart then
    { s with
      line := if Config.freeStartRead s.freeCount then s.line.goOnReceiving else s.line.readNoStart
      freeCount := s.freeCount + 1 }
  else goOnReceiving s

/-- The frame on the line is heard no further. -/
def dropReception (s : State) : State := { s with line := { s.line with reception := none } }

/-! ### Sending (R172) -/

/-- The Line Interface may begin a frame (R172); in STANDALONE a station sends nothing (R8, notes/assumptions/11.md). -/
def State.mayStart (s : State) : Bool :=
  s.seat.stage != .standalone && s.line.state == .idle && !s.line.disable.isRunning && !s.line.mute && s.inFlight.isNone && !s.line.queue.isEmpty

/-- The head entry goes in flight, its contents captured (R172, R187); the own SEAT CLAIM is IN-FLIGHT (R15). -/
def startHead (s : State) : State :=
  match s.line.queue with
  | [] => s
  | x :: r =>
    let s' := s.setQueue ({ x with inFlight := true, frame := captureFrame s x.frame } :: r)
    if s.seat.claim = .pending ∧ x.id = s.seat.claimId then
      { s' with seat := { s.seat with claim := .inFlight } }
    else s'

/-- A claim that is PENDING again while the expiry of the unseated timer is held is withdrawn (R15). -/
def lapseClaim (s : State) : State :=
  if s.seat.expiryHeld && s.seat.claim == .pending then seatUnavailable s else s

/-- The station has become mute (R19, R42). -/
def mutedAnnounce (s : State) : State :=
  match s.roster.announce with
  | none => s
  | some a =>
    if a.purpose = .initial then profilingEnd s else setAnnounce none (withdraw Frame.isProfile s)

/-- The mute flag is set (R180). LINE-MUTE, with its FAULT frame, is raised before the segment of a sequence of purpose ANNOUNCE or
DEFENCE is withdrawn (R42): DESIGN CHOICE, notes/assumptions/57.md. -/
def becomeMute (s : State) : State :=
  mutedAnnounce (raiseFault .lineMute 0 3 { s with line := { s.line with mute := true } })

/-- A drive fault of the frame in flight (R179, R180): a recessive bit was read. LINE-DRIVE and LINE-MUTE are raised before a claim
whose expiry is held lapses (R15), and the frame returns to pending before both: DESIGN CHOICE, notes/assumptions/52.md and 63.md. -/
def driveFault (s : State) : State :=
  let s := readRecessive (returnToPending s)
  let n := min (s.line.driveFaults + 1) 3
  let s := { s with line := { s.line with disable := Timer.start Config.disableMs, driveFaults := n } }
  let s := raiseFault .lineDrive 0 2 s
  lapseClaim (if n = 3 then becomeMute s else s)

/-! ### Sent to its end (R174) -/

/-- The own SEAT CLAIM has been sent: its window runs (R15). -/
def claimSent (id : Nat) (s : State) : State :=
  if s.seat.claim = .inFlight ∧ id = s.seat.claimId then
    { s with
      seat :=
        { s.seat with
          claim := .window, unseated := .stopped, expiryHeld := false, window := Timer.start Config.claimWindowMs } }
  else s

/-- A relayed BODY REQUEST has been sent (R164). -/
def relaySent (id : Nat) (s : State) : State :=
  if s.body.relay.state = .waiting ∧ id = s.body.relay.frameId then setRelay .sent s else s

/-- The entry in flight leaves the queue, and a frame held for its class enters (R174, R183). -/
def leaveQueue (x : Entry) (s : State) : State :=
  let held := s.line.followOn.find? fun g => x.frame.replaceClass.isSome && g.replaceClass == x.frame.replaceClass
  let s :=
    { s with
      line :=
        { s.line with
          queue := s.line.queue.filter fun e => !e.inFlight
          followOn :=
            s.line.followOn.filter fun g =>
              !(x.frame.replaceClass.isSome && g.replaceClass == x.frame.replaceClass) } }
  match held with
  | none => s
  | some f => offer f s

/-- The owner of a sent frame is told. -/
def tellSent (x : Entry) (s : State) : State :=
  match x.frame with
  | .seatClaim _ _ _ _ => claimSent x.id s
  | .profile _ _ _ => segmentSent s
  | .bodyRequest _ _ _ _ => relaySent x.id s
  | .query _ _ _ _ => querySent x.id s
  | .answer _ _ _ status _ => answerSent status s
  | _ => s

/-- A segment awaiting a new offer is offered (R42, R174); `again` is as it stood when the frame was sent. -/
def profileAgain (again : Bool) (s : State) : State := if again then offerSegment s else s

/-- A segment awaits a new offer. -/
def State.segmentDue (s : State) : Bool := (s.roster.announce.map Sending.reoffer).getD false

/-- An ANSWER awaits a new offer. -/
def State.answerDue (s : State) : Bool := (s.port.answering.map Answering.retry).getD false

/-- The rest of the own frame's bits are counted, and its reception is over. -/
def readOwnEnd (s : State) : State :=
  dropReception { s with line := s.line.read ((s.line.reception.map Reception.rest).getD []) }

/-- The frame in flight has been sent to its end (R174). -/
def sendEnd (x : Entry) (s : State) : State :=
  let owed := s.port.owed
  let due := s.answerDue || x.frame.isAnswer
  let again := s.segmentDue
  let s := tellSent x (leaveQueue x (readOwnEnd s))
  let s := clearFault .lineDrive 0 { s with line := { s.line with driveFaults := 0 } }
  answerAgain owed due (profileAgain again s)

/-- The line has become STUCK (R181). The frame in flight returns to pending before LINE-STUCK is raised, and LINE-STUCK is raised before
a claim whose expiry is held lapses (R15): DESIGN CHOICE, notes/assumptions/63.md and 52.md. -/
def lineStuck (s : State) : State :=
  let receiving := (s.line.reception.map Reception.receiving).getD false
  let s := dropReception (returnToPending (if receiving then countMalformed s else s))
  lapseClaim (raiseFault .lineStuck 0 2 (setLine .stuck 0 20 s))

/-! ### Reception (R7, R177, R178) -/

/-- What every valid frame does at its receipt: its bits are counted and its reception is over (R169), and in LISTEN a sender position
of 1 sets the position-1-heard flag (R7). -/
def frameHeard (kind sender : Nat) (payload : List Byte) (s : State) : State :=
  { s with
    line := s.line.heard kind sender payload
    seat :=
      { s.seat with pos1Heard := s.seat.pos1Heard || (s.seat.stage == .listen && sender == 1) } }

/-- A frame whose check completes, by its kind, sender position and payload: one that R178 calls malformed is discarded. It is taken
with the line STUCK or the own frame in flight too: DESIGN CHOICE, notes/assumptions/51.md. -/
def receive (kind sender : Nat) (payload : List Byte) (s : State) (effect : State → State) :
    Host.Outcome State Fault Refusal :=
  whenRunning s fun s =>
    if frameValid s.phase.period kind sender payload then settle (effect (frameHeard kind sender payload s))
    else countMalformed { s with line := s.line.heard kind sender payload }

end Sys2Proof.Machine
end

