-- ==== Sys2Proof/Machine/Demand.lean ====
section
/-! DEFINITION. The Demand Merger's commands (chapter 4): the demand inputs, the repeat timer and the expiry of table
entries. -/

namespace Sys2Proof.Machine

/-- The n-th demand input's entry. -/
def State.dinCfg (s : State) (n : Nat) : DinCfg := (nth s.loader.profile.dins n).getD .unused

/-- The n-th demand input's conditioned level. -/
def State.dinLevel (s : State) (n : Nat) : Bool := (nth s.demand.levels n).getD false

/-- Set the n-th hold timer. -/
def setHold (n : Nat) (t : Timer) (s : State) : State :=
  { s with demand := { s.demand with holds := modNth s.demand.holds n fun _ => t } }

/-- A conditioned level changes and is taken by the input's mode (R74 to R76). -/
def inputChange (n : Nat) (level : Bool) (s : State) : State :=
  let s := { s with demand := { s.demand with levels := modNth s.demand.levels n fun _ => level } }
  match s.dinCfg n with
  | .unused | .steady _ => s
  | .flasher _ => setHold n (if level then .stopped else Timer.start Config.holdMs) s
  | .bodySwitch c => if level then ownRequest c (!(s.bodyChannel c).running) 0 s else s

/-- DEMAND_INPUT_CHANGE (R73). -/
def execDemandInputChange (n : Nat) (level : Bool) (s : State) : Host.Outcome State Fault Refusal :=
  whenUnit 8 n s fun s => takeIf (s.loaded && s.dinLevel n != level) s (inputChange n level)

/-- The n-th hold timer runs. -/
def State.holdRuns (s : State) (n : Nat) : Bool := ((nth s.demand.holds n).map Timer.isRunning).getD false

/-- FLASHER_HOLD_EXPIRY (R74). -/
def execFlasherHoldExpiry (n : Nat) (s : State) : Host.Outcome State Fault Refusal :=
  whenUnit 8 n s fun s => takeIf (s.holdRuns n) s (setHold n .stopped)

/-- DEMAND_REPEAT_EXPIRY (R78, R79). -/
def execDemandRepeatExpiry (s : State) : Host.Outcome State Fault Refusal :=
  whenRunning s fun s => takeIf (s.demand.repeatTimer.isRunning && s.serving) s sendDemand

/-- Remove the demand table entry of a position. -/
def dropDemand (p : Nat) (s : State) : State :=
  { s with demand := { s.demand with table := Table.erase s.demand.table [p] } }

/-- The demand table entry of a position has reached its age (R82); one received anew has not. -/
def State.demandAged (s : State) (p : Nat) : Bool :=
  ((Table.get s.demand.table p).map fun e => decide (Config.demandAgeMs ≤ e.age)).getD false

/-- DEMAND_ENTRY_EXPIRY (R82). -/
def execDemandEntryExpiry (p : Nat) (s : State) : Host.Outcome State Fault Refusal :=
  whenUnit 8 p s fun s => takeIf (s.demandAged p) s (dropDemand p)

end Sys2Proof.Machine
end

