-- ==== Sys2Proof/Machine/Lamps.lean ====
section
/-! DEFINITION. The Lamp Channel Unit's commands (chapter 5): the circuit check, trips, samples, rests and trials. -/

namespace Sys2Proof.Machine

/-- The channel whose check pulse is on. -/
def State.pulsedChannel (s : State) : Option Nat :=
  match s.lamps.check with
  | none => none
  | some c => if c.pulse && s.seat.stage == .checking then c.todo.head? else none

/-- The check's sample of channel n: OPEN below Imin, GOOD otherwise, nothing outside the supply window (R101). A raw current at or above
the trip level, also one of the free reading, is no trip by itself: DESIGN CHOICE, notes/assumptions/66.md. -/
def checkSample (n i v : Nat) (s : State) : State :=
  let vn := s.loader.profile.vn
  let cfg := s.lampCfg n
  if supplyInWindow vn v then
    let k : SampleClass := if normalised cfg.kind vn i v < cfg.imin then .openCircuit else .good
    setHealth n k.health (recordSample n i v k.outcome s)
  else recordSample n i v .skipped s

/-- The pulse of channel n ends with its sample (R101). -/
def pulseEnd (n i v : Nat) (s : State) : State :=
  let s := checkSample n i v s
  { s with lamps := { s.lamps with check := s.lamps.check.map fun c => { c with pulse := false } } }

/-- The current turn of the check has lasted `d` ms. -/
def State.turnLasted (s : State) (d : Nat) : Bool := (s.lamps.check.map fun c => decide (d ≤ c.turn)).getD false

/-- CHECK_PULSE_END (R101): at the 20 ms of the pulse. -/
def execCheckPulseEnd (i v : Nat) (s : State) : Host.Outcome State Fault Refusal :=
  whenRunning s fun s =>
    match s.pulsedChannel with
    | none => s
    | some n => takeIf (s.turnLasted Config.checkPulseMs) s (pulseEnd n i v)

/-- A turn of the check is under way with its pulse over. -/
def State.turnOver (s : State) : Bool :=
  s.seat.stage == .checking && ((s.lamps.check.map fun c => !c.pulse).getD false)

/-- The next turn of a check begins. -/
def Check.nextTurn (c : Check) : Check := { todo := c.todo.drop 1, turn := 0, pulse := true }

/-- A turn ends: the next channel is pulsed, or the check is done (R101, R103). -/
def turnEnd (s : State) : State :=
  finishCheck { s with lamps := { s.lamps with check := s.lamps.check.map Check.nextTurn } }

/-- A turn with its pulse over has lasted its 50 ms. -/
def State.turnDue (s : State) : Bool := s.turnOver && s.turnLasted Config.checkTurnMs

/-- CHECK_TURN_END (R101): at the 50 ms of the turn, also where a trip has ended its pulse (R102). -/
def execCheckTurnEnd (s : State) : Host.Outcome State Fault Refusal :=
  whenRunning s fun s => takeIf s.turnDue s turnEnd

/-- A trip can occur: the channel is driven and the current reaches its trip level (R108). Only LAMP_TRIP brings one
(notes/assumptions/66.md). -/
def State.tripDue (s : State) (n i : Nat) : Bool :=
  (s.channel n).lit && decide (tripLevel (s.lampCfg n).imax ≤ i)

/-- LAMP_TRIP (R108). -/
def execLampTrip (n i : Nat) (s : State) : Host.Outcome State Fault Refusal :=
  whenUnit 12 n s fun s =>
    takeIf (s.tripDue n i) s (if s.seat.stage = .checking then checkTrip n else serviceTrip n)

/-- Channel n's sample instant is used, whatever comes of it: each gives one sample at most (R109, R110). -/
def useInstant (n : Nat) (s : State) : State := modChannel n (fun c => { c with sampled := true }) s

/-- A sample instant of channel n is taken; one reached while the health is SHORT takes no sample (R109, R110). -/
def sampleAt (n i v : Nat) (s : State) : State :=
  if (s.channel n).health = .short then useInstant n s else serviceSample n i v (useInstant n s)

/-- A steady channel stands at a sample instant not yet used (R109). -/
def State.steadyDue (s : State) (n : Nat) : Bool :=
  let c := s.channel n
  !(s.functionOf n).isFlash && c.lit && !c.sampled && s.seat.stage != .checking &&
    ((c.steady.map fun t => decide (Config.warmUpMs ≤ t) && t % Config.sampleSpacingMs == 0).getD false)

/-- STEADY_SAMPLE (R109). -/
def execSteadySample (n i v : Nat) (s : State) : Host.Outcome State Fault Refusal :=
  whenUnit 12 n s fun s => takeIf (s.steadyDue n) s (sampleAt n i v)

/-- The phase of a flash function's sample instant (R110). -/
def PhaseUnit.sampleInstant (p : PhaseUnit) (f : LampFn) : Nat :=
  if f = .beacon then p.burst / 2 else p.onTime / 2

/-- A flash channel stands at its sample instant, not yet used in the cycle (R110). -/
def State.flashDue (s : State) (n : Nat) : Bool :=
  let f := s.functionOf n
  f.isFlash && s.joined && (s.channel n).lit && !(s.channel n).sampled &&
    s.phase.phi == s.phase.sampleInstant f

/-- FLASH_SAMPLE (R110). -/
def execFlashSample (n i v : Nat) (s : State) : Host.Outcome State Fault Refusal :=
  whenUnit 12 n s fun s => takeIf (s.flashDue n) s (sampleAt n i v)

/-- A rest ends: the channel waits, and one called for is re-driven in the same event (R113). -/
def restOver (n : Nat) (s : State) : State :=
  modChannel n (fun c => { c with rest := .stopped, short := .waiting }) s

/-- REST_TIMER_EXPIRY (R113). -/
def execRestTimerExpiry (n : Nat) (s : State) : Host.Outcome State Fault Refusal :=
  whenUnit 12 n s fun s => takeIf ((s.channel n).rest.isRunning && (s.channel n).short == .resting) s (restOver n)

/-- A trial ends without a trip (R114). -/
def provingOver (n : Nat) (s : State) : State :=
  setHealth n .untested (modChannel n (fun c => { c with proving := .stopped, short := .none }) s)

/-- PROVING_TIMER_EXPIRY (R114). -/
def execProvingTimerExpiry (n : Nat) (s : State) : Host.Outcome State Fault Refusal :=
  whenUnit 12 n s fun s => takeIf ((s.channel n).proving.isRunning && (s.channel n).short == .proving) s (provingOver n)

end Sys2Proof.Machine
end

