-- ==== Sys2Proof/Machine/Phase.lean ====
section
/-! DEFINITION. The Phase Unit's commands (chapter 3): WRAP, MARK_STALE, SYNC_TIMER_EXPIRY, LIT_PART_EDGE. -/

namespace Sys2Proof.Machine

/-- φ has reached L. -/
def State.wrapDue (s : State) : Bool := s.loaded && decide (s.phase.len ≤ s.phase.phi)

/-- WRAP (R52): φ has reached L, so it counts on from 0. Where a MARK taken first in that millisecond has corrected L, or wrapped
already (R65), φ stands below L and there is no wrap (R59). -/
def execWrap (s : State) : Host.Outcome State Fault Refusal :=
  whenRunning s fun s => takeIf s.wrapDue s takeWrap

/-- MARK_STALE (R55). It is given, too, of a MARK that has returned from the line with φ past Q, of which the rule does not speak:
DESIGN CHOICE, notes/assumptions/62.md. -/
def execMarkStale (s : State) : Host.Outcome State Fault Refusal :=
  whenRunning s fun s => takeIf s.markPending s withdrawMark

/-- The SYNC timer expires: JOINED on the own phase (R66). -/
def syncOver (s : State) : State :=
  enterJoined { s with phase := { s.phase with lock := .own, quiet := 3 } }

/-- SYNC_TIMER_EXPIRY (R66). -/
def execSyncTimerExpiry (s : State) : Host.Outcome State Fault Refusal :=
  whenRunning s fun s => takeIf (s.phase.syncTimer.isRunning && s.seat.stage == .sync) s syncOver

/-- LIT_PART_EDGE (R87, R95): φ stands at an edge of a lit part; gates and channels are judged again. TT is computed from φ
(R89). -/
def execLitPartEdge (s : State) : Host.Outcome State Fault Refusal :=
  whenRunning s fun s => takeIf s.loaded s id

end Sys2Proof.Machine
end

