-- ==== Sys2Proof/Machine/Clock.lean ====
section
/-! DEFINITION. The station's own time: what one millisecond counts, and which timed event is due. `step` uses them when no
command waits (notes/assumptions/2.md). -/

namespace Sys2Proof.Machine

/-! ### One millisecond -/

/-- A channel's timers count, and a steady timer leaves the sample instant at which it stood (R109). -/
def Channel.tick (c : Channel) : Channel :=
  { c with
    rest := c.rest.tick
    proving := c.proving.tick
    steady := c.steady.map fun t => t + 1
    sampled := c.sampled && c.steady.isNone }

/-- The Seat Controller's timers count. -/
def SeatCtl.tick (c : SeatCtl) : SeatCtl :=
  { c with
    headListen := c.headListen.tick, unseated := c.unseated.tick, window := c.window.tick, offer := c.offer.tick,
    departure := c.departure.tick }

/-- φ counts from load done on (R52). -/
def PhaseUnit.tick (loaded : Bool) (p : PhaseUnit) : PhaseUnit :=
  { p with phi := if loaded then p.phi + 1 else p.phi, syncTimer := p.syncTimer.tick }

/-- The Demand Merger's timers and ages count (R82). -/
def Merger.tick (d : Merger) : Merger :=
  { d with
    holds := d.holds.map Timer.tick
    repeatTimer := d.repeatTimer.tick
    table := d.table.map fun e => (e.1, { e.2 with age := min (e.2.age + 1) Config.demandAgeMs }) }

/-- The Sensor Unit's timers and ages count (R144). -/
def SensorUnit.tick (u : SensorUnit) : SensorUnit :=
  { u with
    conversion := u.conversion.tick
    wheel := u.wheel.tick
    countsTimer := u.countsTimer.tick
    analogTimer := u.analogTimer.tick
    table := u.table.map fun e => (e.1, { e.2 with age := min (e.2.age + 1) Config.motionAgeMs }) }

/-- The Body Unit's timers count. -/
def BodyUnit.tick (b : BodyUnit) : BodyUnit :=
  { channels := b.channels.map fun c => { c with timer := c.timer.tick }
    relay := { b.relay with timer := b.relay.timer.tick } }

/-- The port's timers count; a FULL slot may be taken from the next millisecond on (R198). -/
def Port.tick (p : Port) : Port :=
  { p with query := p.query.map fun q => { q with timer := q.timer.tick }, slotDue := p.slot.isSome }

/-- One millisecond of own time passes. -/
def tickAll (s : State) : State :=
  { s with
    now := s.now + 1
    loader := { s.loader with retry := s.loader.retry.tick }
    seat := s.seat.tick
    phase := s.phase.tick s.loaded
    demand := s.demand.tick
    lamps :=
      { channels := s.lamps.channels.map Channel.tick
        check := s.lamps.check.map fun c => { c with turn := c.turn + 1 } }
    sensor := s.sensor.tick
    body := s.body.tick
    line := s.line.tick
    port := s.port.tick }

/-- A stopped station counts no time (R207). -/
def tick (s : State) : State := if s.power = .running then tickAll s else s

/-! ### The timed events that are due, in the order of the opcode table -/

/-- A candidate event, where its condition holds. -/
def dueIf (b : Bool) (i : Instr) : List Instr := if b then [i] else []

/-- The Seat Controller's. -/
def dueSeat (s : State) : List Instr :=
  dueIf (s.seat.headListen.isDue && s.seat.stage == .listen) .headListenExpiry ++
    dueIf (s.seat.unseated.isDue && (s.seat.stage == .listen || s.seat.stage == .claiming)) .unseatedTimerExpiry ++
    dueIf (s.seat.window.isDue && s.seat.stage == .claiming) .claimWindowExpiry ++
    dueIf (s.seat.offer.isDue && s.offerDue) .offerTimerExpiry ++
    dueIf (s.seat.departure.isDue && s.seated) .departureTimerExpiry

/-- A gate or a flash channel stands past an edge of a lit part (R87, R95). -/
def State.atEdge (s : State) : Bool := s.joined && !decide (judgeLamps (judgeGates s) = s)

/-- The Phase Unit's. A MARK that has returned from the line with φ past Q is stale too, from the first idle step after its return on:
DESIGN CHOICE, notes/assumptions/62.md. -/
def duePhase (s : State) : List Instr :=
  dueIf s.wrapDue .wrap ++
    dueIf (s.markPending && decide (s.phase.abandon ≤ s.phase.phi)) .markStale ++
    dueIf (s.phase.syncTimer.isDue && s.seat.stage == .sync) .syncTimerExpiry ++
    dueIf s.atEdge .litPartEdge

/-- The numbers, counted from `n`, of the members of a list that satisfy a test. -/
def numbersWhere {α : Type} (p : α → Bool) : Nat → List α → List Nat
  | _, [] => []
  | n, x :: r => if p x then n :: numbersWhere p (n + 1) r else numbersWhere p (n + 1) r

/-- The Demand Merger's. -/
def dueDemand (s : State) : List Instr :=
  (numbersWhere Timer.isDue 1 s.demand.holds).map .flasherHoldExpiry ++
    dueIf (s.demand.repeatTimer.isDue && s.serving) .demandRepeatExpiry ++
    (s.demand.table.filter fun e => decide (Config.demandAgeMs ≤ e.2.age)).map fun e => .demandEntryExpiry e.1

/-- The Lamp Channel Unit's. -/
def dueLamps (s : State) : List Instr :=
  dueIf s.turnDue .checkTurnEnd ++
    (numbersWhere (fun c => c.rest.isDue && c.short == .resting) 1 s.lamps.channels).map .restTimerExpiry ++
    (numbersWhere (fun c => c.proving.isDue && c.short == .proving) 1 s.lamps.channels).map .provingTimerExpiry

/-- The Sensor Unit's. -/
def dueSensor (s : State) : List Instr :=
  dueIf s.sensor.wheel.isDue .wheelTimerExpiry ++
    ((s.sensor.table.filter fun e => !e.2.stale && decide (Config.motionAgeMs ≤ e.2.age)).map
      fun e => .motionEntryStale e.1) ++
    dueIf (s.sensor.countsTimer.isDue && s.serving) .countsTimerExpiry ++
    dueIf (s.sensor.analogTimer.isDue && s.serving) .analogTimerExpiry

/-- The Body Unit's, the Line Interface's and the port's. -/
def dueRest (s : State) : List Instr :=
  (numbersWhere (fun c => c.running && c.timer.isDue) 1 s.body.channels).map .runTimerExpiry ++
    dueIf s.body.relay.timer.isDue .relayReplyExpiry ++
    dueIf s.line.disable.isDue .disableTimerExpiry ++
    dueIf ((s.port.query.map fun q => q.timer.isDue).getD false) .queryReplyExpiry ++
    dueIf (s.port.slot.isSome && s.port.slotDue) .slotTake

/-- The first timed event that is due; none at a stopped station. Events of the line and those that bring a reading are none of
these, so that idling begins and ends no frame: DESIGN CHOICE, notes/assumptions/2.md. -/
def due (s : State) : Option Instr :=
  if s.power = .running then
    (dueSeat s ++ duePhase s ++ dueDemand s ++ dueLamps s ++ dueSensor s ++ dueRest s).head?
  else none

/-- A check pulse has lasted its 20 ms (R101). -/
def State.pulseDue (s : State) : Bool :=
  s.power == .running && s.pulsedChannel.isSome && s.turnLasted Config.checkPulseMs

/-- The end of a check pulse whose reading no command has brought: the `k`-th free value (notes/assumptions/56.md). -/
def freePulseEnd (k : Nat) : Instr := .checkPulseEnd (10 * (Config.freeCurrent k).val) (50 * (Config.freeSupply k).val)

end Sys2Proof.Machine
end

