-- ==== Sys2Proof/Machine/Body.lean ====
section
/-! DEFINITION. The Body Unit's commands (chapter 8): the run limit, the driver trip and the relay's reply timer. -/

namespace Sys2Proof.Machine

/-- RUN_TIMER_EXPIRY (R155). -/
def execRunTimerExpiry (n : Nat) (s : State) : Host.Outcome State Fault Refusal :=
  whenUnit 4 n s fun s => takeIf (s.bodyChannel n).running s fun s => endRun .timedOut s n

/-- The driver of a RUNNING channel trips (R158). -/
def bodyTrip (n : Nat) (s : State) : State := raiseFault .bodyTripped n 2 (endRun .tripped s n)

/-- BODY_DRIVER_TRIP (R158). -/
def execBodyDriverTrip (n : Nat) (s : State) : Host.Outcome State Fault Refusal :=
  whenUnit 4 n s fun s => takeIf (s.bodyChannel n).running s (bodyTrip n)

/-- RELAY_REPLY_EXPIRY (R164). -/
def execRelayReplyExpiry (s : State) : Host.Outcome State Fault Refusal :=
  whenRunning s fun s => takeIf s.body.relay.timer.isRunning s relayExpiry

end Sys2Proof.Machine
end

