-- ==== Sys2Proof/Machine/Frames.lean ====
section
/-! DEFINITION. The frames received (R178): what each kind and sub-kind does at this station. The commands carry the
sender position and the raw payload fields of section 12.2. -/

namespace Sys2Proof.Machine

/-! ### DEMAND and MARK -/

/-- A DEMAND acts on the demand table (R81). -/
def takeDemand (p : Nat) (members flags : Byte) (s : State) : State :=
  let t :=
    if bitOf flags 4 then Table.erase s.demand.table [p]
    else Table.set s.demand.table p { set := demandOf members flags, origin := bitOf flags 5, age := 0 }
  { s with demand := { s.demand with table := t } }

/-- DEMAND_RECEIVED (R81). -/
def execDemandReceived (sender : Nibble) (members flags : Byte) (s : State) : Host.Outcome State Fault Refusal :=
  receive 0 sender.toNat [members, flags] s (takeDemand sender.toNat members flags)

/-- φ at the mark instant of the frame now received (R59): the value held with it, or the free value where no Start was
noted (notes/assumptions/6.md). -/
def State.phaseHeard (s : State) : Int :=
  match s.line.reception with
  | some r => r.phase
  | none => Config.freeInstant s.freeCount

/-- The free value's uses are counted; `heard` says that a Start was noted. -/
def countFree (heard : Bool) (s : State) : State :=
  { s with freeCount := if heard then s.freeCount else s.freeCount + 1 }

/-- A valid MARK (R58): the last-MARK time, the own pending MARK withdrawn, the correction. One received in LOADING sets the
last-MARK time too, as R58 says of every stage, and load done keeps it: notes/assumptions/37.md. -/
def takeMark (period duty lag : Nat) (phiR : Int) (s : State) : State :=
  applyMark period duty lag phiR (withdrawMark { s with phase := { s.phase with lastMark := some s.now } })

/-- The payload of a MARK (section 12.2). -/
def markBytes (period : Half) (duty : Byte) (lag : Half) : List Byte :=
  bytes2 period.toNat ++ [duty] ++ bytes2 lag.toNat

/-- MARK_RECEIVED (R58); a MARK that fails R178 is discarded. -/
def execMarkReceived (sender : Nibble) (period : Half) (duty : Byte) (lag : Half) (s : State) :
    Host.Outcome State Fault Refusal :=
  receive 1 sender.toNat (markBytes period duty lag) s fun t =>
    takeMark period.toNat duty.toNat lag.toNat s.phaseHeard (countFree s.line.reception.isSome t)

/-! ### DEPART, SEAT, PROBE -/

/-- A DEPART is applied; one that lists the own seat ends it (R29, R30). -/
def takeDepart (l : List Nat) (s : State) : State :=
  let own := s.seated && l.contains s.seat.ownSeat
  let s := applyDepart l s
  if own then departSelf s else s

/-- DEPART_RECEIVED (R29). -/
def execDepartReceived (sender : Nibble) (positions reason : Byte) (s : State) : Host.Outcome State Fault Refusal :=
  receive 2 sender.toNat [positions, reason] s (takeDepart (positionsOf positions))

/-- SEAT_OFFER_RECEIVED (R14). -/
def execSeatOfferReceived (sender : Nibble) (seat : Byte) (s : State) : Host.Outcome State Fault Refusal :=
  receive 3 sender.toNat [1, seat] s fun s =>
    if s.mayAccept sender.toNat seat.toNat then acceptOffer seat.toNat s else s

/-- The entry a SEAT CLAIM makes (R35). -/
def claimEntry (identity : Identity) (cls : UnitClass) (rejoin : Bool) : RosterEntry :=
  { identity := identity, cls := cls, stage := .claimed, rejoin := rejoin, note := .none, profile := none,
    check := none, fault := none }

/-- A seat defence (R18, R47): the own claim, then the PROFILE sequence by the stage. -/
def defendSeat (s : State) : State :=
  let s := offer (.seatClaim s.seat.ownSeat s.loader.identity s.loader.profile.cls false) s
  match s.seat.stage with
  | .joined => runSequence .announce s
  | .profiling => runSequence .initial s
  | .loading | .listen | .standalone | .claiming | .checking | .sync | .conflict => runSequence .defence s

/-- A SEAT CLAIM naming the own seat of a seated station (R18): with another identity, defended or yielded. -/
def claimOwn (identity : Identity) (rejoin : Bool) (s : State) : State :=
  if identity = s.loader.identity then s
  else if rejoin then defendSeat s else enterConflict s.seat.ownSeat s

/-- The claim makes or replaces the entry at its seat (R35). -/
def insertClaim (seat : Nat) (e : RosterEntry) (s : State) : State :=
  { s with
    roster :=
      { s.roster with
        entries := Table.set s.roster.entries seat e, reasm := Table.erase s.roster.reasm [seat] } }

/-- The claim shows that someone may have missed an announcement (R45). -/
def State.claimNews (s : State) (seat : Nat) (identity : Identity) (rejoin : Bool) : Bool :=
  s.seated &&
    (!Table.holds s.roster.entries seat ||
      (rejoin && !(seat == s.seat.ownSeat && identity != s.loader.identity)))

/-- The re-announcement-due flag is set (R45). -/
def setDue (s : State) : State := { s with roster := { s.roster with due := true } }

/-- A SEAT CLAIM naming a seat in 1..8 (R17, R18, R35, R45, R46). One of the own seat of a seated station leaves that position's
reassembly state as it was: notes/assumptions/36.md. -/
def takeClaim (seat : Nat) (identity : Identity) (cls : UnitClass) (rejoin : Bool) (s : State) : State :=
  let news := s.claimNews seat identity rejoin
  let s := if news then setDue s else s
  if s.seated && seat == s.seat.ownSeat then actOnDue (claimOwn identity rejoin s)
  else
    let s := insertClaim seat (claimEntry identity cls rejoin) s
    if s.seat.stage = .claiming ∧ seat = s.seat.claimed ∧ identity ≠ s.loader.identity then
      enterConflict seat (withdrawClaim s)
    else actOnDue s

/-- In LISTEN a claim of seat 1 sets the position-1-heard flag (R7). -/
def hearClaim (seat : Nat) (s : State) : State :=
  { s with
    seat := { s.seat with pos1Heard := s.seat.pos1Heard || (s.seat.stage == .listen && seat == 1) } }

/-- SEAT_CLAIM_RECEIVED (R35). -/
def execSeatClaimReceived (sender : Nibble) (seat : Byte) (identity : Identity) (classByte : Byte) (s : State) :
    Host.Outcome State Fault Refusal :=
  receive 3 sender.toNat ([2, seat] ++ identityBytes identity ++ [classByte]) s fun s =>
    let n := seat.toNat
    if 1 ≤ n ∧ n ≤ 8 then
      takeClaim n identity ((UnitClass.ofCode? (fieldOf classByte 2 0)).getD .primeMover) (bitOf classByte 7)
        (hearClaim n s)
    else s

/-- PROBE_RECEIVED (R27). -/
def execProbeReceived (sender : Nibble) (prober : Byte) (s : State) : Host.Outcome State Fault Refusal :=
  receive 4 sender.toNat [1, prober] s fun s =>
    if s.seated && decide (prober.toNat < s.seat.ownSeat) then offer (.probePresent prober.toNat) s else s

/-- An answer to the own PROBE adds its sender to H (R27). -/
def takePresent (sender : Nat) (s : State) : State :=
  { s with seat := { s.seat with answered := insertSorted sender s.seat.answered } }

/-- PROBE_PRESENT_RECEIVED (R27). -/
def execProbePresentReceived (sender : Nibble) (prober : Byte) (s : State) : Host.Outcome State Fault Refusal :=
  receive 4 sender.toNat [2, prober] s fun s =>
    if s.seat.departure.isRunning && prober.toNat == s.seat.ownSeat && decide (s.seat.ownSeat < sender.toNat) then
      takePresent sender.toNat s
    else s

/-! ### STAGE and FAULT (R34, R37, R38) -/

/-- Change the entry at a sender position; one bearing the own seat is ignored (R34). -/
def modEntry (p : Nat) (f : RosterEntry → RosterEntry) (s : State) : State :=
  if s.seated && p == s.seat.ownSeat then s
  else { s with roster := { s.roster with entries := Table.modify s.roster.entries p f } }

/-- STAGE_CHECKED_RECEIVED (R37). -/
def execStageCheckedReceived (sender : Nibble) (good failed complete : Byte) (s : State) :
    Host.Outcome State Fault Refusal :=
  receive 5 sender.toNat [1, good, failed, complete] s
    (modEntry sender.toNat fun e =>
      { e with
        check := some { good := good.toNat, failed := failed.toNat, complete := bitOf complete 0 }
        stage := if e.stage = .joined then .joined else .checked })

/-- STAGE_JOINED_RECEIVED (R37). -/
def execStageJoinedReceived (sender : Nibble) (note : Byte) (s : State) : Host.Outcome State Fault Refusal :=
  receive 5 sender.toNat [2, note] s
    (modEntry sender.toNat fun e => { e with stage := .joined, note := .ofCode note.toNat })

/-- A note on the entry at the sender position. -/
def noteEntry (p : Nat) (n : Note) (s : State) : State := modEntry p (fun e => { e with note := n }) s

/-- STAGE_TAKE_RECEIVED (R37, R125, R126). -/
def execStageTakeReceived (sender : Nibble) (s : State) : Host.Outcome State Fault Refusal :=
  receive 5 sender.toNat [3] s fun s => rearTake sender.toNat (noteEntry sender.toNat .taken s)

/-- STAGE_DECLINE_RECEIVED (R37, R127). -/
def execStageDeclineReceived (sender : Nibble) (deficiency : Byte) (s : State) :
    Host.Outcome State Fault Refusal :=
  receive 5 sender.toNat [4, deficiency] s fun s =>
    rearDecline sender.toNat (.ofByte deficiency) (noteEntry sender.toNat .declined s)

/-- STAGE_YIELD_RECEIVED (R37, R127). -/
def execStageYieldReceived (sender : Nibble) (s : State) : Host.Outcome State Fault Refusal :=
  receive 5 sender.toNat [5] s (noteEntry sender.toNat .yielded)

/-- FAULT_RECEIVED (R38). -/
def execFaultReceived (sender : Nibble) (code subject severity summary : Byte) (s : State) :
    Host.Outcome State Fault Refusal :=
  receive 6 sender.toNat [code, subject, severity, summary] s
    (modEntry sender.toNat fun e => { e with fault := some (faultSummaryOf summary) })

/-! ### BODY (R163, R165) -/

/-- BODY_REQUEST_RECEIVED (R163). -/
def execBodyRequestReceived (sender : Nibble) (target channel action tag : Byte) (s : State) :
    Host.Outcome State Fault Refusal :=
  receive 7 sender.toNat [1, target, channel, action, tag] s fun s =>
    if s.seated && target.toNat == s.seat.ownSeat then
      if action = 1 then ownRequest channel.toNat true tag.toNat s
      else if action = 2 then ownRequest channel.toNat false tag.toNat s
      else s
    else s

/-- The reply to the relayed request (R165). -/
def relayReply (running : Bool) (o : BodyOutcome) (s : State) : State :=
  { s with
    body :=
      { s.body with
        relay := { s.body.relay with state := .answered, reply := some (running, o), timer := .stopped } } }

/-- BODY_STATUS_RECEIVED (R165). -/
def execBodyStatusReceived (sender : Nibble) (channel state outcome tag : Byte) (s : State) :
    Host.Outcome State Fault Refusal :=
  receive 7 sender.toNat [2, channel, state, outcome, tag] s fun s =>
    if s.body.relay.takes sender.toNat channel.toNat tag.toNat then
      relayReply (state == 1) (.ofCode outcome.toNat) s
    else s

/-! ### PROFILE (R43, R44) -/

/-- A segment's data length is the one its place requires (R43). -/
def segmentOk (index total n : Nat) : Bool :=
  decide (index < total) && (if index + 1 < total then n == 11 else decide (1 ≤ n) && decide (n ≤ 11))

/-- What a completed sequence makes of the entry at its position (R44). -/
def summaryEntry (old : Option RosterEntry) (identity : Identity) (cls : UnitClass) (p : ProfileSummary) :
    RosterEntry :=
  let fresh : RosterEntry :=
    { identity := identity, cls := cls, stage := .profiled, rejoin := false, note := .none, profile := some p,
      check := none, fault := none }
  match old with
  | none => fresh
  | some e =>
    if e.identity = identity then
      { e with
        profile := some p
        cls := cls
        stage := match e.stage with | .claimed => .profiled | .profiled => .profiled | g => g }
    else fresh

/-- A completed sequence is checked and applied (R44). -/
def applySummary (p : Nat) (bytes : List Byte) (s : State) : State :=
  match parseSummary bytes with
  | none => s
  | some (i, c, sum) =>
    { s with
      roster :=
        { s.roster with
          entries := Table.set s.roster.entries p (summaryEntry (Table.get s.roster.entries p) i c sum) } }

/-- Put a sender's reassembly state. -/
def setCollecting (p : Nat) (c : Option Collecting) (s : State) : State :=
  { s with
    roster :=
      { s.roster with
        reasm :=
          match c with
          | none => Table.erase s.roster.reasm [p]
          | some c => Table.set s.roster.reasm p c } }

/-- Bytes have been gathered up to `next` segments of `total` (R43). -/
def gathered (p total next : Nat) (bytes : List Byte) (s : State) : State :=
  if next = total then applySummary p bytes (setCollecting p none s)
  else setCollecting p (some { total := total, expected := next, bytes := bytes }) s

/-- A segment is taken against its sender's reassembly state (R43). -/
def takeSegment (p index total : Nat) (data : List Byte) (s : State) : State :=
  if !segmentOk index total data.length then setCollecting p none s
  else if index = 0 then gathered p total 1 data s
  else
    match Table.get s.roster.reasm p with
    | none => s
    | some c =>
      if c.expected = index ∧ c.total = total then gathered p total (index + 1) (c.bytes ++ data) s
      else setCollecting p none s

/-- PROFILE_SEGMENT_RECEIVED (R43). -/
def execProfileSegmentReceived (sender : Nibble) (header : Byte) (data : List Byte) (s : State) :
    Host.Outcome State Fault Refusal :=
  receive 8 sender.toNat (header :: data) s fun s =>
    if s.seated && sender.toNat == s.seat.ownSeat then s
    else takeSegment sender.toNat (fieldOf header 7 4) (fieldOf header 3 0) data s

/-! ### REPORT (R143, R149) -/

/-- A REPORT COUNTS enters the motion table (R143). -/
def takeCounts (p : Nat) (moving : Bool) (s : State) : State :=
  { s with
    sensor :=
      { s.sensor with table := Table.set s.sensor.table p { moving := moving, age := 0, stale := false } } }

/-- REPORT_COUNTS_RECEIVED (R143). -/
def execReportCountsReceived (sender : Nibble) (motion : Byte) (counts : List Half) (s : State) :
    Host.Outcome State Fault Refusal :=
  receive 9 sender.toNat ([1, motion] ++ counts.flatMap fun c => bytes2 c.toNat) s (takeCounts sender.toNat (bitOf motion 0))

/-- REPORT_ANALOG_RECEIVED (R149): nothing of it is kept. -/
def execReportAnalogReceived (sender : Nibble) (thresholds : Byte) (values : List Half) (s : State) :
    Host.Outcome State Fault Refusal :=
  receive 9 sender.toNat ([2, thresholds] ++ values.flatMap fun v => bytes2 v.toNat) s id

/-! ### QUERY and ANSWER (R192, R197, R199) -/

/-- QUERY_RECEIVED (R192). -/
def execQueryReceived (sender : Nibble) (target itemClass first count : Byte) (s : State) :
    Host.Outcome State Fault Refusal :=
  receive 10 sender.toNat [target, itemClass, first, count] s fun s =>
    if s.seated && target.toNat == s.seat.ownSeat then
      takeQuery sender.toNat itemClass.toNat first.toNat count.toNat s
    else s

/-- ANSWER_RECEIVED (R197). -/
def execAnswerReceived (sender : Nibble) (requester itemClass index status : Byte) (data : List Byte) (s : State) :
    Host.Outcome State Fault Refusal :=
  receive 11 sender.toNat ([requester, itemClass, index, status] ++ data) s
    (takeAnswer sender.toNat requester.toNat (listedClass itemClass.toNat) index.toNat (.ofCode status.toNat) data)

end Sys2Proof.Machine
end

