-- ==== Sys2Proof/Machine/Line.lean ====
section
/-! DEFINITION. The Line Interface's commands (chapter 9). -/

namespace Sys2Proof.Machine

/-- FRAME_START (R172). -/
def execFrameStart (s : State) : Host.Outcome State Fault Refusal :=
  whenRunning s fun s => takeIf s.mayStart s fun s => noteStart false (startHead s)

/-- Arbitration is lost (R173): a dominant bit was read, the entry returns to pending and the station receives the frame that won. -/
def loseArbitration (s : State) : State := lapseClaim (goOnReceiving (returnToPending s))

/-- ARBITRATION_LOST (R173): at a bit sent recessive before the Check. -/
def execArbitrationLost (s : State) : Host.Outcome State Fault Refusal :=
  whenRunning s fun s => takeIf (s.mayDiffer true) s loseArbitration

/-- DRIVE_FAULT (R179): at a bit sent dominant before the Check. Every frame has one after its Start, in its kind code. -/
def execDriveFault (s : State) : Host.Outcome State Fault Refusal :=
  whenRunning s fun s => takeIf (s.mayDiffer false) s driveFault

/-- The driver is enabled again. -/
def enableDriver (s : State) : State := { s with line := { s.line with disable := .stopped } }

/-- DISABLE_TIMER_EXPIRY (R179). -/
def execDisableTimerExpiry (s : State) : Host.Outcome State Fault Refusal :=
  whenRunning s fun s => takeIf s.line.disable.isRunning s enableDriver

/-- FRAME_SENT (R174). -/
def execFrameSent (s : State) : Host.Outcome State Fault Refusal :=
  whenRunning s fun s =>
    match s.inFlight with
    | none => s
    | some x => settle (sendEnd x s)

/-- LINE_STUCK (R181). -/
def execLineStuck (s : State) : Host.Outcome State Fault Refusal :=
  whenRunning s fun s => takeIf (s.line.state != .stuck) s lineStuck

/-- The line is freed (R181). -/
def lineFreed (s : State) : State := clearFault .lineStuck 0 (setLine .idle 200 0 s)

/-- LINE_STUCK_CLEARED (R181). -/
def execLineStuckCleared (s : State) : Host.Outcome State Fault Refusal :=
  whenRunning s fun s => takeIf (s.line.state == .stuck) s lineFreed

/-- The bits heard are discarded by R177 or judged malformed by R178. -/
def State.discards (s : State) (bits : List Bool) : Bool :=
  match hear bits with
  | .discarded => true
  | .incomplete => false
  | .frame k n p => !frameValid s.phase.period k n p

/-- The bits read so far of the frame another station sends: they are counted, and held with it (R169, section 9.1). -/
def readSoFar (bits : List Bool) (s : State) : State :=
  { s with
    line :=
      { s.line.readOther bits with
        reception := s.line.reception.map fun r => { r with bits := bits } } }

/-- The frame received begins with the bits. -/
def State.readingOn (s : State) (bits : List Bool) : Bool :=
  (s.line.reception.map fun r => r.receiving && r.bits.isPrefixOf bits).getD false && hear bits == .incomplete

/-- FRAME_DISCARDED (R177, R178): the frame is discarded. Bits that end before any test can fail are what has been read of the frame
being received, and bits of a good frame change nothing (notes/assumptions/26.md). It is taken with the line STUCK or the own frame in flight too:
DESIGN CHOICE, notes/assumptions/51.md. -/
def execFrameDiscarded (bits : List Bool) (s : State) : Host.Outcome State Fault Refusal :=
  whenRunning s fun s =>
    if s.discards bits then settle (countMalformed { s with line := s.line.readOther bits })
    else if s.readingOn bits then readSoFar bits s
    else s

/-- MARK_INSTANT (R175). -/
def execMarkInstant (s : State) : Host.Outcome State Fault Refusal :=
  whenRunning s fun s => takeIf (s.line.state == .idle && s.inFlight.isNone) s (noteStart true)

/-- The line is quiet (R169). A frame still held as being received is heard no further and is not counted: DESIGN CHOICE,
notes/assumptions/50.md. -/
def lineQuiet (s : State) : State := setLine .idle 7 0 (dropReception s)

/-- LINE_IDLE (R169). -/
def execLineIdle (s : State) : Host.Outcome State Fault Refusal :=
  whenRunning s fun s => takeIf (s.line.state == .busy && s.inFlight.isNone) s lineQuiet

end Sys2Proof.Machine
end

