-- ==== Sys2Proof/Machine/Port.lean ====
section
/-! DEFINITION. The commands of the status port and of the query reply timer (chapter 10). -/

namespace Sys2Proof.Machine

/-- QUERY_REPLY_EXPIRY (R199): at the length of the reply timer. An ANSWER taken first in that millisecond has restarted it. -/
def execQueryReplyExpiry (s : State) : Host.Outcome State Fault Refusal :=
  whenRunning s fun s =>
    match s.port.query with
    | none => s
    | some q => takeIf q.timer.isDue s (queryExpiry q)

/-- STATUS_PORT_WRITE (R195, R198). -/
def execStatusPortWrite (address : BitVec 7) (bytes : List Byte) (s : State) : Host.Outcome State Fault Refusal :=
  whenRunning s (portWrite address bytes)

/-- STATUS_PORT_READ (R195 to R197). -/
def execStatusPortRead (address : BitVec 7) (count : Nat) (s : State) : Host.Outcome State Fault Refusal :=
  whenRunning s (portRead address count)

/-- The address straps' own address. -/
def State.ownAddress (s : State) : BitVec 7 := BitVec.ofNat 7 s.loader.portAddress

/-- STATION_ITEM_READ (R196): the pointer names STATION and its first byte is read (notes/assumptions/30.md). -/
def execStationItemRead (s : State) : Host.Outcome State Fault Refusal :=
  whenRunning s fun s => if s.loaded then portRead s.ownAddress 1 (setPointer 0 s) else s

/-- ANSWER_STORE_READ (R197): ANSWER 1 is read to its last byte (notes/assumptions/30.md). -/
def readAnswer (s : State) : State :=
  match s.port.store with
  | [] => s
  | e :: _ => setBus true [] (storeBytes e) (dropAnswer (setPointer answerPointer s))

/-- ANSWER_STORE_READ (R197). -/
def execAnswerStoreRead (s : State) : Host.Outcome State Fault Refusal :=
  whenRunning s fun s => if s.loaded then readAnswer s else s

/-- REQUEST_BODY_START (R198). -/
def execRequestBodyStart (position channel tag : Byte) (s : State) : Host.Outcome State Fault Refusal :=
  whenRunning s (writeWhole 1 [position, channel, tag])

/-- REQUEST_BODY_STOP (R198). -/
def execRequestBodyStop (position channel tag : Byte) (s : State) : Host.Outcome State Fault Refusal :=
  whenRunning s (writeWhole 2 [position, channel, tag])

/-- REQUEST_QUERY (R198). -/
def execRequestQuery (target itemClass first count : Byte) (s : State) : Host.Outcome State Fault Refusal :=
  whenRunning s (writeWhole 3 [target, itemClass, first, count])

/-- REQUEST_RESTART (R198). -/
def execRequestRestart (s : State) : Host.Outcome State Fault Refusal := whenRunning s (writeWhole 4 [])

/-- The slot is EMPTY again. -/
def emptySlot (s : State) : State := { s with port := { s.port with slot := none, slotDue := false } }

/-- SLOT_TAKE (R198). -/
def execSlotTake (s : State) : Host.Outcome State Fault Refusal :=
  whenRunning s fun s =>
    match s.port.slot with
    | none => s
    | some r => settle (takeRequest r (emptySlot s))

end Sys2Proof.Machine
end

