-- ==== Sys2Proof/Machine/Seating.lean ====
section
/-! DEFINITION. The Seat Controller's commands (chapter 1): the coupling inputs and its timers. -/

namespace Sys2Proof.Machine

/-- SEAT-IN became asserted: FRONT-LINK-LOST is cleared, and the warm rejoin claim is tried (R23, R25). -/
def seatInRises (s : State) : State :=
  tryWarmClaim (clearFault .frontLinkLost 0 { s with seat := { s.seat with seatIn := true, seatInSeen := true } })

/-- SEAT-IN became deasserted (R25). -/
def seatInFalls (s : State) : State := judgeFront { s with seat := { s.seat with seatIn := false, seatInSeen := true } }

/-- A level can change: past LOADING, and in LOADING once a change has been taken, to another level than it is; before that the
first sample is not known to the model (R1, notes/assumptions/10.md). -/
def State.mayChange (s : State) (seen now level : Bool) : Bool := now != level || (!s.loaded && !seen)

/-- SEAT_IN_CHANGE (R1, R25). -/
def execSeatInChange (level : Bool) (s : State) : Host.Outcome State Fault Refusal :=
  whenRunning s fun s =>
    takeIf (s.mayChange s.seat.seatInSeen s.seat.seatIn level) s (if level then seatInRises else seatInFalls)

/-- The frame is a PROBE. -/
def Frame.isProbe : Frame → Bool
  | .probe _ => true
  | _ => false

/-- A departure under way is cancelled (R26). -/
def cancelDeparture (s : State) : State :=
  if s.seat.departure.isRunning then
    withdraw Frame.isProbe { s with seat := { s.seat with departure := .stopped, answered := [] } }
  else s

/-- PRES-IN became asserted (R13, R26, R28, R128). -/
def presInRises (s : State) : State :=
  judgeFull (rearPresence (clearPresence (cancelDeparture { s with seat := { s.seat with presIn := true, presInSeen := true } })))

/-- PRES_IN_ASSERTED (R12). -/
def execPresInAsserted (s : State) : Host.Outcome State Fault Refusal :=
  whenRunning s fun s => takeIf (s.mayChange s.seat.presInSeen s.seat.presIn true) s presInRises

/-- A departure begins at a seated station (R26). -/
def beginDeparture (s : State) : State :=
  if s.seated then
    offer (.probe s.seat.ownSeat)
      { s with seat := { s.seat with departure := Timer.start Config.departureMs, answered := [] } }
  else s

/-- PRES-IN became deasserted (R13, R26). -/
def presInFalls (s : State) : State :=
  beginDeparture (clearFault .combinationFull 0 { s with seat := { s.seat with presIn := false, presInSeen := true } })

/-- PRES_IN_DEASSERTED (R26). -/
def execPresInDeasserted (s : State) : Host.Outcome State Fault Refusal :=
  whenRunning s fun s => takeIf (s.mayChange s.seat.presInSeen s.seat.presIn false) s presInFalls

/-- The head listen timer expires in LISTEN (R10). -/
def headListenOver (s : State) : State :=
  let s := { s with seat := { s.seat with headListen := .stopped } }
  if s.seat.pos1Heard then enterConflict 1 s
  else if s.hasIdentity && !s.line.mute then queueClaim 1 false s else s

/-- HEAD_LISTEN_EXPIRY (R10). -/
def execHeadListenExpiry (s : State) : Host.Outcome State Fault Refusal :=
  whenRunning s fun s => takeIf (s.seat.headListen.isRunning && s.seat.stage == .listen) s headListenOver

/-- The unseated timer expires (R7, R15): with the own claim IN-FLIGHT the expiry is held. -/
def unseatedOver (s : State) : State :=
  let s := { s with seat := { s.seat with unseated := .stopped } }
  if s.seat.claim = .inFlight then { s with seat := { s.seat with expiryHeld := true } } else seatUnavailable s

/-- UNSEATED_TIMER_EXPIRY (R7). -/
def execUnseatedTimerExpiry (s : State) : Host.Outcome State Fault Refusal :=
  whenRunning s fun s =>
    takeIf (s.seat.unseated.isRunning && (s.seat.stage == .listen || s.seat.stage == .claiming)) s unseatedOver

/-- CLAIM_WINDOW_EXPIRY (R16). -/
def execClaimWindowExpiry (s : State) : Host.Outcome State Fault Refusal :=
  whenRunning s fun s => takeIf (s.seat.window.isRunning && s.seat.stage == .claiming) s becomeSeated

/-- The offer timer expires with the condition holding (R12). -/
def offerOver (s : State) : State :=
  startOfferTimer (if s.line.queue.any fun e => e.frame.isOffer && !e.inFlight then s else sendOffer s)

/-- OFFER_TIMER_EXPIRY (R12). -/
def execOfferTimerExpiry (s : State) : Host.Outcome State Fault Refusal :=
  whenRunning s fun s => takeIf (s.seat.offer.isRunning && s.offerDue) s offerOver

/-- DEPARTURE_TIMER_EXPIRY (R28). -/
def execDepartureTimerExpiry (s : State) : Host.Outcome State Fault Refusal :=
  whenRunning s fun s => takeIf (s.seat.departure.isRunning && s.seated) s judgeDeparture

end Sys2Proof.Machine
end

