-- ==== Sys2Proof/Machine/Sensors.lean ====
section
/-! DEFINITION. The Sensor Unit's commands (chapter 7): conversions, edges, and its timers. -/

namespace Sys2Proof.Machine

/-- The threshold states of the inputs. -/
def State.thresholds (s : State) : List Bool := s.sensor.analogs.map Analog.on

/-- All inputs in use are converted in one event; a change of a threshold state queues a REPORT ANALOG (R134 to R137,
R147), one REPORT where several inputs change: DESIGN CHOICE, notes/assumptions/60.md. -/
def conversion (l : List AnalogSample) (s : State) : State :=
  let before := s.thresholds
  let s :=
    { s with
      sensor :=
        { s.sensor with
          conversion := Timer.start Config.conversionMs
          analogs := convertAll s.loader.profile.analog l s.sensor.analogs } }
  if s.thresholds = before then s else queueAnalog s

/-- ANALOG_CONVERSION (R134): 20 ms after load done, and 20 ms after the conversion before. -/
def execAnalogConversion (l : List AnalogSample) (s : State) : Host.Outcome State Fault Refusal :=
  whenRunning s fun s => takeIf (s.loaded && s.sensor.conversion.isDue) s (conversion l)

/-- The n-th pulse input's filtered level. -/
def State.cntLevel (s : State) (n : Nat) : Bool := (nth s.sensor.levels n).getD false

/-- An edge of a pulse input: counted where its direction matches, and a WHEEL input's taken for motion (R138, R142). -/
def edge (n : Nat) (level : Bool) (s : State) : State :=
  let p := s.pulseCfg n
  let s := { s with sensor := { s.sensor with levels := modNth s.sensor.levels n fun _ => level } }
  if p.role != .notInUse && p.edge.takes level then
    let s := countEdge n s
    if p.role = .wheel then wheelEdge s else s
  else s

/-- PULSE_EDGE (R138). -/
def execPulseEdge (n : Nat) (level : Bool) (s : State) : Host.Outcome State Fault Refusal :=
  whenUnit 4 n s fun s => takeIf (s.loaded && s.cntLevel n != level) s (edge n level)

/-- The wheel timer expires: STILL (R142). -/
def wheelOver (s : State) : State := setMotion false { s with sensor := { s.sensor with wheel := .stopped } }

/-- WHEEL_TIMER_EXPIRY (R142): at 1,000 ms of the wheel timer. An edge taken first in that millisecond has restarted the timer,
which then does not expire. -/
def execWheelTimerExpiry (s : State) : Host.Outcome State Fault Refusal :=
  whenRunning s fun s => takeIf s.sensor.wheel.isDue s wheelOver

/-- An entry of the motion table becomes stale, its age held at 1,500 ms (R144). -/
def staleEntry (p : Nat) (s : State) : State :=
  { s with
    sensor :=
      { s.sensor with
        table := Table.modify s.sensor.table p fun e => { e with stale := true, age := Config.motionAgeMs } } }

/-- The motion table entry of a position has reached its age (R144); one received anew has not. -/
def State.motionAged (s : State) (p : Nat) : Bool :=
  ((Table.get s.sensor.table p).map fun e => decide (Config.motionAgeMs ≤ e.age)).getD false

/-- MOTION_ENTRY_STALE (R144). -/
def execMotionEntryStale (p : Nat) (s : State) : Host.Outcome State Fault Refusal :=
  whenUnit 8 p s fun s => takeIf (s.motionAged p) s (staleEntry p)

/-- COUNTS_TIMER_EXPIRY (R146). -/
def execCountsTimerExpiry (s : State) : Host.Outcome State Fault Refusal :=
  whenRunning s fun s => takeIf (s.sensor.countsTimer.isRunning && s.serving) s queueCounts

/-- ANALOG_TIMER_EXPIRY (R147). -/
def execAnalogTimerExpiry (s : State) : Host.Outcome State Fault Refusal :=
  whenRunning s fun s => takeIf (s.sensor.analogTimer.isRunning && s.serving) s queueAnalog

end Sys2Proof.Machine
end

