-- ==== Sys2Proof/Machine/Supply.lean ====
section
/-! DEFINITION. The commands of the supply and of loading (chapter 11): START, BROWN_OUT, SUPPLY_LOST,
PROFILE_READ_ATTEMPT, LOAD_DONE. -/

namespace Sys2Proof.Machine

/-- A start of a stopped station: every block is set, LOADING is entered; the commands waiting stay (R207). The record
stays as it is: at a COLD start its counters are 0 since the loss of the supply, and load done writes them (R140, R208): DESIGN CHOICE,
notes/assumptions/67.md. -/
def startUp (kind : StartKind) (s : State) : State :=
  { State.atStart kind s.retention with pending := s.pending, freeCount := s.freeCount }

/-- START (R207): WARM where the retention record was held since the stop, COLD where the supply was lost. A running
station takes no start from its supply. -/
def execStart (s : State) : Host.Outcome State Fault Refusal :=
  .next
    (match s.power with
    | .running => s
    | .stopped => startUp .warm s
    | .lost => startUp .cold s)

/-- Everything a brown-out turns off (R207): lamp and body drivers and ATTN; the other outputs follow from the power. -/
def stopStation (s : State) : State :=
  { s with
    power := .stopped
    lamps := { s.lamps with channels := s.lamps.channels.map fun c => { c with lit := false, steady := none } }
    body :=
      { s.body with channels := s.body.channels.map fun c => { c with running := false, timer := .stopped } }
    port := { s.port with attn := false } }

/-- BROWN_OUT (R207). -/
def execBrownOut (s : State) : Host.Outcome State Fault Refusal := whenRunning s stopStation

/-- The retention record is lost (R207). -/
def loseSupply (s : State) : State := { s with power := .lost, retention := .lost }

/-- SUPPLY_LOST (R207). A running station has fallen through 8.0 V first (notes/assumptions/23.md). -/
def execSupplyLost (s : State) : Host.Outcome State Fault Refusal :=
  .next (loseSupply (if s.power = .running then stopStation s else s))

/-- A read attempt has failed (R202): the next begins 2 ms later. -/
def failedAttempt (s : State) : State :=
  { s with loader := { s.loader with attempts := s.loader.attempts + 1, retry := Timer.start Config.retryMs } }

/-- One read attempt (R202): a read of all 171 bytes is the image, anything else a failed attempt. -/
def readAttempt (bytes : Option (List Byte)) (s : State) : State :=
  let n := s.loader.attempts + 1
  match bytes with
  | some b =>
    if b.length = Config.imageBytes then
      { s with loader := { s.loader with attempts := n, retry := .stopped, image := some b, outcome := n } }
    else failedAttempt s
  | none => failedAttempt s

/-- A read attempt may be made (R202): in LOADING, with no image read yet, fewer than three attempts, and 2 ms gone since one that
failed. -/
def State.mayRead (s : State) : Bool :=
  s.seat.stage == .loading && s.loader.image.isNone && decide (s.loader.attempts < Config.maxAttempts) &&
    (!s.loader.retry.isRunning || s.loader.retry.isDue)

/-- PROFILE_READ_ATTEMPT (R202). -/
def execProfileReadAttempt (bytes : Option (List Byte)) (s : State) : Host.Outcome State Fault Refusal :=
  whenRunning s fun s => if s.mayRead then readAttempt bytes s else s

/-! ### LOAD_DONE -/

/-- The read is over: an image, or three failed attempts (R202). -/
def State.readOver (s : State) : Bool :=
  s.seat.stage == .loading && (s.loader.image.isSome || decide (Config.maxAttempts ≤ s.loader.attempts))

/-- The warm test, over the identity just applied, zero where it is not good (R209). -/
def State.warmTest (s : State) : Bool :=
  s.loader.cause == .warm && s.retention.valid && s.loader.identity != 0 &&
    s.retention.identity == s.loader.identity && decide (1 ≤ s.retention.seat) && decide (s.retention.seat ≤ 8)

/-- The Loader applies the identity and the profile (R203 to R205). -/
def applyImage (s : State) : State :=
  { s with
    loader :=
      { s.loader with
        identity := appliedIdentity s.loader.image
        profileDefault := appliedDefault s.loader.image
        profile := appliedProfile s.loader.image } }

/-- The retention record of a start handled as COLD, written whole (R208). After a COMMANDED start the counters become 0 here, not at
the start: DESIGN CHOICE, notes/assumptions/67.md. -/
def freshRetention (identity : Identity) : Retention :=
  { valid := true, seat := 0, identity := identity, channels := List.replicate 12 (.untested, 0),
    counts := List.replicate 4 0 }

/-- A channel as a warm start restores it: a SHORT one rests (R92). -/
def restoredChannel (f : LampFn) (r : Health × Nat) : Channel :=
  if f = .unassigned then .reset
  else if r.1 = .short then
    { Channel.reset with health := r.1, retry := r.2, short := .resting, rest := Timer.start Config.restMs }
  else { Channel.reset with health := r.1, retry := r.2 }

/-- The twelve channels as a warm start restores them. -/
def restoredChannels : List LampCfg → List (Health × Nat) → List Channel
  | c :: cs, r :: rs => restoredChannel c.function r :: restoredChannels cs rs
  | _, _ => []

/-- The Loader's decision about the retention record (R208, R209): restored, or written afresh. -/
def decideRetention (warm : Bool) (s : State) : State :=
  if warm then
    { s with
      seat := { s.seat with rejoin := some s.retention.seat }
      lamps := { s.lamps with channels := restoredChannels s.loader.profile.lamps s.retention.channels } }
  else { s with retention := freshRetention s.loader.identity }

/-- The start record (R206). -/
def writeRecord (warm : Bool) (s : State) : State :=
  { s with
    loader :=
      { s.loader with
        record :=
          { kind := s.loader.cause, warmPath := warm, outcome := s.loader.outcome,
            profileDefault := s.loader.profileDefault, identity := s.loader.identity } } }

/-- The straps and levels sampled at load done (R1, R2, R73, R138, R195): a coupling input keeps the level of a change taken since its
first sample, and the analog conversions begin (R134). -/
def takeSample (p : LoadSample) (s : State) : State :=
  { s with
    loader := { s.loader with portAddress := 52 + 2 * p.adr1.toNat + p.adr0.toNat }
    seat :=
      { s.seat with
        head := p.head
        seatIn := if s.seat.seatInSeen then s.seat.seatIn else p.seatIn
        presIn := if s.seat.presInSeen then s.seat.presIn else p.presIn }
    demand := { s.demand with levels := (p.din ++ List.replicate 8 false).take 8 }
    sensor :=
      { s.sensor with
        levels := (p.cnt ++ List.replicate 4 false).take 4
        conversion := Timer.start Config.conversionMs } }

/-- The Phase Unit starts on the profile's rate and duty (R50, R51). -/
def startPhase (s : State) : State :=
  let p := periodOfRate s.loader.profile.rate
  { s with phase := { s.phase with phi := 0, len := p, period := p, duty := s.loader.profile.duty } }

/-- LISTEN is entered (R6). -/
def enterListen (s : State) : State :=
  { s with
    seat :=
      { s.seat with
        stage := .listen
        unseated := Timer.start Config.unseatedMs
        pos1Heard := false
        headListen :=
          if s.seat.head && s.seat.rejoin.isNone then Timer.start Config.headListenMs else s.seat.headListen } }

/-- IDENTITY-MISSING and PROFILE-DEFAULT where they apply (R203, R204). -/
def loadFaults (s : State) : State :=
  let s := if s.loader.identity = 0 then raiseFault .identityMissing 0 3 s else s
  if s.loader.profileDefault then raiseFault .profileDefault 0 2 s else s

/-- The lamp faults of the restored health, by channel (R92). -/
def restoredFaults (s : State) : State :=
  [1, 2, 3, 4, 5, 6, 7, 8, 9, 10, 11, 12].foldl (fun s n => raiseHealthFault n (s.channel n).health s) s

/-- Load done (R206, R209). -/
def loadDone (p : LoadSample) (s : State) : State :=
  let s := applyImage s
  let warm := s.warmTest
  tryWarmClaim <| restoredFaults <| loadFaults <| enterListen <| startPhase <| takeSample p <| writeRecord warm <|
    decideRetention warm s

/-- LOAD_DONE (R206). -/
def execLoadDone (p : LoadSample) (s : State) : Host.Outcome State Fault Refusal :=
  whenRunning s fun s => takeIf s.readOver s (loadDone p)

end Sys2Proof.Machine
end

