-- ==== Sys2Proof/Machine/Dispatch.lean ====
section
/-! DEFINITION. The dispatch of the commands: one arm per row of the opcode table. -/

namespace Sys2Proof.Machine

/-- What a command does to everything but the queue of commands. -/
def exec (i : Instr) (s : State) : Host.Outcome State Fault Refusal :=
  match i with
  | .start => Sys2Proof.Machine.execStart s
  | .brownOut => Sys2Proof.Machine.execBrownOut s
  | .supplyLost => Sys2Proof.Machine.execSupplyLost s
  | .profileReadAttempt bytes => Sys2Proof.Machine.execProfileReadAttempt bytes s
  | .loadDone sample => Sys2Proof.Machine.execLoadDone sample s
  | .seatInChange level => Sys2Proof.Machine.execSeatInChange level s
  | .presInAsserted => Sys2Proof.Machine.execPresInAsserted s
  | .presInDeasserted => Sys2Proof.Machine.execPresInDeasserted s
  | .headListenExpiry => Sys2Proof.Machine.execHeadListenExpiry s
  | .unseatedTimerExpiry => Sys2Proof.Machine.execUnseatedTimerExpiry s
  | .claimWindowExpiry => Sys2Proof.Machine.execClaimWindowExpiry s
  | .offerTimerExpiry => Sys2Proof.Machine.execOfferTimerExpiry s
  | .departureTimerExpiry => Sys2Proof.Machine.execDepartureTimerExpiry s
  | .wrap => Sys2Proof.Machine.execWrap s
  | .markStale => Sys2Proof.Machine.execMarkStale s
  | .syncTimerExpiry => Sys2Proof.Machine.execSyncTimerExpiry s
  | .litPartEdge => Sys2Proof.Machine.execLitPartEdge s
  | .demandInputChange input level => Sys2Proof.Machine.execDemandInputChange input level s
  | .flasherHoldExpiry input => Sys2Proof.Machine.execFlasherHoldExpiry input s
  | .demandRepeatExpiry => Sys2Proof.Machine.execDemandRepeatExpiry s
  | .demandEntryExpiry position => Sys2Proof.Machine.execDemandEntryExpiry position s
  | .checkPulseEnd current supply => Sys2Proof.Machine.execCheckPulseEnd current supply s
  | .checkTurnEnd => Sys2Proof.Machine.execCheckTurnEnd s
  | .lampTrip channel current => Sys2Proof.Machine.execLampTrip channel current s
  | .steadySample channel current supply => Sys2Proof.Machine.execSteadySample channel current supply s
  | .flashSample channel current supply => Sys2Proof.Machine.execFlashSample channel current supply s
  | .restTimerExpiry channel => Sys2Proof.Machine.execRestTimerExpiry channel s
  | .provingTimerExpiry channel => Sys2Proof.Machine.execProvingTimerExpiry channel s
  | .analogConversion samples => Sys2Proof.Machine.execAnalogConversion samples s
  | .pulseEdge input level => Sys2Proof.Machine.execPulseEdge input level s
  | .wheelTimerExpiry => Sys2Proof.Machine.execWheelTimerExpiry s
  | .motionEntryStale position => Sys2Proof.Machine.execMotionEntryStale position s
  | .countsTimerExpiry => Sys2Proof.Machine.execCountsTimerExpiry s
  | .analogTimerExpiry => Sys2Proof.Machine.execAnalogTimerExpiry s
  | .runTimerExpiry channel => Sys2Proof.Machine.execRunTimerExpiry channel s
  | .bodyDriverTrip channel => Sys2Proof.Machine.execBodyDriverTrip channel s
  | .relayReplyExpiry => Sys2Proof.Machine.execRelayReplyExpiry s
  | .frameStart => Sys2Proof.Machine.execFrameStart s
  | .arbitrationLost => Sys2Proof.Machine.execArbitrationLost s
  | .driveFault => Sys2Proof.Machine.execDriveFault s
  | .disableTimerExpiry => Sys2Proof.Machine.execDisableTimerExpiry s
  | .frameSent => Sys2Proof.Machine.execFrameSent s
  | .lineStuck => Sys2Proof.Machine.execLineStuck s
  | .lineStuckCleared => Sys2Proof.Machine.execLineStuckCleared s
  | .frameDiscarded bits => Sys2Proof.Machine.execFrameDiscarded bits s
  | .demandReceived sender members flags => Sys2Proof.Machine.execDemandReceived sender members flags s
  | .markReceived sender period duty lag => Sys2Proof.Machine.execMarkReceived sender period duty lag s
  | .departReceived sender positions reason => Sys2Proof.Machine.execDepartReceived sender positions reason s
  | .seatOfferReceived sender seat => Sys2Proof.Machine.execSeatOfferReceived sender seat s
  | .seatClaimReceived sender seat identity classByte => Sys2Proof.Machine.execSeatClaimReceived sender seat identity classByte s
  | .probeReceived sender prober => Sys2Proof.Machine.execProbeReceived sender prober s
  | .probePresentReceived sender prober => Sys2Proof.Machine.execProbePresentReceived sender prober s
  | .stageCheckedReceived sender good failed complete => Sys2Proof.Machine.execStageCheckedReceived sender good failed complete s
  | .stageJoinedReceived sender note => Sys2Proof.Machine.execStageJoinedReceived sender note s
  | .stageTakeReceived sender => Sys2Proof.Machine.execStageTakeReceived sender s
  | .stageDeclineReceived sender deficiency => Sys2Proof.Machine.execStageDeclineReceived sender deficiency s
  | .stageYieldReceived sender => Sys2Proof.Machine.execStageYieldReceived sender s
  | .faultReceived sender code subject severity summary => Sys2Proof.Machine.execFaultReceived sender code subject severity summary s
  | .bodyRequestReceived sender target channel action tag => Sys2Proof.Machine.execBodyRequestReceived sender target channel action tag s
  | .bodyStatusReceived sender channel state outcome tag => Sys2Proof.Machine.execBodyStatusReceived sender channel state outcome tag s
  | .profileSegmentReceived sender header data => Sys2Proof.Machine.execProfileSegmentReceived sender header data s
  | .reportCountsReceived sender motion counts => Sys2Proof.Machine.execReportCountsReceived sender motion counts s
  | .reportAnalogReceived sender thresholds values => Sys2Proof.Machine.execReportAnalogReceived sender thresholds values s
  | .queryReceived sender target itemClass first count => Sys2Proof.Machine.execQueryReceived sender target itemClass first count s
  | .answerReceived sender requester itemClass index status data => Sys2Proof.Machine.execAnswerReceived sender requester itemClass index status data s
  | .queryReplyExpiry => Sys2Proof.Machine.execQueryReplyExpiry s
  | .statusPortWrite address bytes => Sys2Proof.Machine.execStatusPortWrite address bytes s
  | .stationItemRead => Sys2Proof.Machine.execStationItemRead s
  | .answerStoreRead => Sys2Proof.Machine.execAnswerStoreRead s
  | .requestBodyStart position channel tag => Sys2Proof.Machine.execRequestBodyStart position channel tag s
  | .requestBodyStop position channel tag => Sys2Proof.Machine.execRequestBodyStop position channel tag s
  | .requestQuery target itemClass first count => Sys2Proof.Machine.execRequestQuery target itemClass first count s
  | .requestRestart => Sys2Proof.Machine.execRequestRestart s
  | .slotTake => Sys2Proof.Machine.execSlotTake s
  | .markInstant => Sys2Proof.Machine.execMarkInstant s
  | .lineIdle => Sys2Proof.Machine.execLineIdle s
  | .statusPortRead address count => Sys2Proof.Machine.execStatusPortRead address count s

end Sys2Proof.Machine
end

