-- ==== Sys2Proof/Machine/Step.lean ====
section
/-! DEFINITION. The step: the command at the front of the queue, or, where none waits, the first timed event that is due,
or one millisecond of own time (notes/assumptions/2.md). -/

namespace Sys2Proof.Machine

/-- No command waits: the station's own clock goes on, and no check pulse outlasts its 20 ms (R101, notes/assumptions/56.md). -/
def idle (s : State) : Host.Outcome State Fault Refusal :=
  match due s with
  | some c => exec c s
  | none =>
    if s.pulseDue then exec (freePulseEnd s.freeCount) { s with freeCount := s.freeCount + 1 } else .next (tick s)

/-- One step. -/
def step (s : State) : Host.Outcome State Fault Refusal :=
  match s.pending with
  | c :: r => exec c { s with pending := r }
  | [] => idle s

/-- Put the command a table word spells at the front of the queue; no row of the table has bits, so the state is
unchanged. -/
def State.withFetchWord (s : State) (nbits w : Nat) : State :=
  match decodeTableWord nbits w with
  | some i => { s with pending := i :: s.pending }
  | none => s

end Sys2Proof.Machine
end

