-- ==== Sys2Proof/Safety.lean ====
section
/-! DEFINITION. What the claims are stated in: the invariants of a station that the rules lay down, and which stage
changes and which other changes the rules allow. -/

namespace Sys2Proof.Machine

/-! ### Frames: what an event may change besides its own effect -/

/-- The state with all that offering and withdrawing frames may change put to fixed values: the queue with its held
frames, its overflow count and entry numbers, and what owners note of frames lost to a full queue. -/
def State.unqueued (s : State) : State :=
  { s with
    line := { s.line with queue := [], followOn := [], overflow := 0, nextId := 0 }
    roster := { s.roster with announce := none }
    body := { s.body with relay := { s.body.relay with state := .none, timer := .stopped } }
    port := { s.port with query := none, queryOutcome := .none, answering := none, owed := none } }

/-- The same with all that raising and clearing faults may change: the fault list, ATTN, and the own roster entry's fault
summary. -/
def State.unfaulted (s : State) : State :=
  let t := s.unqueued
  { t with
    faults := { list := [], overflow := false }
    roster :=
      { t.roster with
        entries := Table.modify t.roster.entries t.seat.ownSeat fun e => { e with fault := none } }
    port := { t.port with attn := false } }

/-- A channel without what the judgement of its lit state may change. -/
def Channel.unjudged (c : Channel) : Channel :=
  { c with retry := 0, short := .none, proving := .stopped, steady := none, lit := false }

/-- A body channel without what the ending of a run changes. -/
def BodyChannel.unjudged (c : BodyChannel) : BodyChannel :=
  { c with running := false, timer := .stopped, outcome := .none }

/-- The same with all that the judgements following an event may change: the offer timer, the derived demand, gates and
lit states, runs ended, and the combination motion view. What is left is what only the event's own effect writes. -/
def State.primary (s : State) : State :=
  let t := s.unfaulted
  { t with
    seat := { t.seat with offer := .stopped }
    retention := { t.retention with channels := [] }
    demand :=
      { t.demand with
        own := .empty, hazard := false, active := false, repeatTimer := .stopped, eff := .empty, fallback := false
        gateL := .off, gateR := .off, gateB := .off }
    lamps := { t.lamps with channels := t.lamps.channels.map Channel.unjudged }
    sensor := { t.sensor with view := false }
    body := { t.body with channels := t.body.channels.map BodyChannel.unjudged } }

/-! ### What is derived agrees with its inputs -/

/-- The combination motion view by its inputs (R145). -/
def State.viewDue (s : State) : Bool :=
  s.sensor.moving || s.sensor.table.any fun e => e.2.moving && !e.2.stale

/-- A flash gate agrees with the demand: outside JOINED it is OFF; one not asked for is OFF, or ENDING in a lit part; one
asked for is ARMED or RUNNING (R86, R87). -/
def Gate.agrees (joined asked lit : Bool) (g : Gate) : Prop :=
  (joined = false → g = .off) ∧ (joined = true → asked = true → g = .armed ∨ g = .running) ∧
  (asked = false → g = .off ∨ (g = .ending ∧ lit = true))

/-- What every judgement leaves: each derived part of the state is what its rule makes of its inputs. -/
structure Settled (s : State) : Prop where
  view : s.sensor.view = s.viewDue
  hazard : s.demand.hazard = s.hazardDue
  own : s.demand.own = s.contribution
  fallback : s.demand.fallback = s.fallbackDue
  eff : s.demand.eff = s.effective
  gateL : s.demand.gateL.agrees s.joined (s.demand.eff.asks .turnL) s.phase.singleLit
  gateR : s.demand.gateR.agrees s.joined (s.demand.eff.asks .turnR) s.phase.singleLit
  gateB : s.demand.gateB.agrees s.joined (s.demand.eff.asks .beacon) s.phase.doubleLit
  lit : ∀ n c, nth s.lamps.channels n = some c →
    (c.lit = true ↔ s.calledFor n = true ∧ c.health ≠ .locked ∧ c.short ≠ .resting)
  waiting : ∀ n c, nth s.lamps.channels n = some c → c.short = .waiting → s.calledFor n = true → c.health = .locked
  offer : s.seat.offer.isRunning = s.offerDue
  runs : ∀ n ∈ bodyNumbers, (s.bodyChannel n).running = true →
    s.joined = true ∧ ((s.bodyCfg n).motionInhibited = true → s.sensor.view = false) ∧
      ((s.bodyCfg n).parkRequired = true → s.demand.eff.park = true)

/-! ### Seats and the roster (R3, R31, R32) -/

/-- A seat number. -/
def isSeat (n : Nat) : Prop := 1 ≤ n ∧ n ≤ 8

/-- The own seat is a seat while the station is seated and 0 otherwise; a claimed and a retained seat are seats. -/
structure SeatsOk (s : State) : Prop where
  seated : s.seated = true → isSeat s.seat.ownSeat
  unseated : s.seated = false → s.seat.ownSeat = 0
  claiming : s.seat.stage = .claiming → isSeat s.seat.claimed
  rejoin : ∀ p, s.seat.rejoin = some p → isSeat p

/-- The position tables hold at most one entry per position, in position order, positions in 1..8 (R31, R43, R81, R143). -/
structure TablesOk (s : State) : Prop where
  roster : Table.wf s.roster.entries = true
  reasm : Table.wf s.roster.reasm = true
  demand : Table.wf s.demand.table = true
  motion : Table.wf s.sensor.table = true

/-- A seated station's roster holds an entry at its own seat carrying its own identity (R32). -/
def OwnEntryOk (s : State) : Prop :=
  s.seated = true → (Table.get s.roster.entries s.seat.ownSeat).map RosterEntry.identity = some s.loader.identity

/-- A seated station's own entry carries the summary of its fault list (R33). -/
def OwnSummaryOk (s : State) : Prop :=
  s.seated = true →
    (Table.get s.roster.entries s.seat.ownSeat).map RosterEntry.fault = some (some (summaryOf s s.faults.list))

/-- What is under way fits the stage: a claim belongs to CLAIMING, a held expiry to a claim IN-FLIGHT, the claim window to one
sent, the first announcement to PROFILING, a circuit check to CHECKING (R15, R16, R19, R41, R100). -/
structure ProgressOk (s : State) : Prop where
  claim : s.seat.claim ≠ .none → s.seat.stage = .claiming
  held : s.seat.expiryHeld = true → s.seat.claim = .inFlight
  window : s.seat.window.isRunning = true → s.seat.claim = .window
  initial : ∀ a, s.roster.announce = some a → a.purpose = .initial → s.seat.stage = .profiling
  check : s.lamps.check ≠ none → s.seat.stage = .checking

/-- In LOADING nothing of a former seat stands: the fallback marker is clear, no rejoin waits, the head listen timer stands still, and
every channel is as a start leaves it (R3, R10, R92). -/
structure LoadingOk (s : State) : Prop where
  marker : s.seat.stage = .loading → s.seat.fallbackMark = false
  rejoin : s.seat.stage = .loading → s.seat.rejoin = none
  headListen : s.seat.stage = .loading → s.seat.headListen = .stopped
  channels : s.seat.stage = .loading → ∀ c ∈ s.lamps.channels, c = Channel.reset

/-- FRONT-LINK-LOST belongs to a seated station (R25, R30). -/
def FrontLinkOk (s : State) : Prop := s.seated = false → s.hasFault .frontLinkLost 0 = false

/-! ### The transmit queue (R4, R182) -/

/-- The number of entries whose frame satisfies a test. -/
def countFrames (p : Frame → Bool) (q : List Entry) : Nat := (q.filter fun e => p e.frame).length

/-- The queue's order and its limits (R182), the frame on the line the station's own exactly while an entry is in flight (R172), and the
numbers by which the model tells entries apart: no two the same, and each below the number the next frame offered gets. -/
structure QueueOk (s : State) : Prop where
  size : s.line.queue.length ≤ 8
  order : s.line.queue.Pairwise fun a b => a.frame.kind ≤ b.frame.kind
  oneInFlight : (s.line.queue.filter fun e => e.inFlight).length ≤ 1
  classes : ∀ c, countFrames (fun f => f.replaceClass == some c) s.line.queue ≤ 1
  profile : countFrames (fun f => f.kind == 8) s.line.queue ≤ 1
  answer : countFrames (fun f => f.kind == 11) s.line.queue ≤ 1
  onLine : s.line.sending = s.inFlight.isSome
  distinct : s.line.queue.Pairwise fun a b => a.id ≠ b.id
  fresh : ∀ e ∈ s.line.queue, e.id < s.line.nextId

/-- The entry is a frame that was being sent, in its last End bit, when the station became unseated or entered CONFLICT, and completes
(R186). -/
abbrev Entry.completing (e : Entry) : Prop := e.inFlight = true ∧ e.dying = true

/-- What an unseated station's queue may hold besides a frame that completes (R4, R186): SEAT CLAIMs only, in CONFLICT nothing; in
LOADING it is empty. -/
structure SilenceOk (s : State) : Prop where
  unseated : s.seated = false →
    (∀ e ∈ s.line.queue, e.frame.isSeatClaim = true ∨ e.completing) ∧ s.line.followOn = []
  loading : s.seat.stage = .loading → s.line.queue = []
  conflict : s.seat.stage = .conflict → ∀ e ∈ s.line.queue, e.completing

/-! ### The fault list (R188) -/

/-- At most eight entries, no two of the same code and subject, in order of onset, no onset later than now and none above
what 32 bits hold. -/
structure FaultsOk (s : State) : Prop where
  size : s.faults.list.length ≤ 8
  distinct : s.faults.list.Pairwise fun a b => ¬(a.code = b.code ∧ a.subject = b.subject)
  order : s.faults.list.Pairwise fun a b => a.onset ≤ b.onset
  past : ∀ e ∈ s.faults.list, e.onset ≤ min s.now Config.onsetTop

/-! ### Flash phase (section 3.1, R52) -/

/-- A period and a duty in the ranges of section 3.1. -/
def inRange (period duty : Nat) : Prop := 500 ≤ period ∧ period ≤ 1000 ∧ 30 ≤ duty ∧ duty ≤ 70

/-- The ranges of section 3.1; φ reaches L only at the millisecond at which the wrap is due. -/
structure PhaseOk (s : State) : Prop where
  own : inRange s.phase.period s.phase.duty
  cycle : 251 ≤ s.phase.len ∧ s.phase.len ≤ 1500
  phi : s.phase.phi ≤ s.phase.len
  quiet : s.phase.quiet ≤ 3
  slip : s.phase.slip ≤ 65535
  adoption : ∀ p d, s.phase.adoption = some (p, d) → inRange p d
  profile : 60 ≤ s.loader.profile.rate ∧ s.loader.profile.rate ≤ 120 ∧ 30 ≤ s.loader.profile.duty ∧
    s.loader.profile.duty ≤ 70

/-! ### Lamps (R5, R97, R98) -/

/-- A channel record the rules allow (R98): LOCKED is dark and has no short state, and the retry count is at most 3. -/
def Channel.ok (c : Channel) : Prop := (c.health = .locked → c.lit = false ∧ c.short = .none) ∧ c.retry ≤ 3

/-- Every channel, and every channel as the retention record holds it. -/
structure ChannelsOk (s : State) : Prop where
  channels : ∀ c ∈ s.lamps.channels, c.ok
  retained : ∀ r ∈ s.retention.channels, r.2 ≤ 3

/-- A circuit check has a channel left to test and tests assigned channels only (R100); no pulse outlasts its 20 ms and no turn its
50 ms (R101). -/
def CheckOk (s : State) : Prop :=
  ∀ k, s.lamps.check = some k →
    k.todo ≠ [] ∧ (∀ n ∈ k.todo, s.assigned n = true) ∧ (k.pulse = true → k.turn ≤ 20) ∧ k.turn ≤ 50

/-- The stage, with the rear-end status, allows a channel of the function to be lit (R5, R93, R96, R97). -/
def State.stageAllows (s : State) (f : LampFn) : Bool :=
  f != .unassigned &&
  match s.seat.stage with
  | .loading | .listen => false
  | .standalone | .conflict => f == .tail || f == .marker || (f == .stop && s.brakeOn)
  | .claiming | .profiling =>
    s.seat.fallbackMark && (f == .tail || f == .marker || (f == .stop && s.brakeOn))
  | .checking => true
  | .sync => !f.isFlash && (!f.isRear || s.rear.status.lighting)
  | .joined => !f.isRear || s.rear.status.lighting

/-- A lit channel is one whose function the stage allows. -/
def LampGateOk (s : State) : Prop :=
  ∀ e ∈ s.loader.profile.lamps.zip s.lamps.channels, e.2.lit = true → s.stageAllows e.1.function = true

/-! ### The retention record (R118, R208) -/

/-- From load done on, with the supply above 4.5 V, the record is valid and holds the identity, the own seat, or before it the seat that a
rejoin waits for, and the health and retry count of each assigned channel as they stand. -/
structure RetainedOk (s : State) : Prop where
  valid : s.power ≠ .lost → s.loaded = true → s.retention.valid = true
  identity : s.power ≠ .lost → s.loaded = true → s.retention.identity = s.loader.identity
  seat : s.power ≠ .lost → s.loaded = true →
    s.retention.seat = if s.seated = true then s.seat.ownSeat else s.seat.rejoin.getD 0
  channels : s.power ≠ .lost → s.loaded = true → ∀ n c, nth s.lamps.channels n = some c →
    s.functionOf n ≠ .unassigned → nth s.retention.channels n = some (c.health, c.retry)

/-! ### Body channels (R151) -/

/-- A body channel runs only in JOINED, and a motion-inhibited one only while the view is STILL. -/
def BodiesOk (s : State) : Prop :=
  ∀ n ∈ bodyNumbers, (s.bodyChannel n).running = true →
    s.joined = true ∧ ((s.bodyCfg n).motionInhibited = true → s.sensor.view = false)

/-! ### The line (R169, R177, R180, R185, R186) -/

/-- The counts and runs of section 9.1 stay in their ranges, no more than six dominant bits of a cut-off are left to drive, and three
drive faults in a row mean mute. -/
structure LineOk (s : State) : Prop where
  recessive : s.line.recessive ≤ 200
  dominant : s.line.dominant ≤ 20
  cutOff : s.line.cutOff ≤ 6
  malformed : s.line.malformed ≤ 65535
  overflow : s.line.overflow ≤ 65535
  driveFaults : s.line.driveFaults ≤ 3
  mute : s.line.driveFaults = 3 → s.line.mute = true

/-! ### What ends with a seat and on entering CONFLICT -/

/-- The station's own requests and answers end, from the state before to the one after: the outstanding query ABANDONED where its frame was
sent and else NOT-SENT (R199), the answering and the owed BUSY (R193), and a relayed request still WAITING as NOT-SENT (R164), but for one
whose BODY REQUEST completes (which frame does is notes/assumptions/29.md). -/
structure RequestsEnded (s t : State) : Prop where
  query : t.port.query = none
  noQuery : s.port.query = none → t.port.queryOutcome = s.port.queryOutcome
  outcome : ∀ q, s.port.query = some q → t.port.queryOutcome = if q.sent = true then .abandoned else .notSent
  answering : t.port.answering = none
  owed : t.port.owed = none
  waiting : s.body.relay.state = .waiting →
    ¬(s.ending = true ∧ ∃ e, s.inFlight = some e ∧ e.id = s.body.relay.frameId) →
    t.body.relay = { s.body.relay with state := .notSent, timer := .stopped }
  relay : s.body.relay.state ≠ .waiting ∨
    (s.ending = true ∧ ∃ e, s.inFlight = some e ∧ e.id = s.body.relay.frameId) → t.body.relay = s.body.relay

/-- A seat is left, from the state before to the one after: with the requests end the sending of DEMAND (R80) and of REPORT (R148), the
SYNC timer and a noted adoption, the rest of the phase kept (R68), and a due re-announcement (R46). -/
structure SeatLeft (s t : State) : Prop extends RequestsEnded s t where
  counts : t.sensor.countsTimer = .stopped
  analog : t.sensor.analogTimer = .stopped
  phase : t.phase = { s.phase with syncTimer := .stopped, adoption := none }
  demand : t.demand.repeatTimer = .stopped ∧ t.demand.active = false
  announce : t.roster.announce = none ∧ t.roster.due = false

/-! ### The items' bytes (R211) -/

/-- The STATION item at the port. -/
structure StationItem (s : State) (b : List Byte) : Prop where
  length : b.length = 43
  start : fieldOf (byteAt b 0) 1 0 = s.loader.record.kind.code ∧ bitOf (byteAt b 0) 2 = s.loader.record.warmPath ∧
    bitOf (byteAt b 0) 3 = s.loader.record.profileDefault
  memory : s.loader.record.outcome ≤ 3 → fieldOf (byteAt b 0) 7 4 = s.loader.record.outcome
  identity : (b.drop 1).take 6 = identityBytes s.loader.record.identity
  seat : byteAt b 7 = byte s.seat.stage.code ∧ byteAt b 8 = byte s.seat.ownSeat
  flags : (List.range 8).map (bitOf (byteAt b 9)) =
    [s.seat.head, s.demand.fallback, s.line.mute, s.faults.overflow, s.port.collision, s.port.attn,
      s.port.storeFull, s.brakeOn]
  rear : fieldOf (byteAt b 10) 1 0 = s.rear.status.code ∧ bitOf (byteAt b 10) 2 = s.rearComplete ∧
    bitOf (byteAt b 10) 3 = s.rear.neighbour.isSome ∧ bitOf (byteAt b 10) 7 = false
  neighbour : ∀ d, s.rear.neighbour = some d →
    bitOf (byteAt b 10) 4 = d.reverse ∧ bitOf (byteAt b 10) 5 = d.rearFog ∧ bitOf (byteAt b 10) 6 = d.plate
  noNeighbour : s.rear.neighbour = none → fieldOf (byteAt b 10) 6 4 = 0
  phase : (b.drop 11).take 6 =
    bytes2 s.phase.period ++ [byte s.phase.duty, byte s.phase.lock.code] ++ bytes2 s.phase.slip
  own : demandOf (byteAt b 17) (byteAt b 18) = s.demand.own ∧ fieldOf (byteAt b 18) 5 0 = 0
  effective : demandOf (byteAt b 19) (byteAt b 20) = s.demand.eff ∧ fieldOf (byteAt b 20) 5 0 = 0
  motion : bitOf (byteAt b 21) 0 = s.sensor.moving ∧ bitOf (byteAt b 21) 1 = s.sensor.view ∧
    fieldOf (byteAt b 21) 7 2 = 0
  faults : let f := summaryOf s s.faults.list
    byteAt b 22 = byte s.faults.list.length ∧
    (f.highest < 4 → fieldOf (byteAt b 23) 1 0 = f.highest ∧ bitOf (byteAt b 23) 2 = f.sides.left ∧
      bitOf (byteAt b 23) 3 = f.sides.right ∧ fieldOf (byteAt b 23) 7 4 = 0)
  line : (b.drop 24).take 6 =
    [byte s.line.state.code, byte s.line.driveFaults] ++ bytes2 s.line.malformed ++ bytes2 s.line.overflow
  slot : bitOf (byteAt b 30) 0 = s.port.slot.isSome ∧ fieldOf (byteAt b 30) 3 1 = 0 ∧
    (s.port.store.length ≤ 8 → fieldOf (byteAt b 30) 7 4 = s.port.store.length)
  query : bitOf (byteAt b 31) 7 = s.port.query.isSome ∧ fieldOf (byteAt b 31) 3 0 = s.port.queryOutcome.code ∧
    fieldOf (byteAt b 31) 6 4 = 0
  asked : ∀ q, s.port.query = some q →
    (b.drop 32).take 5 = [byte q.target, byte q.cls, byte q.first, byte q.count, byte q.answers]
  noQuery : s.port.query = none → (b.drop 32).take 5 = List.replicate 5 0
  relay : byteAt b 37 = byte s.body.relay.state.code ∧ byteAt b 38 = byte s.body.relay.target ∧
    byteAt b 40 = byte s.body.relay.tag
  action : fieldOf (byteAt b 39) 2 0 = s.body.relay.channel % 8 ∧ bitOf (byteAt b 39) 3 = false ∧
    fieldOf (byteAt b 39) 7 4 = if s.body.relay.state = .none then 0 else if s.body.relay.start = true then 1 else 2
  noRelay : s.body.relay = Relay.reset → (b.drop 37).take 6 = List.replicate 6 0
  reply : ∀ r o, s.body.relay.reply = some (r, o) →
    bitOf (byteAt b 41) 7 = true ∧ bitOf (byteAt b 41) 0 = r ∧ fieldOf (byteAt b 41) 6 1 = 0 ∧
      byteAt b 42 = byte o.code
  noReply : s.body.relay.reply = none → byteAt b 41 = 0 ∧ byteAt b 42 = 0

/-- A ROSTER item at the port. -/
structure RosterItem (e : RosterEntry) (b : List Byte) : Prop where
  length : b.length = 34
  identity : b.take 6 = identityBytes e.identity
  stage : fieldOf (byteAt b 6) 7 4 = e.cls.code ∧ fieldOf (byteAt b 6) 3 0 = e.stage.code
  note : fieldOf (byteAt b 7) 1 0 = e.note.code ∧ fieldOf (byteAt b 7) 7 6 = 0
  present : bitOf (byteAt b 7) 2 = e.rejoin ∧ bitOf (byteAt b 7) 3 = e.profile.isSome ∧
    bitOf (byteAt b 7) 4 = e.check.isSome ∧ bitOf (byteAt b 7) 5 = e.fault.isSome
  profile : ∀ p, e.profile = some p →
    (∀ f, f ≠ .unassigned → (f ∈ functionsOf (byteAt b 8) (byteAt b 9) ↔ f ∈ p.functions)) ∧
    fieldOf (byteAt b 9) 5 0 = 0 ∧ bitOf (byteAt b 10) 0 = p.origin ∧ bitOf (byteAt b 10) 1 = p.profileDefault ∧
    fieldOf (byteAt b 10) 7 2 = 0 ∧ byteAt b 11 = byte p.bodies.length ∧ byteAt b 20 = byte p.sensors.length ∧
    (∀ k c kind inhibited, k < 4 → p.bodies[k]? = some (c, kind, inhibited) → c < 8 →
      fieldOf (byteAt b (12 + 2 * k)) 6 0 = c ∧ bitOf (byteAt b (12 + 2 * k)) 7 = inhibited ∧
      byteAt b (13 + 2 * k) = byte kind) ∧
    (∀ k, k < 4 → p.bodies[k]? = none → byteAt b (12 + 2 * k) = 0 ∧ byteAt b (13 + 2 * k) = 0) ∧
    (∀ k i q, k < 8 → p.sensors[k]? = some (i, q) → i < 16 → q < 16 →
      fieldOf (byteAt b (21 + k)) 7 4 = i ∧ fieldOf (byteAt b (21 + k)) 3 0 = q) ∧
    ∀ k, k < 8 → p.sensors[k]? = none → byteAt b (21 + k) = 0
  noProfile : e.profile = none → (b.drop 8).take 21 = List.replicate 21 0
  check : ∀ c, e.check = some c →
    byteAt b 29 = byte c.good ∧ byteAt b 30 = byte c.failed ∧ bitOf (byteAt b 31) 0 = c.complete ∧
      fieldOf (byteAt b 31) 7 1 = 0
  noCheck : e.check = none → (b.drop 29).take 3 = List.replicate 3 0
  fault : ∀ f, e.fault = some f → byteAt b 32 = byte f.count ∧
    (f.highest < 4 → fieldOf (byteAt b 33) 1 0 = f.highest ∧ bitOf (byteAt b 33) 2 = f.sides.left ∧
      bitOf (byteAt b 33) 3 = f.sides.right ∧ fieldOf (byteAt b 33) 7 4 = 0)
  noFault : e.fault = none → b.drop 32 = List.replicate 2 0

/-- A CHANNEL item. -/
structure ChannelItem (s : State) (n : Nat) (b : List Byte) : Prop where
  length : b.length = 8
  function : byteAt b 0 = byte (s.functionOf n).code
  health : fieldOf (byteAt b 1) 2 0 = (s.channel n).health.code ∧ bitOf (byteAt b 1) 3 = false ∧
    (bitOf (byteAt b 1) 4 = true ↔ (s.lampCfg n).kind = .led) ∧ fieldOf (byteAt b 1) 6 5 = 0 ∧
    bitOf (byteAt b 1) 7 = (s.channel n).lit
  retry : byteAt b 2 = byte (s.channel n).retry
  last : ∀ l, (s.channel n).last = some l → byteAt b 3 = byte l.outcome.code ∧
    (l.current < 65536 → word2 (byteAt b 4) (byteAt b 5) = l.current) ∧
    (l.supply < 65536 → word2 (byteAt b 6) (byteAt b 7) = l.supply)
  noLast : (s.channel n).last = none → b.drop 3 = List.replicate 5 0

/-- A COUNTER item. The cascaded bit stands at both inputs of a pair (notes/assumptions/20.md). -/
structure CounterItem (s : State) (n : Nat) (b : List Byte) : Prop where
  length : b.length = 8
  role : byteAt b 0 = byte (s.pulseCfg n).role.code
  edge : fieldOf (byteAt b 1) 1 0 = (s.pulseCfg n).edge.code ∧ fieldOf (byteAt b 1) 5 2 = 0 ∧
    (bitOf (byteAt b 1) 7 = true ↔ (s.pulseCfg n).role ≠ .notInUse)
  own : word2 (byteAt b 2) (byteAt b 3) = (s.counter n).toNat
  first : n = 1 ∨ n = 3 → bitOf (byteAt b 1) 6 = (s.pulseCfg n).cascade ∧
    ((s.pulseCfg n).cascade = true →
      word2 (byteAt b 4) (byteAt b 5) * 65536 + word2 (byteAt b 6) (byteAt b 7) =
        (s.counter (n + 1)).toNat * 65536 + (s.counter n).toNat) ∧
    ((s.pulseCfg n).cascade = false → b.drop 4 = List.replicate 4 0)
  second : n = 2 ∨ n = 4 → (s.pulseCfg n).cascade = false →
    bitOf (byteAt b 1) 6 = (s.pulseCfg (n - 1)).cascade ∧ b.drop 4 = List.replicate 4 0

/-- An ANALOG item. -/
structure AnalogItem (cfg : AnalogCfg) (a : Analog) (b : List Byte) : Prop where
  length : b.length = 5
  flags : bitOf (byteAt b 0) 0 = cfg.inUse ∧ bitOf (byteAt b 0) 1 = cfg.brake ∧ bitOf (byteAt b 0) 2 = a.on ∧
    bitOf (byteAt b 0) 3 = a.converted ∧ fieldOf (byteAt b 0) 7 4 = 0
  counts : a.counts < 65536 → word2 (byteAt b 1) (byteAt b 2) = a.counts
  value : -32768 ≤ a.value → a.value ≤ 32767 → signed2 (byteAt b 3) (byteAt b 4) = a.value

/-- A FAULT item. -/
structure FaultItem (e : FaultEntry) (b : List Byte) : Prop where
  length : b.length = 7
  code : b.take 3 = [byte e.code.code, byte e.subject, byte e.severity]
  onset : e.onset < 4294967296 →
    word2 (byteAt b 3) (byteAt b 4) * 65536 + word2 (byteAt b 5) (byteAt b 6) = e.onset

/-- A BODY item at the port. -/
structure BodyItem (cfg : BodyCfg) (c : BodyChannel) (b : List Byte) : Prop where
  length : b.length = 11
  kind : byteAt b 0 = byte cfg.kind ∧ byteAt b 2 = byte cfg.limit
  flags : bitOf (byteAt b 1) 0 = cfg.motionInhibited ∧ bitOf (byteAt b 1) 1 = cfg.parkRequired ∧
    bitOf (byteAt b 1) 2 = cfg.hazardRaising ∧ fieldOf (byteAt b 1) 6 3 = 0 ∧ bitOf (byteAt b 1) 7 = c.running
  last : (b.drop 3).take 3 = [byte c.outcome.code, byte c.lastTag, byte c.runTag]
  idle : c.running = false ∨ c.timer = .stopped → b.drop 6 = List.replicate 5 0
  runs : ∀ m l, c.running = true → c.timer = .running m l → byteAt b 6 = byte (m / 1000) ∧
    (m < 4294967296 → word2 (byteAt b 7) (byteAt b 8) * 65536 + word2 (byteAt b 9) (byteAt b 10) = m)

/-- An answer store entry. -/
structure AnswerItem (e : StoreEntry) (b : List Byte) : Prop where
  length : b.length = 12
  head : b.take 4 = [byte e.sender, byte e.cls, byte e.index, byte e.status.code]
  data : ∀ k, k < 8 → byteAt b (4 + k) = (e.data[k]?).getD 255

/-! ### What the rules allow a command to change -/

/-- The command starts the station in the state: its supply comes back, or it takes a RESTART from the slot (R200, R207). -/
def restarts (c : Instr) (s : State) : Bool :=
  match c with
  | .start => s.power != .running
  | .slotTake => s.power == .running && s.port.slot == some .restart
  | _ => false

/-- The command a step runs: the one at the front of the queue, the first timed event that is due, or the end of a check pulse; none
where a millisecond passes. -/
def State.taken (s : State) : Option Instr :=
  match s.pending with
  | c :: _ => some c
  | [] => (due s).or (if s.pulseDue then some (freePulseEnd s.freeCount) else none)

/-- The stage changes of chapter 1, gathered there under R9, with the commands that bring them about. A stage that is
passed through in the same event is not seen: PROFILING and CHECKING are, where nothing is left to send or test. -/
def stageMove (c : Instr) (a b : Stage) : Bool :=
  match c with
  | .start | .slotTake => b == .loading
  | .loadDone _ => a == .loading && (b == .listen || b == .claiming)
  | .seatInChange _ => a == .listen && b == .claiming
  | .headListenExpiry => a == .listen && (b == .claiming || b == .conflict)
  | .unseatedTimerExpiry => (a == .listen || a == .claiming) && b == .standalone
  | .claimWindowExpiry => a == .claiming && (b == .profiling || b == .checking || b == .sync)
  | .seatOfferReceived _ _ => (a == .listen || a == .standalone) && b == .claiming
  | .seatClaimReceived _ _ _ _ => (a == .claiming || a.seated) && b == .conflict
  | .departReceived _ _ _ => a.seated && b == .standalone
  | .frameSent => a == .profiling && (b == .checking || b == .sync)
  | .driveFault =>
    (a == .profiling && (b == .checking || b == .sync)) || (a == .claiming && b == .standalone)
  | .arbitrationLost | .lineStuck => a == .claiming && b == .standalone
  | .checkTurnEnd => a == .checking && b == .sync
  | .syncTimerExpiry | .markReceived _ _ _ _ => a == .sync && b == .joined
  | _ => false

end Sys2Proof.Machine
end

