-- ==== Sys2Proof/WellFormed.lean ====
section
/-! DEFINITION. Which commands the part's pins, line and port can bring: the numbers of channels, inputs and
positions, the sense ranges of sections 5.4 and 7.1, and the payload lengths of chapter 12. -/

namespace Sys2Proof

/-- A number of the part's units, counted from 1 to `top`. -/
def inUnits (top n : Nat) : Bool := decide (1 ≤ n) && decide (n ≤ top)

/-- A raw current: a multiple of 10 mA in 0..10,230 (section 5.4). -/
def currentOk (i : Nat) : Bool := decide (i ≤ 10230) && decide (i % 10 = 0)

/-- A supply reading: a multiple of 50 mV in 0..40,000 (section 5.4). -/
def supplyOk (v : Nat) : Bool := decide (v ≤ 40000) && decide (v % 50 = 0)

/-- The command is one the part can be given. -/
def Instr.wellFormed : Instr → Bool
  | .start | .brownOut | .supplyLost => true
  | .profileReadAttempt none => true
  | .profileReadAttempt (some b) => decide (b.length = 171)
  | .loadDone p => decide (p.din.length = 8) && decide (p.cnt.length = 4)
  | .seatInChange _ | .presInAsserted | .presInDeasserted | .headListenExpiry | .unseatedTimerExpiry => true
  | .claimWindowExpiry | .offerTimerExpiry | .departureTimerExpiry => true
  | .wrap | .markStale | .syncTimerExpiry | .litPartEdge => true
  | .demandInputChange n _ | .flasherHoldExpiry n => inUnits 8 n
  | .demandRepeatExpiry => true
  | .demandEntryExpiry p => inUnits 8 p
  | .checkPulseEnd i v => currentOk i && supplyOk v
  | .checkTurnEnd => true
  | .lampTrip n i => inUnits 12 n && currentOk i
  | .steadySample n i v | .flashSample n i v => inUnits 12 n && currentOk i && supplyOk v
  | .restTimerExpiry n | .provingTimerExpiry n => inUnits 12 n
  | .analogConversion l => decide (l.length = 4) && l.all fun a => decide (a.counts ≤ 1023)
  | .pulseEdge n _ => inUnits 4 n
  | .wheelTimerExpiry => true
  | .motionEntryStale p => inUnits 8 p
  | .countsTimerExpiry | .analogTimerExpiry => true
  | .runTimerExpiry n | .bodyDriverTrip n => inUnits 4 n
  | .relayReplyExpiry | .frameStart | .arbitrationLost | .driveFault | .disableTimerExpiry => true
  | .frameSent | .lineStuck | .lineStuckCleared => true
  | .frameDiscarded bits => decide (bits.head? = some false) && decide (bits.length ≤ 149)
  | .demandReceived _ _ _ | .markReceived _ _ _ _ | .departReceived _ _ _ | .seatOfferReceived _ _ => true
  | .seatClaimReceived _ _ _ _ | .probeReceived _ _ | .probePresentReceived _ _ => true
  | .stageCheckedReceived _ _ _ _ | .stageJoinedReceived _ _ | .stageTakeReceived _ => true
  | .stageDeclineReceived _ _ | .stageYieldReceived _ | .faultReceived _ _ _ _ _ => true
  | .bodyRequestReceived _ _ _ _ _ | .bodyStatusReceived _ _ _ _ _ => true
  | .profileSegmentReceived _ _ d => inUnits 11 d.length
  | .reportCountsReceived _ _ l | .reportAnalogReceived _ _ l => decide (l.length = 4)
  | .queryReceived _ _ _ _ _ => true
  | .answerReceived _ _ _ _ _ d => decide (d.length ≤ 8)
  | .queryReplyExpiry | .statusPortWrite _ _ | .stationItemRead | .answerStoreRead => true
  | .requestBodyStart _ _ _ | .requestBodyStop _ _ _ | .requestQuery _ _ _ _ | .requestRestart => true
  | .slotTake | .markInstant | .lineIdle | .statusPortRead _ _ => true

end Sys2Proof
end

