-- ==== Sys2Proof/Certificates/Slice0/Obligations.lean ====
section
/-! DEFINITION. The statements for the provers, each made from the numbered rules of spec/ named beside it. Where a
statement rests on a choice of the model its docstring says so and names the log entry (notes/assumptions/<n>.md). -/

open Sys2Proof Sys2Proof.Machine

/-! ### The step and the forms common to all commands -/

/-- A step takes the command at the front of the queue and runs it on the state with the queue's rest; first in, first out is log 4. -/
def Obligations.StepRunsTheFrontCommand : Prop :=
  ∀ (c : Instr) (r : List Instr) (s : State), s.pending = c :: r → step s = exec c { s with pending := r }

/-- MODEL'S CHOICE (log 2). With no command waiting a step takes the first timed event that is due, in the order of log 4; where none is, it
ends a check pulse that has lasted its 20 ms (R101), whatever the free values it reads (log 56); and else one millisecond of own time
passes: a running station's own time, timers and ages count it, each up to its length, φ counts it from load done on (R52), the line counts
the bits the model knows of it (log 18), the dominant bits of a cut-off among them (log 29), a steady channel leaves the sample instant it
used (log 5), and nothing else changes; a stopped station stays as it is. -/
def Obligations.IdleStepLetsTimePass : Prop :=
  (∀ s : State, s.pending = [] →
    (∀ c, due s = some c → step s = exec c s) ∧
    (due s = none → s.power ≠ .running → step s = .next s) ∧
    (due s = none → s.power = .running → s.seat.stage = .checking →
      (∃ k, s.lamps.check = some k ∧ k.pulse = true ∧ k.todo ≠ [] ∧ 20 ≤ k.turn) →
      step s =
        exec (.checkPulseEnd (10 * (Config.freeCurrent s.freeCount).val) (50 * (Config.freeSupply s.freeCount).val))
          { s with freeCount := s.freeCount + 1 }) ∧
    (due s = none → s.power = .running →
      (s.seat.stage ≠ .checking ∨
        ∀ k, s.lamps.check = some k → k.pulse = false ∨ k.todo = [] ∨ k.turn < 20) →
      step s = .next
        { s with
          now := s.now + 1
          loader := { s.loader with retry := s.loader.retry.tick }
          seat :=
            { s.seat with
              headListen := s.seat.headListen.tick, unseated := s.seat.unseated.tick, window := s.seat.window.tick
              offer := s.seat.offer.tick, departure := s.seat.departure.tick }
          phase :=
            { s.phase with
              phi := if s.seat.stage = .loading then s.phase.phi else s.phase.phi + 1
              syncTimer := s.phase.syncTimer.tick }
          demand :=
            { s.demand with
              holds := s.demand.holds.map Timer.tick
              repeatTimer := s.demand.repeatTimer.tick
              table := s.demand.table.map fun e => (e.1, { e.2 with age := min (e.2.age + 1) 350 }) }
          lamps :=
            { channels :=
                s.lamps.channels.map fun c =>
                  { c with
                    rest := c.rest.tick, proving := c.proving.tick, steady := c.steady.map fun m => m + 1
                    sampled := c.sampled && c.steady.isNone }
              check := s.lamps.check.map fun k => { k with turn := k.turn + 1 } }
          sensor :=
            { s.sensor with
              conversion := s.sensor.conversion.tick
              wheel := s.sensor.wheel.tick
              table := s.sensor.table.map fun e => (e.1, { e.2 with age := min (e.2.age + 1) 1500 })
              countsTimer := s.sensor.countsTimer.tick
              analogTimer := s.sensor.analogTimer.tick }
          body :=
            { channels := s.body.channels.map fun c => { c with timer := c.timer.tick }
              relay := { s.body.relay with timer := s.body.relay.timer.tick } }
          line := s.line.tick
          port :=
            { s.port with
              slotDue := s.port.slot.isSome
              query := s.port.query.map fun q => { q with timer := q.timer.tick } } })) ∧
  Timer.stopped.tick = .stopped ∧ (∀ m l, (Timer.running m l).tick = .running (min (m + 1) l) l) ∧
  ∀ l : LineUnit, let t := l.tick
    { t with
      state := l.state, recessive := l.recessive, dominant := l.dominant, disable := l.disable
      reception := l.reception, cutOff := l.cutOff } = l ∧
    t.disable = l.disable.tick ∧ t.cutOff = 0 ∧
    (l.cutOff = 0 → l.reception = none → l.state = .idle →
      t = { l with disable := l.disable.tick, recessive := min (l.recessive + 20) 200, dominant := 0 }) ∧
    (l.cutOff = 0 → l.reception = none → l.state ≠ .idle → t = { l with disable := l.disable.tick }) ∧
    (l.cutOff ≠ 0 → t.recessive = 0 ∧ t.dominant = min (l.dominant + l.cutOff) 20 ∧ t.reception = l.reception ∧
      t.state = (if l.state = .idle then .busy else l.state)) ∧
    (∀ r, l.cutOff = 0 → l.reception = some r →
      (r.receiving = true → t = { l with disable := l.disable.tick }) ∧
      (r.receiving = false →
        t.reception = some { r with bits := r.bits ++ r.rest.take 20, rest := r.rest.drop 20 } ∧
        t.recessive = (l.read (r.rest.take 20)).recessive ∧ t.dominant = (l.read (r.rest.take 20)).dominant ∧
        t.state = (l.read (r.rest.take 20)).state))

/-- A start of any kind sets every block as the rules of the blocks give (section 11.5); of the retention record it keeps what it is
given, the counters in it too, until load done (MODEL'S CHOICE, log 67). The reset state is the COLD start with the record lost (MODEL'S
CHOICE, log 1); the marks seatInSeen and presInSeen are the model's
own (log 10). -/
def Obligations.StartSetsEveryBlock : Prop :=
  State.reset = State.atStart .cold .lost ∧ Retention.lost.valid = false ∧
  ∀ (k : StartKind) (r : Retention), let s := State.atStart k r
    s.power = .running ∧ s.now = 0 ∧ s.retention = r ∧ s.loader.cause = k ∧ s.loader.image = none ∧
    s.loader.attempts = 0 ∧ s.loader.retry = .stopped ∧
    s.seat.stage = .loading ∧ s.seat.ownSeat = 0 ∧ s.seat.head = false ∧ s.seat.rejoin = none ∧
    s.seat.claimed = 0 ∧ s.seat.claim = .none ∧ s.seat.claimRejoin = false ∧ s.seat.reseat = false ∧
    s.seat.fallbackMark = false ∧ s.seat.pos1Heard = false ∧ s.seat.answered = [] ∧ s.seat.expiryHeld = false ∧ s.seat.seatInSeen = false ∧ s.seat.presInSeen = false ∧
    s.seat.headListen = .stopped ∧ s.seat.unseated = .stopped ∧ s.seat.window = .stopped ∧
    s.seat.offer = .stopped ∧ s.seat.departure = .stopped ∧ s.seatOut = false ∧ s.presOut = false ∧
    s.roster.entries = [] ∧ s.roster.reasm = [] ∧ s.roster.announce = none ∧ s.roster.due = false ∧
    s.phase.phi = 0 ∧ s.phase.len = 667 ∧ s.phase.period = 667 ∧ s.phase.duty = 50 ∧ s.phase.lock = .own ∧
    s.phase.quiet = 3 ∧ s.phase.marked = false ∧ s.phase.lastMark = none ∧ s.phase.adoption = none ∧
    s.phase.syncTimer = .stopped ∧ s.phase.slip = 0 ∧ s.markPending = false ∧ s.markInFlight = false ∧
    s.demand.levels = List.replicate 8 false ∧ s.demand.holds = List.replicate 8 .stopped ∧
    s.demand.own = .empty ∧ s.demand.hazard = false ∧ s.demand.active = false ∧ s.demand.repeatTimer = .stopped ∧
    s.demand.table = [] ∧ s.demand.eff = .empty ∧ s.demand.fallback = false ∧ s.demand.gateL = .off ∧
    s.demand.gateR = .off ∧ s.demand.gateB = .off ∧ s.ttPin = false ∧
    s.lamps.channels = List.replicate 12
      { health := .untested, retry := 0, run := none, short := .none, rest := .stopped, proving := .stopped,
        steady := none, sampled := false, lit := false, last := none } ∧
    s.lamps.check = none ∧ s.rear.status = .none ∧ s.rear.neighbour = none ∧ s.rearComplete = false ∧
    s.sensor.analogs = List.replicate 4 { counts := 0, value := 0, on := false, converted := false } ∧
    s.brakeOn = false ∧ s.sensor.moving = false ∧ s.sensor.wheel = .stopped ∧ s.sensor.table = [] ∧
    s.sensor.view = false ∧ s.sensor.countsTimer = .stopped ∧ s.sensor.analogTimer = .stopped ∧
    s.sensor.conversion = .stopped ∧
    s.body.channels = List.replicate 4
      { running := false, timer := .stopped, outcome := .none, lastTag := 0, runTag := 0 } ∧
    s.body.relay.state = .none ∧ s.body.relay.timer = .stopped ∧ s.body.relay.reply = none ∧
    s.line.state = .busy ∧ s.line.recessive = 0 ∧ s.line.dominant = 0 ∧ s.line.disable = .stopped ∧
    s.line.driveFaults = 0 ∧ s.line.mute = false ∧ s.line.queue = [] ∧ s.line.followOn = [] ∧
    s.line.reception = none ∧ s.line.cutOff = 0 ∧ s.line.malformed = 0 ∧ s.line.overflow = 0 ∧ s.lineBits = [] ∧
    s.faults.list = [] ∧ s.faults.overflow = false ∧
    s.port.attn = false ∧ s.port.slot = none ∧ s.port.collision = false ∧ s.port.pointer = 0 ∧ s.port.store = [] ∧
    s.port.storeFull = false ∧ s.port.query = none ∧ s.port.queryOutcome = .none ∧ s.port.answering = none ∧
    s.port.owed = none

/-- MODEL'S CHOICE (log 19). A command that names a lamp channel, input, body channel or position the part does not have
stops the machine; no other command ever does, well-formed or not and whatever the state. -/
def Obligations.OnlyUnknownUnitsStop : Prop :=
  (∀ (c : Instr) (s : State), c.wellFormed = true → ∃ t, exec c s = .next t) ∧
  (∀ (c : Instr) (s : State), (∃ t, exec c s = .next t) ∨
    (∃ n, ¬(1 ≤ n ∧ n ≤ 12) ∧
      (c = .restTimerExpiry n ∨ c = .provingTimerExpiry n ∨
        ∃ i, c = .lampTrip n i ∨ ∃ v, c = .steadySample n i v ∨ c = .flashSample n i v)) ∨
    (∃ n, ¬(1 ≤ n ∧ n ≤ 8) ∧
      (c = .flasherHoldExpiry n ∨ c = .demandEntryExpiry n ∨ c = .motionEntryStale n ∨
        ∃ l, c = .demandInputChange n l)) ∨
    ∃ n, ¬(1 ≤ n ∧ n ≤ 4) ∧ (c = .runTimerExpiry n ∨ c = .bodyDriverTrip n ∨ ∃ l, c = .pulseEdge n l)) ∧
  ∀ (n i v : Nat) (l : Bool) (s : State),
    (¬(1 ≤ n ∧ n ≤ 12) →
      exec (.lampTrip n i) s = .fault .noSuchUnit ∧ exec (.steadySample n i v) s = .fault .noSuchUnit ∧
      exec (.flashSample n i v) s = .fault .noSuchUnit ∧ exec (.restTimerExpiry n) s = .fault .noSuchUnit ∧
      exec (.provingTimerExpiry n) s = .fault .noSuchUnit) ∧
    (¬(1 ≤ n ∧ n ≤ 8) →
      exec (.demandInputChange n l) s = .fault .noSuchUnit ∧ exec (.flasherHoldExpiry n) s = .fault .noSuchUnit ∧
      exec (.demandEntryExpiry n) s = .fault .noSuchUnit ∧ exec (.motionEntryStale n) s = .fault .noSuchUnit) ∧
    (¬(1 ≤ n ∧ n ≤ 4) →
      exec (.pulseEdge n l) s = .fault .noSuchUnit ∧ exec (.runTimerExpiry n) s = .fault .noSuchUnit ∧
      exec (.bodyDriverTrip n) s = .fault .noSuchUnit)

/-- A stopped station takes no event: whatever well-formed command comes, other than its start and the loss of its supply,
nothing changes; and every output is off (R207). -/
def Obligations.StoppedStationTakesNoEvent : Prop :=
  ∀ s : State, s.power ≠ .running →
    (∀ c : Instr, c.wellFormed = true → c ≠ .start → c ≠ .supplyLost → exec c s = .next s) ∧
    (∀ n, s.lampPin n = false ∧ s.bodyPin n = false) ∧ s.seatOut = false ∧ s.presOut = false ∧ s.ttPin = false ∧
    s.attnPin = false ∧ s.lineBits = []

/-! ### The judgements that follow an event -/

/-- What holds once an event's judgements have been made: the view (R145), the hazard part and own contribution (R77, R161),
fallback (R84), the effective demand (R83), the gates (R86, R87), the lit states (R93 to R99), the offers (R12) and the runs
(R151, R156, R157, R159) all agree with their inputs; nothing that an event's own effect writes is touched; and a second round
of judgements would change nothing (log 32: one round is enough). A channel is called for by its function and the stage: never in LOADING
and LISTEN; in fallback lighting TAIL and MARKER, and STOP while the brake-pressure state is ON (R96, R137); in CHECKING during its check
pulse; in SYNC and JOINED a steady function that the effective demand asks for, a rear-end one only under a lighting status (R94, R97); in
JOINED a flash function also while its gate is RUNNING or ENDING and φ lies in a lit part (R95); and in no other case (R93). -/
def Obligations.JudgementsAgree : Prop :=
  (∀ s : State, Settled (settle s) ∧ (settle s).primary = s.primary ∧ settle (settle s) = settle s) ∧
  ∀ (s : State) (n : Nat),
    let f := s.functionOf n
    let d := s.demand.eff
    let fallbackSet := f = .tail ∨ f = .marker ∨ (f = .stop ∧ s.brakeOn = true)
    let steady :=
      ((f = .tail ∨ f = .plate ∨ f = .marker) ∧ d.tail = true ∨ f = .stop ∧ d.stop = true ∨
        f = .reverse ∧ d.reverse = true ∨ f = .rearFog ∧ d.rearFog = true ∨ f = .work ∧ d.work = true) ∧
      (f = .reverse ∨ f = .rearFog ∨ f = .plate → s.rear.status ≠ .none)
    let opened := fun (g : Gate) => g = .running ∨ g = .ending
    let flash :=
      ((f = .turnL ∧ opened s.demand.gateL ∨ f = .turnR ∧ opened s.demand.gateR) ∧ s.phase.phi < s.phase.onTime) ∨
      (f = .beacon ∧ opened s.demand.gateB ∧
        (s.phase.phi < s.phase.burst ∨ (2 * s.phase.burst ≤ s.phase.phi ∧ s.phase.phi < 3 * s.phase.burst)))
    (s.seat.stage = .loading ∨ s.seat.stage = .listen → s.calledFor n = false) ∧
    (s.seat.stage = .standalone ∨ s.seat.stage = .conflict → (s.calledFor n = true ↔ fallbackSet)) ∧
    (s.seat.stage = .claiming ∨ s.seat.stage = .profiling →
      (s.calledFor n = true ↔ s.seat.fallbackMark = true ∧ fallbackSet)) ∧
    (s.seat.stage = .checking →
      (s.calledFor n = true ↔ ∃ k, s.lamps.check = some k ∧ k.pulse = true ∧ k.todo.head? = some n)) ∧
    (s.seat.stage = .sync → (s.calledFor n = true ↔ steady)) ∧
    (s.seat.stage = .joined → (s.calledFor n = true ↔ steady ∨ flash)) ∧
    (s.brakeOn = true ↔ ∃ m cfg a, nth s.loader.profile.analog m = some cfg ∧ nth s.sensor.analogs m = some a ∧
      cfg.inUse = true ∧ cfg.brake = true ∧ a.on = true)

/-- Every command that a running station takes leaves what is derived in agreement with its inputs, where it was so
before. -/
def Obligations.CommandsKeepAgreement : Prop :=
  ∀ (c : Instr) (s t : State), Settled s → exec c s = .next t → t.power = .running → Settled t

/-! ### Supply and loading (chapter 11) -/

/-- The supply's events (R207): a start of a stopped station (WARM with the record held, COLD with the supply lost), a
brown-out, the loss of the supply. A brown-out turns every output off; that it otherwise leaves what the blocks hold as it is (a
channel's steady count and a body channel's run timer stopped, its outcome kept) is DEDUCED (log 28), not R207's words. The record is
held through it and lost with the supply. The profile memory is read in LOADING in at most three attempts, the next 2 ms after one
that failed, and no further once one has read all 171 bytes (R202). MODEL'S CHOICES: the queue of commands and the count of free values
stand through a start (logs 1 and 6), an event the state excludes changes nothing (log 3), a running station can lose its supply
at once (log 23), a record lost is one marked not valid (log 27), and a start itself leaves the record and its counters, which load done
writes (log 67). -/
def Obligations.SupplyAndReadEventsTaken : Prop :=
  ∀ (s : State) (b : List Byte) (r : Option (List Byte)),
    (s.power = .stopped → exec .start s =
      .next { State.atStart .warm s.retention with pending := s.pending, freeCount := s.freeCount }) ∧
    (s.power = .lost → exec .start s =
      .next { State.atStart .cold s.retention with pending := s.pending, freeCount := s.freeCount }) ∧
    (s.power = .running → exec .start s = .next s) ∧
    (s.power = .running → ∃ t, exec .brownOut s = .next t ∧ t.power = .stopped ∧ t.retention = s.retention ∧
      (∀ n, t.lampPin n = false ∧ t.bodyPin n = false) ∧ t.seatOut = false ∧ t.presOut = false ∧ t.ttPin = false ∧
      t.attnPin = false ∧ t.lineBits = [] ∧
      t.lamps = { s.lamps with channels := s.lamps.channels.map fun c => { c with lit := false, steady := none } } ∧
      t.body =
        { s.body with channels := s.body.channels.map fun c => { c with running := false, timer := .stopped } } ∧
      { t with power := s.power, lamps := s.lamps, body := s.body, port := s.port } = s ∧
      { t.port with attn := s.port.attn } = s.port) ∧
    (∃ t, exec .supplyLost s = .next t ∧ t.power = .lost ∧ t.retention.valid = false ∧ t.pending = s.pending) ∧
    (s.power = .running → s.seat.stage = .loading → s.loader.image = none → s.loader.attempts < 3 →
      (s.loader.retry.isRunning = false ∨ s.loader.retry.isDue = true →
        (b.length = 171 →
          exec (.profileReadAttempt (some b)) s =
            .next
              { s with
                loader :=
                  { s.loader with
                    image := some b, attempts := s.loader.attempts + 1, retry := .stopped
                    outcome := s.loader.attempts + 1 } }) ∧
        (r = none ∨ (r = some b ∧ b.length ≠ 171) →
          exec (.profileReadAttempt r) s =
            .next { s with loader := { s.loader with attempts := s.loader.attempts + 1, retry := .running 0 2 } })) ∧
      (∀ m l, s.loader.retry = .running m l → m < l → exec (.profileReadAttempt r) s = .next s)) ∧
    (s.power = .running → s.seat.stage ≠ .loading ∨ s.loader.image ≠ none ∨ 3 ≤ s.loader.attempts →
      exec (.profileReadAttempt r) s = .next s)

/-- What load done hands to the blocks, whatever the start (R206). A coupling input keeps the level of a change taken since its first
sample, which the command carries for the others (R1; MODEL'S CHOICE, log 10), and the first analog conversion is 20 ms away
(R134). MODEL'S CHOICES too: that IDENTITY-MISSING and PROFILE-DEFAULT are listed whatever faults of restored health come after them
(log 13), and what the applied profile holds where no rule says it (logs 38, 41, 45, 49, 54). -/
def Obligations.LoadDoneHandsOver : Prop :=
  ∀ (s : State) (p : LoadSample), s.power = .running → s.seat.stage = .loading →
    (s.loader.image ≠ none ∨ 3 ≤ s.loader.attempts) → p.din.length = 8 → p.cnt.length = 4 →
    ∃ t, exec (.loadDone p) s = .next t ∧
      t.loader.identity = appliedIdentity s.loader.image ∧ t.loader.profile = appliedProfile s.loader.image ∧
      t.loader.profileDefault = appliedDefault s.loader.image ∧
      t.loader.portAddress = 52 + 2 * p.adr1.toNat + p.adr0.toNat ∧
      t.loader.record.kind = s.loader.cause ∧ t.loader.record.outcome = s.loader.outcome ∧
      t.loader.record.profileDefault = t.loader.profileDefault ∧ t.loader.record.identity = t.loader.identity ∧
      t.seat.head = p.head ∧ t.seat.seatIn = (if s.seat.seatInSeen = true then s.seat.seatIn else p.seatIn) ∧
      t.seat.presIn = (if s.seat.presInSeen = true then s.seat.presIn else p.presIn) ∧ t.presOut = true ∧
      t.seat.unseated = .running 0 5000 ∧ t.demand.levels = p.din ∧ t.sensor.levels = p.cnt ∧
      t.sensor.conversion = .running 0 20 ∧
      t.phase.phi = 0 ∧ t.phase.period = periodOfRate t.loader.profile.rate ∧ t.phase.len = t.phase.period ∧
      t.phase.duty = t.loader.profile.duty ∧
      (s.faults.list = [] → ((t.hasFault .identityMissing 0 = true ↔ t.loader.identity = 0) ∧
        (t.hasFault .profileDefault 0 = true ↔ t.loader.profileDefault = true))) ∧
      t.power = s.power ∧ t.now = s.now ∧ t.pending = s.pending ∧ t.freeCount = s.freeCount ∧
      t.demand.table = s.demand.table ∧ t.sensor.table = s.sensor.table ∧ t.rear = s.rear

/-- Load done of a start handled as COLD, that is a COLD or COMMANDED one or a WARM one that fails the warm test: LISTEN, and
the retention record written afresh with the counters at 0 (R6, R208, R209; that the counters of a COMMANDED start become 0 here and
not at the start itself is the MODEL'S CHOICE, log 67). Of a WARM one that passes: the seat, the assigned
channels' health and retry counts, and the counters come back from the record, which stays as it was, and the rejoin claim is
queued at once by a head station and by one whose SEAT-IN is asserted (R23, R92, R209). Whose level of SEAT-IN counts is the MODEL'S
CHOICE (log 10). -/
def Obligations.ColdAndWarmLoad : Prop :=
  ∀ (s : State) (p : LoadSample), s.power = .running → (s.loader.image ≠ none ∨ 3 ≤ s.loader.attempts) →
    s.seat.stage = .loading → LoadingOk s →
    let seatIn := if s.seat.seatInSeen = true then s.seat.seatIn else p.seatIn
    ((s.loader.cause ≠ .warm ∨ s.retention.valid = false ∨ appliedIdentity s.loader.image = 0 ∨
        s.retention.identity ≠ appliedIdentity s.loader.image ∨ s.retention.seat = 0 ∨ 8 < s.retention.seat) →
      ∃ t, exec (.loadDone p) s = .next t ∧ t.seat.stage = .listen ∧ t.seat.rejoin = none ∧
        t.loader.record.warmPath = false ∧
        t.seat.headListen = (if p.head = true then .running 0 300 else .stopped) ∧
        t.retention =
          { valid := true, seat := 0, identity := appliedIdentity s.loader.image,
            channels := List.replicate 12 (.untested, 0), counts := List.replicate 4 0 } ∧
        (∀ c ∈ t.lamps.channels, c.health = .untested ∧ c.retry = 0 ∧ c.lit = false)) ∧
    (s.loader.cause = .warm → s.retention.valid = true → appliedIdentity s.loader.image ≠ 0 →
      s.retention.identity = appliedIdentity s.loader.image → 1 ≤ s.retention.seat → s.retention.seat ≤ 8 →
      s.retention.channels.length = 12 → s.line.queue = [] → s.line.mute = false →
      ∃ t, exec (.loadDone p) s = .next t ∧ t.loader.record.warmPath = true ∧
        t.seat.rejoin = some s.retention.seat ∧ t.retention = s.retention ∧
        (∀ n r, nth s.retention.channels n = some r → t.functionOf n ≠ .unassigned →
          (t.channel n).health = r.1 ∧ (t.channel n).retry = r.2 ∧ (t.channel n).lit = false ∧
          (r.1 = .short → (t.channel n).short = .resting ∧ (t.channel n).rest = .running 0 2000)) ∧
        (∀ n, 1 ≤ n → n ≤ 12 → t.functionOf n = .unassigned →
          (t.channel n).health = .untested ∧ (t.channel n).retry = 0) ∧
        (p.head = true ∨ seatIn = true →
          t.seat.stage = .claiming ∧ t.seat.claimed = s.retention.seat ∧ t.seat.claim = .pending ∧
          t.seat.claimRejoin = true ∧
          t.line.queue.map Entry.frame =
            [.seatClaim s.retention.seat t.loader.identity t.loader.profile.cls true]) ∧
        (p.head = false → seatIn = false → t.seat.stage = .listen ∧ t.line.queue = []))

/-- Whatever the profile memory holds, the profile applied lies in the ranges of R205 and has the part's channels and
inputs; of the default profile's channel 12, body channels and inputs that is so by the MODEL'S CHOICE (logs 38, 45, 49). -/
def Obligations.AppliedProfileInRange : Prop :=
  ∀ image : Option (List Byte), let p := appliedProfile image
    (p.vn = 12000 ∨ p.vn = 24000) ∧ 60 ≤ p.rate ∧ p.rate ≤ 120 ∧ 30 ≤ p.duty ∧ p.duty ≤ 70 ∧
    100 ≤ p.report ∧ p.report ≤ 5000 ∧ p.attn ≤ 3 ∧
    p.lamps.length = 12 ∧ p.dins.length = 8 ∧ p.analog.length = 4 ∧ p.pulses.length = 4 ∧ p.bodies.length = 4 ∧
    (∀ c ∈ p.lamps, 10 ≤ c.imin ∧ c.imin ≤ 9990 ∧ c.imin + 10 ≤ c.imax ∧ c.imax ≤ 10000) ∧
    (∀ n, DinCfg.bodySwitch n ∈ p.dins → 1 ≤ n ∧ n ≤ 4) ∧
    (∀ a ∈ p.analog, a.offAt ≤ a.onAt) ∧
    (∀ b ∈ p.bodies, 1 ≤ b.limit ∧ b.limit ≤ 255 ∧ b.kind ≤ 255) ∧
    (∀ n a b, (n = 1 ∨ n = 3) → nth p.pulses n = some a → nth p.pulses (n + 1) = some b → a.cascade = true →
      b.role = .notInUse) ∧
    500 ≤ periodOfRate p.rate ∧ periodOfRate p.rate ≤ 1000

/-! ### Seats (chapter 1) -/

/-- SEAT-IN becoming asserted clears FRONT-LINK-LOST and makes a waiting warm rejoin claim; becoming deasserted raises
FRONT-LINK-LOST at a seated station that is not the head; nothing else of the station's own changes (R23, R25). PRES-IN
becoming asserted cancels a departure, clears PRESENCE-FAULT and makes a HOLDER PENDING (R26, R28, R128), and at seat 8 in SYNC and
JOINED raises COMBINATION-FULL (R13); becoming deasserted at a seated station it begins a departure with a PROBE naming its own position
(R26). MODEL'S CHOICES: in LOADING the first change of an input is taken to either level, for the model does not know its first sample
(log 10); a change to the level an input has is none (log 3); COMBINATION-FULL is cleared, with its FAULT frame, before the PROBE is
offered, and the judgements come last (log 32); and the departure timer runs and a claim is PENDING also where a full queue drops the
PROBE or the claim as it is offered (log 55). -/
def Obligations.CouplingInputsTaken : Prop :=
  ∀ s : State, s.power = .running → Settled s →
    let changes := fun (seen now level : Bool) => now ≠ level ∨ (s.seat.stage = .loading ∧ seen = false)
    (changes s.seat.seatInSeen s.seat.seatIn true → ∃ t, exec (.seatInChange true) s = .next t ∧
      t.seat.seatIn = true ∧ t.hasFault .frontLinkLost 0 = false ∧
      (∀ p, s.seat.stage = .listen → s.seat.rejoin = some p → s.loader.identity ≠ 0 → s.line.mute = false →
        t.seat.stage = .claiming ∧ t.seat.claimed = p ∧ t.seat.claim = .pending ∧ t.seat.claimRejoin = true ∧
        (s.line.queue = [] → t.line.queue.map Entry.frame =
          [.seatClaim p s.loader.identity s.loader.profile.cls true])) ∧
      (s.seat.stage ≠ .listen ∨ s.seat.rejoin = none ∨ s.loader.identity = 0 ∨ s.line.mute = true →
        t.primary = State.primary { s with seat := { s.seat with seatIn := true, seatInSeen := true } })) ∧
    (changes s.seat.seatInSeen s.seat.seatIn false → ∃ t, exec (.seatInChange false) s = .next t ∧
      t.primary = State.primary { s with seat := { s.seat with seatIn := false, seatInSeen := true } } ∧
      (s.seated = true → s.seat.head = false → s.faults.list.length < 8 → t.hasFault .frontLinkLost 0 = true) ∧
      (s.seated = false ∨ s.seat.head = true → t.hasFault .frontLinkLost 0 = s.hasFault .frontLinkLost 0)) ∧
    (∀ level, ¬changes s.seat.seatInSeen s.seat.seatIn level → exec (.seatInChange level) s = .next s) ∧
    (changes s.seat.presInSeen s.seat.presIn true → ∃ t, exec .presInAsserted s = .next t ∧
      t.seat =
        { s.seat with
          presIn := true, presInSeen := true, departure := .stopped
          answered := if s.seat.departure.isRunning = true then [] else s.seat.answered
          offer := t.seat.offer } ∧
      (s.seat.departure.isRunning = true → ∀ e ∈ t.line.queue, e.frame.isProbe = true → e.inFlight = true) ∧
      (∀ k, t.hasFault .presenceFault k = false) ∧
      t.rear = { s.rear with status := if s.rear.status = .holder then .pending else s.rear.status } ∧
      (s.serving = true → s.seat.ownSeat = 8 → s.faults.list.length < 8 → t.hasFault .combinationFull 0 = true) ∧
      (s.serving = false ∨ s.seat.ownSeat ≠ 8 →
        t.hasFault .combinationFull 0 = s.hasFault .combinationFull 0) ∧
      t.primary = State.primary { s with seat := t.seat, rear := t.rear }) ∧
    (¬changes s.seat.presInSeen s.seat.presIn true → exec .presInAsserted s = .next s) ∧
    (changes s.seat.presInSeen s.seat.presIn false → s.seated = false → ∃ t, exec .presInDeasserted s = .next t ∧
      t.hasFault .combinationFull 0 = false ∧
      t.primary = State.primary { s with seat := { s.seat with presIn := false, presInSeen := true } }) ∧
    (changes s.seat.presInSeen s.seat.presIn false → s.seated = true → ∃ t, exec .presInDeasserted s = .next t ∧
      t.hasFault .combinationFull 0 = false ∧
      t.primary =
        State.primary
          { s with
            seat :=
              { s.seat with presIn := false, presInSeen := true, departure := .running 0 1500, answered := [] } } ∧
      t = settle (offer (.probe s.seat.ownSeat)
        { clearFault .combinationFull 0 { s with seat := { s.seat with presIn := false, presInSeen := true } } with
          seat :=
            { s.seat with presIn := false, presInSeen := true, departure := .running 0 1500, answered := [] } })) ∧
    (¬changes s.seat.presInSeen s.seat.presIn false → exec .presInDeasserted s = .next s)

/-- The head listen timer's expiry in LISTEN: CONFLICT where position 1 was heard, its queue emptied but for a frame of its own in its
last End bit (R4, R186), else the head's own claim of seat 1, else
nothing where the station has no identity or is mute (R9, R10). The unseated timer's expiry: STANDALONE with SEAT-UNAVAILABLE,
a pending claim withdrawn; with the claim in flight the expiry is held (R7, R8, R15). MODEL'S CHOICES: an expiry is taken when the command
gives it (log 3), which frame is in its last End bit (log 29), that every pending frame goes in CONFLICT (log 11), and that the claim is
PENDING also where a full queue drops it as it is offered (log 55). On entering CONFLICT the outstanding query, the answering with an owed
BUSY and a relayed request still WAITING end too (R164, R193, R199), and the phase stays; the unseated timer's STANDALONE leaves the
requests, the answers and the phase as they are, for the station was unseated before. -/
def Obligations.UnseatedTimersDecide : Prop :=
  ∀ s : State, s.power = .running →
    (s.seat.stage = .listen → s.seat.headListen.isRunning = true →
      (s.seat.pos1Heard = true → ∃ t, exec .headListenExpiry s = .next t ∧ t.seat.stage = .conflict ∧
        t.seat.ownSeat = 0 ∧ t.seat.claimed = 0 ∧ t.seat.claim = .none ∧ t.seat.rejoin = none ∧
        (∀ e ∈ t.line.queue, e.completing ∧ s.ending = true) ∧ t.seat.headListen = .stopped ∧ t.seat.unseated = .stopped ∧ t.retention.seat = 0 ∧
        RequestsEnded s t ∧ t.phase = s.phase ∧
        (s.faults.list.length < 8 → t.hasFault .seatConflict 1 = true)) ∧
      (s.seat.pos1Heard = false → s.loader.identity ≠ 0 → s.line.mute = false →
        ∃ t, exec .headListenExpiry s = .next t ∧ t.seat.stage = .claiming ∧ t.seat.claimed = 1 ∧
          t.seat.claim = .pending ∧ t.seat.claimRejoin = false ∧ t.seat.headListen = .stopped ∧
          t.seat.unseated = s.seat.unseated ∧ t.retention.seat = s.retention.seat ∧
          (s.line.queue = [] →
            t.line.queue.map Entry.frame = [.seatClaim 1 s.loader.identity s.loader.profile.cls false])) ∧
      (s.seat.pos1Heard = false → s.loader.identity = 0 ∨ s.line.mute = true →
        ∃ t, exec .headListenExpiry s = .next t ∧
          t.primary = State.primary { s with seat := { s.seat with headListen := .stopped } })) ∧
    (s.seat.unseated.isRunning = true → s.seat.stage = .listen ∨ s.seat.stage = .claiming →
      (s.seat.claim ≠ .inFlight → ∃ t, exec .unseatedTimerExpiry s = .next t ∧ t.seat.stage = .standalone ∧
        t.seat.ownSeat = 0 ∧ t.seat.claimed = 0 ∧ t.seat.claim = .none ∧ t.seat.rejoin = none ∧
        t.seat.headListen = .stopped ∧ t.seat.window = .stopped ∧ t.seat.unseated = .stopped ∧
        t.retention.seat = 0 ∧ t.retention.valid = true ∧ t.phase = s.phase ∧ t.body.relay = s.body.relay ∧
        t.port = { s.port with attn := t.port.attn } ∧
        (s.faults.list.length < 8 → t.hasFault .seatUnavailable 0 = true) ∧
        (s.seat.claim = .pending → t.pendingId s.seat.claimId = false)) ∧
      (s.seat.claim = .inFlight → ∃ t, exec .unseatedTimerExpiry s = .next t ∧
        t.primary = State.primary { s with seat := { s.seat with unseated := .stopped, expiryHeld := true } }))

/-- The claim window's expiry seats the station: the own seat is the claimed seat, the own roster entry is created, the
retention record rewritten, SEAT-UNAVAILABLE cleared, FRONT-LINK-LOST raised where SEAT-IN is deasserted, and PROFILING is entered
(R16, R25, R32). A mute station queues no announcement and goes on at once (R19): a rejoining or once seated station whose
assigned channels have all been tested to SYNC, as does one that has no channel to test, and any other to CHECKING. MODEL'S CHOICES: that
claimed is 0 from then on (log 21), the order of the two faults (log 35) and of the faults of SYNC and the judgements after them (logs 42
and 32), that SYNC follows also where a full queue drops STAGE CHECKED (log 55), and that the expiry is taken when the command gives it
(log 3). -/
def Obligations.ClaimWindowSeats : Prop :=
  ∀ s : State, s.power = .running → s.seat.stage = .claiming → s.seat.window.isRunning = true →
    s.hasFault .frontLinkLost 0 = false →
    let tested := (s.seat.claimRejoin = true ∨ s.seat.reseat = true) ∧
      ∀ e ∈ s.lampHealth, e.1 = .unassigned ∨ e.2 ≠ .untested
    let nothingToTest := ∀ e ∈ s.lampHealth, e.1 = .unassigned ∨ e.2 = .locked
    ∃ t, exec .claimWindowExpiry s = .next t ∧ t.seat.ownSeat = s.seat.claimed ∧
      (s.line.mute = false → t.seat.stage = .profiling ∧
        (∃ a, t.roster.announce = some a ∧ a.purpose = .initial ∧ a.index = 0) ∧
        Table.get t.roster.entries s.seat.claimed =
          some
            { identity := s.loader.identity, cls := s.loader.profile.cls, stage := .claimed,
              rejoin := s.seat.claimRejoin, note := .none, profile := some (ownSummary s.loader), check := none,
              fault := some (summaryOf t t.faults.list) }) ∧
      (s.line.mute = true →
        (tested ∨ nothingToTest → t.seat.stage = .sync) ∧
        (¬tested → ¬nothingToTest → t.seat.stage = .checking ∧
          t.lamps.check = some { todo := s.underTest, turn := 0, pulse := true }) ∧
        t.roster.announce = none ∧
        (Table.get t.roster.entries s.seat.claimed).map RosterEntry.identity = some s.loader.identity) ∧
      t.seatOut = true ∧ t.seat.claim = .none ∧ t.seat.claimed = 0 ∧ t.seat.window = .stopped ∧
      t.seat.claimRejoin = s.seat.claimRejoin ∧
      (∀ q, q ≠ s.seat.claimed → Table.get t.roster.entries q = Table.get s.roster.entries q) ∧
      t.retention.valid = true ∧ t.retention.seat = s.seat.claimed ∧ t.retention.identity = s.loader.identity ∧
      t.retention.counts = s.retention.counts ∧
      t.hasFault .seatUnavailable 0 = false ∧
      (s.seat.head = true ∨ s.seat.seatIn = true → t.hasFault .frontLinkLost 0 = false) ∧
      (s.seat.head = false → s.seat.seatIn = false → s.faults.list.length < 8 → t.hasFault .frontLinkLost 0 = true)

/-- The offer condition, its queueing and its withdrawal, and the offer timer's expiry (R12). MODEL'S CHOICES: the timer starts also where
a full queue drops the SEAT OFFER as it is offered (log 55), its expiry is taken when the command gives it (log 3), and the judgements
follow the expiry's own effect (log 32). -/
def Obligations.OfferConditionActs : Prop :=
  ∀ s : State,
    (s.offerDue = true ↔ (s.seat.stage = .sync ∨ s.seat.stage = .joined) ∧ s.seat.presIn = true ∧
      s.seat.ownSeat < 8 ∧ Table.get s.roster.entries (s.seat.ownSeat + 1) = none) ∧
    (s.offerDue = true → s.seat.offer.isRunning = false →
      judgeOffer s =
        { offer (.seatOffer (s.seat.ownSeat + 1)) s with seat := { s.seat with offer := .running 0 500 } }) ∧
    (s.offerDue = false → (judgeOffer s).seat.offer = .stopped ∧
      (s.seat.offer.isRunning = true →
        (judgeOffer s).line.queue = s.line.queue.filter fun e => e.inFlight || !e.frame.isOffer)) ∧
    (s.offerDue = true → s.seat.offer.isRunning = true → judgeOffer s = s) ∧
    (s.power = .running → s.offerDue = true → s.seat.offer.isRunning = true →
      ((∃ e ∈ s.line.queue, e.frame.isOffer = true ∧ e.inFlight = false) →
        exec .offerTimerExpiry s = .next (settle { s with seat := { s.seat with offer := .running 0 500 } })) ∧
      ((∀ e ∈ s.line.queue, e.frame.isOffer = true → e.inFlight = true) →
        exec .offerTimerExpiry s =
          .next (settle
            { offer (.seatOffer (s.seat.ownSeat + 1)) s with seat := { s.seat with offer := .running 0 500 } })))

/-- The judgement at the departure timer's expiry (R28): with p the own seat and H the answers gathered. The own DEPART is applied as it
is offered (R29), also where a full queue drops it (MODEL'S CHOICE, log 48): a STATION-LOST one makes a RETAINED station HOLDER or, with
PRES-IN asserted, PENDING (R130), an UNCOUPLED one a JOINED station HOLDER (R129). The reassembly states of the positions listed become IDLE
(R36). MODEL'S CHOICES too: that at p+1, where the roster holds no entry there, the table entries stay while the rear neighbour's
deficiency goes and the status with it (log 34), the order of the DEPART, of REAR-DEFICIENT and of the judgements, by which with exactly
seven faults listed REAR-DEFICIENT is raised before a DEMAND-LOST of the same event (log 32), and that the expiry is taken when the
command gives it (log 3). -/
def Obligations.DepartureJudged : Prop :=
  ∀ s : State, s.power = .running → s.seated = true → s.seat.departure.isRunning = true →
    let p := s.seat.ownSeat
    let u := { s with seat := { s.seat with departure := .stopped, answered := [] } }
    (p + 1 ∈ s.seat.answered →
      exec .departureTimerExpiry s = .next (settle (raiseFault .presenceFault (p + 1) 2 u))) ∧
    (s.seat.answered ≠ [] → p + 1 ∉ s.seat.answered →
      ∃ t, exec .departureTimerExpiry s = .next t ∧
        t = settle (applyDepart [p + 1] (offer (.depart [p + 1] .stationLost) u)) ∧
        Table.get t.roster.entries (p + 1) = none ∧ Table.get t.roster.reasm (p + 1) = none ∧
        ((Table.get s.roster.entries (p + 1)).isSome = true →
          Table.get t.demand.table (p + 1) = none ∧ Table.get t.sensor.table (p + 1) = none) ∧
        (Table.get s.roster.entries (p + 1) = none →
          Table.get t.demand.table (p + 1) = Table.get s.demand.table (p + 1) ∧
          Table.get t.sensor.table (p + 1) = Table.get s.sensor.table (p + 1)) ∧
        t.seat.departure = .stopped ∧ t.seat.answered = [] ∧
        t.seat.stage = s.seat.stage ∧ t.rear.neighbour = none ∧
        (s.rear.status ≠ .retained → t.rear.status = s.rear.status) ∧
        (s.rear.status = .retained → s.seat.presIn = true → t.rear.status = .pending) ∧
        (s.rear.status = .retained → s.seat.presIn = false → t.rear.status = .holder ∧
          (s.rearComplete = false → s.faults.list.length < 8 → t.hasFault .rearDeficient 0 = true))) ∧
    (s.seat.answered = [] →
      let l := (s.roster.entries.map Prod.fst).filter fun k => decide (p < k)
      ∃ t, exec .departureTimerExpiry s = .next t ∧
        t = settle (rearUncoupled (applyDepart l (offer (.depart l .uncoupled) u))) ∧
        (∀ k, p < k → Table.get t.roster.entries k = none) ∧
        (∀ k ∈ l, Table.get t.roster.reasm k = none ∧ Table.get t.demand.table k = none ∧
          Table.get t.sensor.table k = none) ∧
        (s.seat.stage = .joined → t.rear.status = .holder) ∧ t.rear.neighbour = none ∧
        t.seat.departure = .stopped ∧ t.seat.stage = s.seat.stage)

/-! ### Frames received: seats, departure and the roster (chapters 1 and 2) -/

/-- What every valid frame does at its receipt, and what a frame that fails a test of R178 does: it is discarded and
counted, its bits read (R169), and changes nothing more. The tests: the length its kind and sub-kind allow, a sender position in 1..8 (0
in a SEAT CLAIM), and the ranges of a MARK. Each command of a received frame is put to them. MODEL'S CHOICES: with the line STUCK or the own
frame in flight too (log 51), its bits counted with the command (log 18), and the judgements after its effect (log 32). -/
def Obligations.ReceptionTests : Prop :=
  ∀ (s : State) (k p : Nat) (d : List Byte) (f : State → State), s.power = .running →
    (frameValid s.phase.period k p d = true →
      receive k p d s f =
        .next (settle (f
          { s with
            line := s.line.heard k p d
            seat := { s.seat with pos1Heard := s.seat.pos1Heard || (s.seat.stage == .listen && p == 1) } }))) ∧
    (frameValid s.phase.period k p d = false →
      receive k p d s f =
        .next
          { s with
            line :=
              { s.line.heard k p d with
                malformed := if s.line.malformed < 65535 then s.line.malformed + 1 else s.line.malformed } }) ∧
    (frameValid s.phase.period k p d = true ↔
      lengthOk k (byteAt d 0).toNat d.length = true ∧
      ((1 ≤ p ∧ p ≤ 8) ∨ (p = 0 ∧ k = 3 ∧ (byteAt d 0).toNat = 2)) ∧
      (k = 1 →
        let period := word2 (byteAt d 0) (byteAt d 1)
        let duty := (byteAt d 2).toNat
        500 ≤ period ∧ period ≤ 1000 ∧ 30 ≤ duty ∧ duty ≤ 70 ∧
          word2 (byteAt d 3) (byteAt d 4) < s.phase.period)) ∧
    (∀ sub n, lengthOk k sub n = true ↔
      (n = 1 ∧ k = 5 ∧ (sub = 3 ∨ sub = 5)) ∨
      (n = 2 ∧ (k = 0 ∨ k = 2 ∨ (k = 3 ∧ sub = 1) ∨ (k = 4 ∧ (sub = 1 ∨ sub = 2)) ∨
        (k = 5 ∧ (sub = 2 ∨ sub = 4)))) ∨
      (n = 4 ∧ ((k = 5 ∧ sub = 1) ∨ k = 6 ∨ k = 10)) ∨
      (n = 5 ∧ (k = 1 ∨ (k = 7 ∧ (sub = 1 ∨ sub = 2)))) ∨
      (n = 9 ∧ k = 3 ∧ sub = 2) ∨ (n = 10 ∧ k = 9 ∧ (sub = 1 ∨ sub = 2)) ∨
      (2 ≤ n ∧ n ≤ 12 ∧ k = 8) ∨ (4 ≤ n ∧ n ≤ 12 ∧ k = 11)) ∧
    (∀ (n : Nibble) (a b c e g : Byte) (x y : Half) (i : Identity) (l : List Half),
      let discards := fun (m : Instr) =>
        ∃ t, exec m s = .next t ∧ { t with line := s.line } = s ∧
          { t.line with
            state := s.line.state, recessive := s.line.recessive, dominant := s.line.dominant
            reception := s.line.reception, malformed := s.line.malformed } = s.line ∧
          t.line.malformed = (if s.line.malformed < 65535 then s.line.malformed + 1 else s.line.malformed)
      (n.toNat = 0 ∨ 8 < n.toNat →
        ∀ m ∈ [Instr.demandReceived n a b, .markReceived n x a y, .departReceived n a b, .seatOfferReceived n a,
            .probeReceived n a, .probePresentReceived n a, .stageCheckedReceived n a b c, .stageJoinedReceived n a,
            .stageTakeReceived n, .stageDeclineReceived n a, .stageYieldReceived n, .faultReceived n a b c e,
            .bodyRequestReceived n a b c e, .bodyStatusReceived n a b c e, .profileSegmentReceived n a d,
            .reportCountsReceived n a l, .reportAnalogReceived n a l, .queryReceived n a b c e,
            .answerReceived n a b c e d], discards m) ∧
      (8 < n.toNat → discards (.seatClaimReceived n a i g)) ∧
      (x.toNat < 500 ∨ 1000 < x.toNat ∨ a.toNat < 30 ∨ 70 < a.toNat ∨ s.phase.period ≤ y.toNat →
        discards (.markReceived n x a y)) ∧
      (d = [] ∨ 11 < d.length → discards (.profileSegmentReceived n a d)) ∧
      (8 < d.length → discards (.answerReceived n a b c e d)) ∧
      (l.length ≠ 4 → discards (.reportCountsReceived n a l) ∧ discards (.reportAnalogReceived n a l)))

/-- A SEAT OFFER is accepted on the conditions of R14 and ignored otherwise; a pending warm rejoin claim gives way to an
offer of another seat: the old claim leaves the queue and one for the offered seat, without the rejoin flag, enters it (R24). Offers of
seats above 8 are not accepted: MODEL'S CHOICE, log 12; so is that the claim is PENDING also where a full queue drops it as it is offered
(log 55). -/
def Obligations.SeatOfferTaken : Prop :=
  ∀ (s : State) (n : Nibble) (seat : Byte), s.power = .running → 1 ≤ n.toNat → n.toNat ≤ 8 →
    let ok := s.seat.head = false ∧ s.seat.seatIn = true ∧ s.loader.identity ≠ 0 ∧ s.line.mute = false ∧
      seat.toNat = n.toNat + 1 ∧ seat.toNat ≤ 8
    let givesWay := ∃ r, s.seat.rejoin = some r ∧ s.seat.claimRejoin = true ∧ s.seat.claim = .pending ∧ seat.toNat ≠ r
    (ok → (s.seat.stage = .listen ∨ s.seat.stage = .standalone) →
      ∃ t, exec (.seatOfferReceived n seat) s = .next t ∧ t.seat.stage = .claiming ∧
        t.seat.claimed = seat.toNat ∧ t.seat.claim = .pending ∧ t.seat.claimRejoin = false ∧
        (s.seat.stage = .standalone → t.seat.fallbackMark = true ∧ t.seat.unseated = .running 0 5000) ∧
        (s.seat.stage = .listen → t.seat.unseated = s.seat.unseated ∧ t.seat.fallbackMark = s.seat.fallbackMark) ∧
        (s.line.queue = [] → t.line.queue.map Entry.frame =
          [.seatClaim seat.toNat s.loader.identity s.loader.profile.cls false]) ∧
        t.primary = State.primary
          { s with
            seat :=
              { s.seat with
                stage := .claiming, claimed := seat.toNat, claim := .pending, claimId := s.line.nextId
                claimRejoin := false, fallbackMark := t.seat.fallbackMark, unseated := t.seat.unseated
                pos1Heard := s.seat.pos1Heard || (s.seat.stage == .listen && n.toNat == 1) }
            line := s.line.heard 3 n.toNat [1, seat] }) ∧
    (ok → s.seat.stage = .claiming → givesWay →
      ∃ t, exec (.seatOfferReceived n seat) s = .next t ∧ t.seat.stage = .claiming ∧ t.seat.claimed = seat.toNat ∧
        t.seat.claim = .pending ∧ t.seat.claimRejoin = false ∧ t.seat.rejoin = none ∧ t.retention.seat = 0 ∧
        t.seat.unseated = s.seat.unseated ∧ t.seat.claimId = s.line.nextId ∧
        t.primary = State.primary
          { s with
            seat :=
              { s.seat with
                claimed := seat.toNat, claimId := s.line.nextId, claimRejoin := false, rejoin := none }
            retention := { s.retention with valid := true, seat := 0 }
            line := s.line.heard 3 n.toNat [1, seat] } ∧
        (Settled s → (∀ e ∈ s.line.queue, e.id < s.line.nextId) → s.pendingId s.seat.claimId = true →
          s.line.queue.length ≤ 8 →
          (t.line.queue.filter fun e => e.id == t.seat.claimId) =
            [{ id := t.seat.claimId, frame := .seatClaim seat.toNat s.loader.identity s.loader.profile.cls false,
               inFlight := false, dying := false }] ∧
          (t.line.queue.filter fun e => e.id != t.seat.claimId) =
            s.line.queue.filter fun e => e.inFlight || e.id != s.seat.claimId)) ∧
    (¬ok ∨ (s.seat.stage ≠ .listen ∧ s.seat.stage ≠ .standalone ∧ ¬(s.seat.stage = .claiming ∧ givesWay)) →
      exec (.seatOfferReceived n seat) s = .next (settle (frameHeard 3 n.toNat [1, seat] s)))

/-- A SEAT CLAIM makes or replaces the entry at its seat in every stage (R35), and one of a seat outside 1..8 is ignored. A
claim of the claimed seat by another identity while CLAIMING is lost to CONFLICT (R17); a seated station yields its seat to a
claim without the rejoin flag, and defends it against one with the flag: its own SEAT CLAIM is queued and its PROFILE sequence begun or
restarted for the purpose of its stage (R18, R42, R47). In CONFLICT the queue is empty but for a frame in its last End bit; one cut off
ends in six dominant bits (R4, R186), and a check under way is abandoned (R105). A claim that shows someone may have missed an
announcement sets the re-announcement-due flag, on which a JOINED station that is not mute acts at once, after a defence too where it
was set before (R45, R46). In LISTEN a claim of seat 1 sets the position-1-heard flag (R7). MODEL'S CHOICES: that a restart begins
segment 0 at once also where the sequence awaits a new offer and no segment is queued (log 14), the class PRIME-MOVER for an unlisted
code (log 25), that a claim of the own seat leaves its reassembly state (log 36), that every pending frame goes in CONFLICT and which frame
is in its last End bit (logs 11 and 29), and that the judgements come last (log 32). In CONFLICT, entered from CLAIMING or by a yield, the
outstanding query, the answering with an owed BUSY and a relayed request still WAITING end too (R164, R193, R199), and by a yield the
sending of DEMAND and REPORT, the SYNC timer and a noted adoption (R68, R80, R148). -/
def Obligations.SeatClaimsTaken : Prop :=
  (∀ (s : State) (n : Nibble) (seat : Byte) (i : Identity) (c : Byte), s.power = .running → n.toNat ≤ 8 →
    let u := frameHeard 3 n.toNat ([2, seat] ++ identityBytes i ++ [c]) s
    let acts := s.seat.stage = .joined ∧ s.line.mute = false
    let cut := fun (t : State) =>
      (∀ e ∈ t.line.queue, e.completing ∧ s.ending = true) ∧
      (s.inFlight.isSome = true → s.ending = false → t.lineBits = List.replicate 6 false)
    (seat.toNat = 0 ∨ 8 < seat.toNat → exec (.seatClaimReceived n seat i c) s = .next (settle u)) ∧
    (1 ≤ seat.toNat → seat.toNat ≤ 8 → (s.seated = false ∨ seat.toNat ≠ s.seat.ownSeat) →
      ∃ t, exec (.seatClaimReceived n seat i c) s = .next t ∧
        Table.get t.roster.entries seat.toNat =
          some
            { identity := i, cls := (UnitClass.ofCode? (fieldOf c 2 0)).getD .primeMover, stage := .claimed,
              rejoin := bitOf c 7, note := .none, profile := none, check := none, fault := none } ∧
        Table.get t.roster.reasm seat.toNat = none ∧
        (t.seat.pos1Heard = true ↔
          s.seat.pos1Heard = true ∨ (s.seat.stage = .listen ∧ (n.toNat = 1 ∨ seat.toNat = 1))) ∧
        (∀ q, q ≠ seat.toNat → q ≠ s.seat.ownSeat →
          Table.get t.roster.entries q = Table.get s.roster.entries q) ∧
        t.phase = s.phase ∧ t.demand.table = s.demand.table ∧ t.rear = s.rear ∧
        (s.seated = true →
          let due := s.roster.due = true ∨ Table.get s.roster.entries seat.toNat = none ∨ bitOf c 7 = true
          (due → acts → t.roster.due = false ∧
            ∃ a, t.roster.announce = some a ∧
              ((∃ e ∈ s.line.queue, e.frame.isProfile = true ∧ e.inFlight = true) → s.roster.announce ≠ none →
                a.restart = true) ∧
              ((∀ e ∈ s.line.queue, e.frame.isProfile = true → e.inFlight = false) ∨ s.roster.announce = none →
                a.index = 0 ∧ a.restart = false)) ∧
          (due → ¬acts → t.roster.due = true) ∧ (¬due → t.roster.due = false))) ∧
    (1 ≤ seat.toNat → seat.toNat ≤ 8 → i ≠ s.loader.identity → s.seat.stage = .claiming →
      seat.toNat = s.seat.claimed →
      ∃ t, exec (.seatClaimReceived n seat i c) s = .next t ∧ t.seat.stage = .conflict ∧ t.seat.claimed = 0 ∧
        t.seat.claim = .none ∧ cut t ∧ t.retention.seat = 0 ∧ RequestsEnded s t ∧ t.phase = s.phase ∧
        (s.faults.list.length < 8 → t.hasFault .seatConflict seat.toNat = true)) ∧
    (1 ≤ seat.toNat → seat.toNat ≤ 8 → i ≠ s.loader.identity → s.seated = true → seat.toNat = s.seat.ownSeat →
      bitOf c 7 = false →
        ∃ t, exec (.seatClaimReceived n seat i c) s = .next t ∧ t.seat.stage = .conflict ∧ t.seat.ownSeat = 0 ∧
          t.seatOut = false ∧ cut t ∧ SeatLeft s t ∧ t.rear.status = .none ∧
          t.rear.neighbour = none ∧ Table.get t.roster.entries seat.toNat = none ∧ t.retention.seat = 0 ∧
          t.lamps.check = none ∧
          (s.seat.stage = .checking → ∀ ch ∈ t.lamps.channels, ch.steady = if ch.lit = true then some 0 else none) ∧
          (∀ k ∈ bodyNumbers, (t.bodyChannel k).running = false) ∧
          (s.faults.list.length < 7 → t.hasFault .seatConflict seat.toNat = true)) ∧
    (s.seated = true → isSeat seat.toNat → seat.toNat = s.seat.ownSeat →
      (Table.get s.roster.entries seat.toNat).isSome = true →
      let announced := fun (w : State) => runSequence .announce { w with roster := { w.roster with due := false } }
      let defended := runSequence
        (if s.seat.stage = .joined then .announce else if s.seat.stage = .profiling then .initial else .defence)
        (offer (.seatClaim s.seat.ownSeat s.loader.identity s.loader.profile.cls false) u)
      (i ≠ s.loader.identity → bitOf c 7 = true →
        (s.roster.due = false ∨ ¬acts → exec (.seatClaimReceived n seat i c) s = .next (settle defended)) ∧
        (s.roster.due = true → acts → exec (.seatClaimReceived n seat i c) s = .next (settle (announced defended)))) ∧
      (i = s.loader.identity →
        (bitOf c 7 = false → s.roster.due = false ∨ ¬acts →
          exec (.seatClaimReceived n seat i c) s = .next (settle u)) ∧
        (bitOf c 7 = true ∨ s.roster.due = true → acts →
          exec (.seatClaimReceived n seat i c) s = .next (settle (announced u))) ∧
        (bitOf c 7 = true → ¬acts →
          exec (.seatClaimReceived n seat i c) s =
            .next (settle { u with roster := { u.roster with due := true } }))))) ∧
  ∀ (u : State) (p : Purpose),
    (u.line.mute = true → runSequence p u = u) ∧
    (u.line.mute = false →
      let begin := fun (p : Purpose) (w : State) =>
        offer (.profile 0 (segmentTotal (ownSummaryBytes w.loader)) (segmentData (ownSummaryBytes w.loader) 0))
          { w with
            roster :=
              { w.roster with announce := some { purpose := p, index := 0, restart := false, reoffer := false } } }
      (u.roster.announce = none → runSequence p u = begin p u) ∧
      (∀ a, u.roster.announce = some a →
        let p' := if a.purpose = .initial then .initial else p
        ((∃ e ∈ u.line.queue, e.frame.isProfile = true ∧ e.inFlight = true) →
          runSequence p u =
            { u with roster := { u.roster with announce := some { a with purpose := p', restart := true } } }) ∧
        ((∀ e ∈ u.line.queue, e.frame.isProfile = true → e.inFlight = false) →
          runSequence p u =
            begin p'
              { u with
                line :=
                  { u.line with
                    queue := u.line.queue.filter fun e => e.inFlight || !e.frame.isProfile } })))

/-- A DEPART removes its positions that the roster holds from the roster, the demand table and the motion table, and changes nothing there
for one it does not hold (R29, R82, R144), and sets the reassembly state of each to IDLE (R36, R43); one that lists the own seat ends it
in STANDALONE (R30): the queue keeps SEAT CLAIMs that wait (log 11) and a frame in its last End bit, a frame cut off ends in six dominant
bits (R4, R186), and a check under way is abandoned with every channel off, so that what the fallback set lights has just been lit (R105).
One that lists the position behind, but not the own seat, ends the rear neighbour's deficiency: a RETAINED station becomes HOLDER, with
REAR-DEFICIENT where its group is incomplete, or PENDING where PRES-IN is asserted, and any other status stays; one that lists neither
changes nothing there (R130). With the seat end the outstanding query (R199), the answering and an owed BUSY (R193), a relayed request still
WAITING (R164), the sending of DEMAND and REPORT (R80, R148), and the SYNC timer and a noted adoption, the rest of the phase kept (R68).
MODEL'S CHOICES: that for a position the roster does not hold the table entries stay, while the reassembly
state becomes IDLE and the Rear-End Logic acts (log 34), which frame is in its last End bit (log 29), and that with exactly seven faults
listed REAR-DEFICIENT is raised before a DEMAND-LOST of the same event (log 32). -/
def Obligations.DepartApplied : Prop :=
  ∀ (s : State) (n : Nibble) (b r : Byte), s.power = .running → 1 ≤ n.toNat → n.toNat ≤ 8 →
    ∃ t, exec (.departReceived n b r) s = .next t ∧
      (∀ p, p ∈ positionsOf b → Table.get t.roster.entries p = none ∧ Table.get t.roster.reasm p = none ∧
        ((Table.get s.roster.entries p).isSome = true →
          Table.get t.demand.table p = none ∧ Table.get t.sensor.table p = none) ∧
        (Table.get s.roster.entries p = none →
          Table.get t.demand.table p = Table.get s.demand.table p ∧
          Table.get t.sensor.table p = Table.get s.sensor.table p)) ∧
      (∀ p, p ∉ positionsOf b → p ≠ s.seat.ownSeat →
        Table.get t.roster.entries p = Table.get s.roster.entries p ∧
        Table.get t.demand.table p = Table.get s.demand.table p ∧
        Table.get t.sensor.table p = Table.get s.sensor.table p) ∧
      (∀ p, p ∉ positionsOf b → Table.get t.roster.reasm p = Table.get s.roster.reasm p) ∧
      (s.seated = true → s.seat.ownSeat ∈ positionsOf b →
        t.seat.stage = .standalone ∧ t.seat.ownSeat = 0 ∧ t.seatOut = false ∧ t.retention.seat = 0 ∧
        t.seat.offer = .stopped ∧ t.seat.departure = .stopped ∧ t.seat.reseat = true ∧ t.rear.status = .none ∧
        t.rear.neighbour = none ∧ t.lamps.check = none ∧ SeatLeft s t ∧
        (∀ e ∈ t.line.queue, (e.frame.isSeatClaim = true ∧ e.inFlight = false) ∨ (e.completing ∧ s.ending = true)) ∧
        (s.ending = true → t.inFlight.isSome = true) ∧
        (s.inFlight.isSome = true → s.ending = false → t.lineBits = List.replicate 6 false) ∧
        (s.seat.stage = .checking → ∀ ch ∈ t.lamps.channels, ch.steady = if ch.lit = true then some 0 else none) ∧
        (∀ k ∈ bodyNumbers, (t.bodyChannel k).running = false)) ∧
      (s.seated = false ∨ s.seat.ownSeat ∉ positionsOf b →
        t.seat.stage = s.seat.stage ∧ t.seat.ownSeat = s.seat.ownSeat ∧ t.retention.seat = s.retention.seat ∧
        t.phase = s.phase) ∧
      (s.seated = true → s.seat.ownSeat ∉ positionsOf b → s.seat.ownSeat + 1 ∈ positionsOf b →
        t.rear.neighbour = none ∧ t.rearComplete = s.rearComplete ∧
        (s.rear.status ≠ .retained → t.rear.status = s.rear.status) ∧
        (s.rear.status = .retained → s.seat.presIn = true → t.rear.status = .pending) ∧
        (s.rear.status = .retained → s.seat.presIn = false → t.rear.status = .holder ∧
          (s.rearComplete = false → s.faults.list.length < 8 → t.hasFault .rearDeficient 0 = true)) ∧
        (s.rear.status ≠ .retained ∨ s.seat.presIn = true ∨ s.rearComplete = true → s.faults.list.length < 8 →
          t.hasFault .rearDeficient 0 = s.hasFault .rearDeficient 0)) ∧
      (s.seated = false ∨ (s.seat.ownSeat ∉ positionsOf b ∧ s.seat.ownSeat + 1 ∉ positionsOf b) →
        t.rear = s.rear)

/-- PROBE is answered by a seated station behind the prober, and the answers are gathered while the departure timer runs
(R27). That the frame's own receipt counts its bits (R169) and in LISTEN sets the position-1-heard flag (R7) goes with it. MODEL'S CHOICES:
what of a frame's bits is counted with its command (log 18), that it is taken with the line STUCK or the own frame in flight too (log 51),
and that the judgements come last (log 32). -/
def Obligations.ProbesAnswered : Prop :=
  ∀ (s : State) (n : Nibble) (p : Byte), s.power = .running → 1 ≤ n.toNat → n.toNat ≤ 8 →
    (s.seated = true → p.toNat < s.seat.ownSeat →
      exec (.probeReceived n p) s = .next (settle (offer (.probePresent p.toNat) (frameHeard 4 n.toNat [1, p] s)))) ∧
    (s.seated = false ∨ s.seat.ownSeat ≤ p.toNat →
      exec (.probeReceived n p) s = .next (settle (frameHeard 4 n.toNat [1, p] s))) ∧
    (s.seat.departure.isRunning = true → p.toNat = s.seat.ownSeat → s.seat.ownSeat < n.toNat →
      ∃ t, exec (.probePresentReceived n p) s = .next t ∧
        (∀ k, k ∈ t.seat.answered ↔ k = n.toNat ∨ k ∈ s.seat.answered) ∧
        t.primary = State.primary
          { s with
            seat :=
              { s.seat with
                answered := t.seat.answered
                pos1Heard := s.seat.pos1Heard || (s.seat.stage == .listen && n.toNat == 1) }
            line := s.line.heard 4 n.toNat [2, p] } ∧
        t.seat.stage = s.seat.stage ∧ t.seat.departure = s.seat.departure) ∧
    (s.seat.departure.isRunning = false ∨ p.toNat ≠ s.seat.ownSeat ∨ n.toNat ≤ s.seat.ownSeat →
      exec (.probePresentReceived n p) s = .next (settle (frameHeard 4 n.toNat [2, p] s)))

/-- What the STAGE and FAULT frames make of the entry at their sender position, where there is one that is not the own (R34, R37, R38). They
touch no other entry, the own one, whatever the sender position, but in the note and the fault summary that the rear end's answer to a STAGE
TAKE gives it, and of the other blocks' state only the rear-end standing, with the frames and faults of its change, and in LISTEN the
position-1-heard flag (R7). That an unlisted note is NONE is DEDUCED (log 25). -/
def Obligations.StageAndFaultFramesTaken : Prop :=
  ∀ (s : State) (n : Nibble) (g f c x : Byte), s.power = .running → 1 ≤ n.toNat → n.toNat ≤ 8 →
    (∀ old, Table.get s.roster.entries n.toNat = some old → (s.seated = false ∨ n.toNat ≠ s.seat.ownSeat) →
      (∃ t, exec (.stageCheckedReceived n g f c) s = .next t ∧
        Table.get t.roster.entries n.toNat = some
          { old with
            check := some { good := g.toNat, failed := f.toNat, complete := bitOf c 0 }
            stage := if old.stage = .joined then .joined else .checked }) ∧
      (∃ t, exec (.stageJoinedReceived n g) s = .next t ∧
        Table.get t.roster.entries n.toNat = some { old with stage := .joined, note := .ofCode g.toNat }) ∧
      (∃ t, exec (.stageTakeReceived n) s = .next t ∧
        Table.get t.roster.entries n.toNat = some { old with note := .taken }) ∧
      (∃ t, exec (.stageDeclineReceived n g) s = .next t ∧
        Table.get t.roster.entries n.toNat = some { old with note := .declined }) ∧
      (∃ t, exec (.stageYieldReceived n) s = .next t ∧
        Table.get t.roster.entries n.toNat = some { old with note := .yielded }) ∧
      (∃ t, exec (.faultReceived n g f c x) s = .next t ∧
        Table.get t.roster.entries n.toNat = some
          { old with
            fault := some
              { count := fieldOf x 7 4, highest := fieldOf x 3 2,
                sides := { left := bitOf x 0, right := bitOf x 1 } } })) ∧
    (∀ e ∈ [(Instr.stageCheckedReceived n g f c, 5, [1, g, f, c]), (.stageJoinedReceived n g, 5, [2, g]),
        (.stageTakeReceived n, 5, [3]), (.stageDeclineReceived n g, 5, [4, g]), (.stageYieldReceived n, 5, [5]),
        (.faultReceived n g f c x, 6, [g, f, c, x])],
      let k := e.1
      ∃ t, exec k s = .next t ∧
        t.primary = State.primary
          { s with
            roster := { s.roster with entries := t.roster.entries }
            line := s.line.heard e.2.1 n.toNat e.2.2
            seat :=
              { s.seat with pos1Heard := s.seat.pos1Heard || (s.seat.stage == .listen && n.toNat == 1) }
            rear := t.rear } ∧
        t.seat.stage = s.seat.stage ∧ t.seat.ownSeat = s.seat.ownSeat ∧ t.roster.reasm = s.roster.reasm ∧
        t.roster.due = s.roster.due ∧
        (Settled s → k ≠ .stageTakeReceived n ∨ s.line.queue.length ≤ 6 → t.roster.announce = s.roster.announce) ∧
        (∀ q, q ≠ n.toNat → s.seated = false ∨ q ≠ s.seat.ownSeat →
          Table.get t.roster.entries q = Table.get s.roster.entries q) ∧
        (s.seated = true →
          let own := fun (u : State) =>
            (Table.get u.roster.entries s.seat.ownSeat).map fun r =>
              { r with fault := none, note := if k = Instr.stageTakeReceived n then .none else r.note }
          own t = own s) ∧
        (k ≠ .stageTakeReceived n → k ≠ .stageDeclineReceived n g → t.rear = s.rear))

/-- A PROFILE segment taken in its order joins the bytes gathered from its sender; any other is dropped and ends the
gathering (R43). -/
def Obligations.SegmentsGathered : Prop :=
  ∀ (s : State) (n : Nibble) (h : Byte) (d : List Byte), s.power = .running → 1 ≤ n.toNat → n.toNat ≤ 8 →
    1 ≤ d.length → d.length ≤ 11 → (s.seated = false ∨ n.toNat ≠ s.seat.ownSeat) →
    let index := fieldOf h 7 4
    let total := fieldOf h 3 0
    let fits := index < total ∧ (index + 1 < total → d.length = 11)
    (fits → index = 0 → 1 < total → ∃ t, exec (.profileSegmentReceived n h d) s = .next t ∧
      Table.get t.roster.reasm n.toNat = some { total := total, expected := 1, bytes := d } ∧
      t.primary = State.primary
        { s with
          roster := { s.roster with reasm := t.roster.reasm }, line := s.line.heard 8 n.toNat (h :: d)
          seat := { s.seat with pos1Heard := s.seat.pos1Heard || (s.seat.stage == .listen && n.toNat == 1) } } ∧
      t.seat.stage = s.seat.stage) ∧
    (∀ b, Table.get s.roster.reasm n.toNat = some { total := total, expected := index, bytes := b } → fits →
      index ≠ 0 → index + 1 < total →
      ∃ t, exec (.profileSegmentReceived n h d) s = .next t ∧
        Table.get t.roster.reasm n.toNat = some { total := total, expected := index + 1, bytes := b ++ d }) ∧
    (∀ b, Table.get s.roster.reasm n.toNat = some { total := total, expected := index, bytes := b } → fits →
      index ≠ 0 → index + 1 = total →
      exec (.profileSegmentReceived n h d) s =
        .next (settle (applySummary n.toNat (b ++ d)
          (setCollecting n.toNat none (frameHeard 8 n.toNat (h :: d) s))))) ∧
    (fits → index = 0 → total = 1 →
      exec (.profileSegmentReceived n h d) s =
        .next (settle (applySummary n.toNat d
          (setCollecting n.toNat none (frameHeard 8 n.toNat (h :: d) s))))) ∧
    ((¬fits ∨ (index ≠ 0 ∧ ∀ g, Table.get s.roster.reasm n.toNat = some g →
        g.total ≠ total ∨ g.expected ≠ index)) →
      ∃ t, exec (.profileSegmentReceived n h d) s = .next t ∧ Table.get t.roster.reasm n.toNat = none ∧
        t.roster.entries.map Prod.fst = s.roster.entries.map Prod.fst)

/-- A completed sequence is discarded where it fails one of the four checks of R44: its byte count, the counts of its body and sensor
lists, its unit class, a channel outside 1..4 in its body list (section 12.3 places them); the roster is then left unchanged. One that
passes puts its profile summary into the entry at its sender position: an entry with the same identity keeps its other fields, its
class taken from the summary and its stage PROFILED unless CHECKED or JOINED already; with none there, or one of another identity, the
entry is made anew. -/
def Obligations.CompletedSummaryApplied : Prop :=
  ∀ (s : State) (p : Nat) (bytes : List Byte),
    let b := (byteAt bytes 10).toNat
    let n := (byteAt bytes (11 + 2 * b)).toNat
    (parseSummary bytes = none ↔
      bytes.length ≠ 12 + 2 * b + n ∨ 4 < b ∨ 8 < n ∨
      ((byteAt bytes 6).toNat < 1 ∨ 5 < (byteAt bytes 6).toNat) ∨
      ∃ k, k < b ∧
        (fieldOf (byteAt bytes (11 + 2 * k)) 2 0 < 1 ∨ 4 < fieldOf (byteAt bytes (11 + 2 * k)) 2 0)) ∧
    (parseSummary bytes = none → applySummary p bytes s = s) ∧
    (∀ i c sum, parseSummary bytes = some (i, c, sum) →
      i = identityOf (bytes.take 6) ∧ UnitClass.ofCode? (byteAt bytes 6).toNat = some c ∧
      sum.functions = functionsOf (byteAt bytes 7) (byteAt bytes 8) ∧ sum.origin = bitOf (byteAt bytes 9) 0 ∧
      sum.profileDefault = bitOf (byteAt bytes 9) 1 ∧ sum.bodies.length = b ∧ sum.sensors.length = n ∧
      { applySummary p bytes s with
        roster := { (applySummary p bytes s).roster with entries := s.roster.entries } } = s ∧
      (∀ q, q ≠ p → Table.get (applySummary p bytes s).roster.entries q = Table.get s.roster.entries q) ∧
      (∀ e, Table.get s.roster.entries p = some e → e.identity = i →
        Table.get (applySummary p bytes s).roster.entries p = some
          { e with
            profile := some sum, cls := c
            stage := if e.stage = .checked ∨ e.stage = .joined then e.stage else .profiled }) ∧
      ((∀ e, Table.get s.roster.entries p = some e → e.identity ≠ i) →
        Table.get (applySummary p bytes s).roster.entries p = some
          { identity := i, cls := c, stage := .profiled, rejoin := false, note := .none, profile := some sum,
            check := none, fault := none }))

/-- The PROFILE summary of any station, whatever its profile memory held, is cut into 2 or 3 segments, each of 11 bytes but
the last of 1..11, that put together again are the summary (R40); and a receiver reads it back as it was sent: its bytes parse
to the identity, the unit class and the profile summary (R39, R44). -/
def Obligations.SummarySurvivesTheLine : Prop :=
  ∀ (image : Option (List Byte)) (l : Loader), l.profile = appliedProfile image →
    let b := ownSummaryBytes l
    12 ≤ b.length ∧ b.length ≤ 28 ∧ segmentTotal b = (if b.length ≤ 22 then 2 else 3) ∧
    (∀ k, k + 1 < segmentTotal b → (segmentData b k).length = 11) ∧
    1 ≤ (segmentData b (segmentTotal b - 1)).length ∧ (segmentData b (segmentTotal b - 1)).length ≤ 11 ∧
    (List.range (segmentTotal b)).flatMap (segmentData b) = b ∧
    parseSummary b = some (l.identity, l.profile.cls, ownSummary l)

/-! ### Flash phase (chapter 3) -/

/-- The quantities of R51: P, from a rate in its range, and T_on are the nearest whole numbers with halves rounded up, S, Q and B are
floors, and all lie in the ranges the rule gives; T_on, S, Q and B are those of the period and duty that stand, at load done the
profile's, after an adoption the MARK's own. The SINGLE and the DOUBLE pattern (R69, R70): the DOUBLE
pattern's lit parts lie within the SINGLE pattern's. The error of a MARK lies above −P/2 and not above P/2, and differs from
φr − lag by a whole number of periods (R60). -/
def Obligations.PhaseQuantities : Prop :=
  ∀ (rate : Nat) (p : PhaseUnit) (phiR : Int) (lag : Nat),
    (60 ≤ rate → rate ≤ 120 →
      let period := periodOfRate rate
      2 * 60000 < (2 * period + 1) * rate ∧ (2 * period - 1) * rate ≤ 2 * 60000 ∧ 500 ≤ period ∧ period ≤ 1000) ∧
    (500 ≤ p.period → p.period ≤ 1000 → 30 ≤ p.duty → p.duty ≤ 70 →
      (2 * (p.period * p.duty) < (2 * p.onTime + 1) * 100 ∧ (2 * p.onTime - 1) * 100 ≤ 2 * (p.period * p.duty)) ∧
      p.slew * 16 ≤ p.period ∧ p.period < (p.slew + 1) * 16 ∧
      p.abandon * 4 ≤ p.period ∧ p.period < (p.abandon + 1) * 4 ∧
      p.burst * 3 ≤ p.onTime ∧ p.onTime < (p.burst + 1) * 3 ∧
      150 ≤ p.onTime ∧ p.onTime ≤ 700 ∧ 31 ≤ p.slew ∧ p.slew ≤ 62 ∧
      125 ≤ p.abandon ∧ p.abandon ≤ 250 ∧ 50 ≤ p.burst ∧ p.burst ≤ 233 ∧ p.onTime < p.period - p.slew) ∧
    (∀ q : PhaseUnit, q.period = p.period → q.duty = p.duty →
      q.onTime = p.onTime ∧ q.slew = p.slew ∧ q.abandon = p.abandon ∧ q.burst = p.burst) ∧
    (∀ s : State, (startPhase s).phase.period = periodOfRate s.loader.profile.rate ∧
      (startPhase s).phase.duty = s.loader.profile.duty) ∧
    (∀ period duty, (p.adoption = some (period, duty) → p.wrapped.period = period ∧ p.wrapped.duty = duty) ∧
      (PhaseUnit.stepped period duty lag phiR p).period = period ∧ (PhaseUnit.stepped period duty lag phiR p).duty = duty) ∧
    (p.singleLit = true ↔ p.phi < p.onTime) ∧
    (p.doubleLit = true ↔ p.phi < p.burst ∨ (2 * p.burst ≤ p.phi ∧ p.phi < 3 * p.burst)) ∧
    3 * p.burst ≤ p.onTime ∧ (p.doubleLit = true → p.singleLit = true) ∧
    (0 < p.period →
      let e := phaseError phiR lag p.period
      0 < 2 * e + (p.period : Int) ∧ 2 * e ≤ (p.period : Int) ∧ (phiR - (lag : Int) - e) % (p.period : Int) = 0)

/-- The phase at a wrap (R52, R64, R67): φ starts again at 0, the adoption is applied, L is set to P, the quiet-cycle count stepped, the
flag cleared; nothing else of the event's own effect changes, but that the flash channels have a sample instant again (R110) and in JOINED
an ARMED flash gate becomes RUNNING (R86). A WRAP that comes with φ below L, where a MARK taken first in that millisecond has corrected L or
wrapped already, changes nothing (R59, R65; that an event the state excludes does so is the MODEL'S CHOICE, log 3). The MARK decision (R53):
one is queued in JOINED unless a valid MARK was received at most Q ms before, Q the abandon window before the adoption; it carries the
period and duty adopted, takes the place of a pending one, and is held while one is in flight (R183). -/
def Obligations.WrapTaken : Prop :=
  ∀ (s : State) (q : Nat),
    (s.power = .running → s.seat.stage ≠ .loading → s.phase.phi = s.phase.len →
      ∃ t, exec .wrap s = .next t ∧ t.phase.phi = 0 ∧ t.phase.len = t.phase.period ∧
        (s.phase.adoption = none → t.phase.period = s.phase.period ∧ t.phase.duty = s.phase.duty) ∧
        (∀ a, s.phase.adoption = some a → t.phase.period = a.1 ∧ t.phase.duty = a.2) ∧
        t.phase.adoption = none ∧ t.phase.marked = false ∧
        t.phase.quiet = (if s.phase.marked = true then 0 else min (s.phase.quiet + 1) 3) ∧
        t.phase.lock = (if t.phase.quiet = 3 then .own else s.phase.lock) ∧
        t.phase.lastMark = s.phase.lastMark ∧ t.phase.slip = s.phase.slip ∧ t.phase.syncTimer = s.phase.syncTimer ∧
        t.line.reception = s.line.reception.map (Reception.carried s.phase.len) ∧
        t.primary = State.primary
          { s with
            phase := t.phase, line := { s.line with reception := t.line.reception }
            lamps :=
              { s.lamps with
                channels := s.lamps.channels.map fun c => { c with sampled := c.sampled && c.steady.isSome } } } ∧
        (s.seat.stage = .joined → Settled s →
          (s.demand.gateL = .armed → t.demand.gateL = .running) ∧
          (s.demand.gateR = .armed → t.demand.gateR = .running) ∧
          (s.demand.gateB = .armed → t.demand.gateB = .running) ∧
          (s.demand.gateL = .off → t.demand.gateL = .off) ∧ (s.demand.gateR = .off → t.demand.gateR = .off) ∧
          (s.demand.gateB = .off → t.demand.gateB = .off)) ∧
        (Settled s →
          let due := s.seat.stage = .joined ∧ ∀ m, s.phase.lastMark = some m → s.phase.abandon < s.now - m
          let mark : Frame := .mark t.phase.period t.phase.duty none
          (¬due → t.line.queue = s.line.queue ∧ t.line.followOn = s.line.followOn) ∧
          (due → (∀ e ∈ s.line.queue, e.frame.isMark = false) → s.line.queue.length < 8 →
            ∃ e ∈ t.line.queue, e.frame = mark ∧ e.inFlight = false) ∧
          (due → ∀ e, (s.line.queue.find? fun e => e.frame.isMark) = some e →
            (e.inFlight = false → { e with frame := mark } ∈ t.line.queue) ∧
            (e.inFlight = true → t.line.queue = s.line.queue ∧ mark ∈ t.line.followOn)))) ∧
    (s.phase.phi < s.phase.len ∨ s.seat.stage = .loading → exec .wrap s = .next s) ∧
    (s.seat.stage ≠ .joined → markDecision q s = s) ∧
    (s.seat.stage = .joined → (∃ m, s.phase.lastMark = some m ∧ s.now - m ≤ q) → markDecision q s = s) ∧
    (s.seat.stage = .joined → (∀ m, s.phase.lastMark = some m → q < s.now - m) →
      markDecision q s = offer (.mark s.phase.period s.phase.duty none) s) ∧
    takeWrap s = wrapGates (markDecision s.phase.abandon
      { s with
        phase := s.phase.wrapped
        lamps :=
          { s.lamps with
            channels := s.lamps.channels.map fun c => { c with sampled := c.sampled && c.steady.isSome } }
        line := { s.line with reception := s.line.reception.map (Reception.carried s.phase.len) } })

/-- A valid MARK sets the last-MARK time and withdraws the own pending MARK in every stage, applied or not (R56, R58); outside SYNC and
JOINED, or where the cycle has had its MARK already, it does nothing more (R61), but that in LISTEN one from position 1 sets the
position-1-heard flag (R7), and that a MARK with no Start noted before it counts one use of the free value (MODEL'S CHOICE, log 6). That
LOADING is one of these stages is the MODEL'S CHOICE (log 37), for R50 has that time at none until load done. The other events of the phase:
the own MARK gone stale (R55), the SYNC timer's expiry (R66), an edge of a lit part (R87, R95). Entering JOINED stops the SYNC timer, sets
the own entry's stage, takes the entry decision, queues STAGE JOINED with the note that results, and then acts on the re-announcement-due
flag (R22, R46). MODEL'S CHOICES too: an expiry is taken when the command gives it (log 3), and the own entry is JOINED also where a full
queue drops STAGE JOINED as it is offered (log 55); and MARK_STALE takes a pending MARK whatever φ is, also one that has returned from in
flight with φ past Q (log 62). -/
def Obligations.MarkHeardAnywhere : Prop :=
  (∀ (s : State) (n : Nibble) (period : Half) (duty : Byte) (lag : Half), s.power = .running →
    (1 ≤ n.toNat → n.toNat ≤ 8 → 500 ≤ period.toNat → period.toNat ≤ 1000 →
      30 ≤ duty.toNat → duty.toNat ≤ 70 → lag.toNat < s.phase.period →
      (∃ t, exec (.markReceived n period duty lag) s = .next t ∧ t.phase.lastMark = some s.now ∧
        ∀ e ∈ t.line.queue, e.frame.isMark = true → e.inFlight = true) ∧
      (s.phase.marked = true ∨ (s.seat.stage ≠ .sync ∧ s.seat.stage ≠ .joined) →
        ∃ t, exec (.markReceived n period duty lag) s = .next t ∧
          t.phase = { s.phase with lastMark := some s.now } ∧
          t.primary = State.primary
            { s with
              phase := t.phase, line := s.line.heard 1 n.toNat (markBytes period duty lag)
              seat :=
                { s.seat with pos1Heard := s.seat.pos1Heard || (s.seat.stage == .listen && n.toNat == 1) }
              freeCount := if s.line.reception = none then s.freeCount + 1 else s.freeCount } ∧
          t.seat.stage = s.seat.stage)) ∧
    (s.markPending = true → ∃ t, exec .markStale s = .next t ∧
      (∀ e ∈ t.line.queue, e.frame.isMark = true → e.inFlight = true) ∧ t.primary = s.primary) ∧
    (s.seat.stage = .sync → s.phase.syncTimer.isRunning = true →
      exec .syncTimerExpiry s =
        .next (settle (enterJoined { s with phase := { s.phase with lock := .own, quiet := 3 } })) ∧
      ∃ t, exec .syncTimerExpiry s = .next t ∧ t.seat.stage = .joined ∧
        t.phase = { s.phase with lock := .own, quiet := 3, syncTimer := .stopped }) ∧
    (s.seat.stage ≠ .loading → exec .litPartEdge s = .next (settle s))) ∧
  ∀ u : State,
    (let v := entryDecision
      { u with
        seat := { u.seat with stage := .joined }
        phase := { u.phase with syncTimer := .stopped }
        roster :=
          { u.roster with
            entries := Table.modify u.roster.entries u.seat.ownSeat fun e => { e with stage := .joined } } }
     enterJoined u = actOnDue (offer (.stageJoined v.ownNote) v)) ∧
    (u.roster.due = true → u.seat.stage = .joined → u.line.mute = false →
      actOnDue u = runSequence .announce { u with roster := { u.roster with due := false } }) ∧
    (u.roster.due = false ∨ u.seat.stage ≠ .joined ∨ u.line.mute = true → actOnDue u = u)

/-- A MARK applied in JOINED slews by at most S, counts a slip beyond it, sets the lock status by the error and notes a
differing period or duty for the next wrap (R63); where φ is still below the new L, nothing else of the phase changes, and where it is
not, the wrap is taken at once and applies the adoption (R64, R65). A MARK applied in SYNC adopts its period and duty, steps the
station onto the sender's phase unclamped, and brings JOINED (R62); φ ends below L (R65). A MARK with no Start noted before it has the
free value as the phase at its mark instant, and all this holds whatever that value is (log 6). -/
def Obligations.MarkCorrectsPhase : Prop :=
  ∀ (s : State) (n : Nibble) (period : Half) (duty : Byte) (lag : Half), s.power = .running →
    1 ≤ n.toNat → n.toNat ≤ 8 → s.phase.marked = false →
    500 ≤ period.toNat → period.toNat ≤ 1000 → 30 ≤ duty.toNat → duty.toNat ≤ 70 → lag.toNat < s.phase.period →
    let phiR := (s.line.reception.map Reception.phase).getD (Config.freeInstant s.freeCount)
    (s.seat.stage = .joined →
      let e := phaseError phiR lag.toNat s.phase.period
      let c := max (-(s.phase.slew : Int)) (min (s.phase.slew : Int) e)
      let slip := if s.phase.slew < e.natAbs ∧ s.phase.slip < 65535 then s.phase.slip + 1 else s.phase.slip
      ((s.phase.phi : Int) < (s.phase.period : Int) + c →
        ∃ t, exec (.markReceived n period duty lag) s = .next t ∧
          t.phase =
            { s.phase with
              len := ((s.phase.period : Int) + c).toNat
              slip := slip
              lock := if e.natAbs ≤ 4 then .locked else .slewing
              quiet := 0
              adoption :=
                if period.toNat = s.phase.period ∧ duty.toNat = s.phase.duty then none
                else some (period.toNat, duty.toNat)
              marked := true
              lastMark := some s.now } ∧
          t.seat.stage = .joined) ∧
      ((s.phase.period : Int) + c ≤ (s.phase.phi : Int) →
        ∃ t, exec (.markReceived n period duty lag) s = .next t ∧
          t.phase =
            { s.phase with
              phi := (((s.phase.phi : Int) - ((s.phase.period : Int) + c)) % (period.toNat : Int)).toNat
              len := period.toNat
              period := period.toNat
              duty := duty.toNat
              slip := slip
              lock := if e.natAbs ≤ 4 then .locked else .slewing
              quiet := 0
              adoption := none
              marked := false
              lastMark := some s.now } ∧
          t.seat.stage = .joined ∧ (∀ f ∈ t.line.queue, f.frame.isMark = true → f.inFlight = true))) ∧
    (s.seat.stage = .sync →
      let e := phaseError phiR lag.toNat period.toNat
      ∃ t, exec (.markReceived n period duty lag) s = .next t ∧ t.seat.stage = .joined ∧
        t.phase.period = period.toNat ∧ t.phase.duty = duty.toNat ∧ t.phase.syncTimer = .stopped ∧
        t.phase.lock = (if e.natAbs ≤ 4 then .locked else .slewing) ∧ t.phase.quiet = 0 ∧ t.phase.adoption = none ∧
        t.phase.slip = s.phase.slip ∧ t.phase.phi < t.phase.len ∧
        ((s.phase.phi : Int) < (period.toNat : Int) + e →
          t.phase.phi = s.phase.phi ∧ t.phase.len = ((period.toNat : Int) + e).toNat ∧ t.phase.marked = true) ∧
        ((period.toNat : Int) + e ≤ (s.phase.phi : Int) →
          (t.phase.phi : Int) = ((s.phase.phi : Int) - ((period.toNat : Int) + e)) % (period.toNat : Int) ∧
          t.phase.len = period.toNat ∧ t.phase.marked = false))

/-! ### Demands (chapter 4) -/

/-- The demand inputs: a STEADY input places its target while asserted (R74), a FLASHER's fall starts its hold timer and its rise stops it
(R74), a BODY-SWITCH's press is a START or a STOP by the channel's state, with tag 0 (R75), an UNUSED one's level is kept (R76); the hold
timer's expiry stops it, an entry's expiry removes it at 350 ms of age and not after a receipt (R82), the repeat timer's expiry queues a
DEMAND with the own contribution (R78, R79). A DEMAND received inserts or replaces the entry at its sender with age 0, or with the
withdraw flag removes it, in every stage (R81). MODEL'S CHOICES: the hold and repeat timers' expiries are taken when the command gives
them, and an event the state excludes changes nothing (log 3); the repeat timer restarts also where a full queue drops the DEMAND as it is
offered (log 55); and the judgements follow each effect in the order of log 32. -/
def Obligations.DemandEventsTaken : Prop :=
  ∀ (s : State) (n : Nat) (level : Bool) (p : Nibble) (m f : Byte), s.power = .running → 1 ≤ n → n ≤ 8 →
    let lev := { s with demand := { s.demand with levels := modNth s.demand.levels n fun _ => level } }
    (s.seat.stage ≠ .loading → s.dinLevel n ≠ level →
      (s.dinCfg n = .unused ∨ (∃ m, s.dinCfg n = .steady m) →
        exec (.demandInputChange n level) s = .next (settle lev)) ∧
      ((∃ m, s.dinCfg n = .flasher m) →
        exec (.demandInputChange n level) s =
          .next (settle
            { lev with
              demand :=
                { lev.demand with
                  holds := modNth lev.demand.holds n fun _ => if level = true then .stopped else .running 0 1200 } })) ∧
      (∀ c, s.dinCfg n = .bodySwitch c →
        exec (.demandInputChange n level) s =
          .next (settle
            (if level = false then lev
            else if (s.bodyChannel c).running = true then bodyStop c 0 lev else bodyStart c 0 lev)))) ∧
    (s.holdRuns n = true →
      exec (.flasherHoldExpiry n) s =
        .next (settle { s with demand := { s.demand with holds := modNth s.demand.holds n fun _ => .stopped } })) ∧
    (∀ e, Table.get s.demand.table n = some e → 350 ≤ e.age → ∃ t, exec (.demandEntryExpiry n) s = .next t ∧
      Table.get t.demand.table n = none ∧
      (∀ q, q ≠ n → Table.get t.demand.table q = Table.get s.demand.table q) ∧
      t.primary = State.primary { s with demand := { s.demand with table := t.demand.table } }) ∧
    ((∀ e, Table.get s.demand.table n = some e → e.age < 350) → exec (.demandEntryExpiry n) s = .next s) ∧
    (s.serving = true → s.demand.repeatTimer.isRunning = true →
      exec .demandRepeatExpiry s =
        .next (settle (offer (.demand s.demand.own s.loader.profile.origin false)
          { s with demand := { s.demand with repeatTimer := .running 0 100 } }))) ∧
    (1 ≤ p.toNat → p.toNat ≤ 8 → ∃ t, exec (.demandReceived p m f) s = .next t ∧
      Table.get t.demand.table p.toNat =
        (if bitOf f 4 = true then none
        else some { set := demandOf m f, origin := bitOf f 5, age := 0 }) ∧
      (∀ q, q ≠ p.toNat → Table.get t.demand.table q = Table.get s.demand.table q) ∧
      t.primary = State.primary
        { s with
          demand := { s.demand with table := t.demand.table }, line := s.line.heard 0 p.toNat [m, f]
          seat := { s.seat with pos1Heard := s.seat.pos1Heard || (s.seat.stage == .listen && p.toNat == 1) } } ∧
      t.seat.stage = s.seat.stage)

/-- The own contribution holds what the inputs place in it and HAZARD while a hazard-raising body channel runs (R74, R77, R161); a
change of it, and each change of the hazard part, which is taken as one also where an input places HAZARD too (R161), and nothing else, is
sent as R78 and R79 say: by an origin station always, by another while it has
something to ask for and once, with the withdraw flag, when it ceases to. A member is in the effective demand exactly where
the own contribution or some table entry holds it, or fallback supplies it: TAIL always, STOP while the brake-pressure state
is ON (R83, R84, R85). The flash gates: asked for in JOINED one is ARMED until a wrap, a RUNNING one released in a lit part is ENDING and
asked for again RUNNING, released outside it OFF, and outside JOINED every gate is OFF (R86, R87). The tell-tale (R89, R90). MODEL'S
CHOICE: the repeat timer and the sending state change also where a full queue drops the DEMAND as it is offered (log 55). -/
def Obligations.DemandsMerged : Prop :=
  ∀ (s : State) (m : Member),
    (let h := { s with demand := { s.demand with hazard := s.hazardDue } }
     (s.hazardDue = s.demand.hazard → h.contribution = s.demand.own → judgeOwn s = s) ∧
     (s.hazardDue ≠ s.demand.hazard ∨ h.contribution ≠ s.demand.own →
       judgeOwn s = sendChange { h with demand := { h.demand with own := h.contribution } }) ∧
     (h.contribution.has m = true ↔
       (∃ n d l t, nth s.loader.profile.dins n = some d ∧ nth s.demand.levels n = some l ∧
         nth s.demand.holds n = some t ∧
         ((d = .steady m ∧ l = true) ∨ (d = .flasher m ∧ (l = true ∨ t.isRunning = true)))) ∨
       (m = .hazard ∧ s.hazardDue = true)) ∧
     (s.hazardDue = true ↔ ∃ n c b, nth s.loader.profile.bodies n = some c ∧ nth s.body.channels n = some b ∧
       c.hazardRaising = true ∧ b.running = true)) ∧
    (s.serving = false → sendChange s = s) ∧
    (s.serving = true → s.loader.profile.origin = true →
      sendChange s = offer (.demand s.demand.own true false)
        { s with demand := { s.demand with repeatTimer := .running 0 100 } }) ∧
    (s.serving = true → s.loader.profile.origin = false → s.demand.own ≠ .empty →
      sendChange s = offer (.demand s.demand.own false false)
        { s with demand := { s.demand with repeatTimer := .running 0 100, active := true } }) ∧
    (s.serving = true → s.loader.profile.origin = false → s.demand.own = .empty → s.demand.active = true →
      sendChange s = offer (.demand .empty false true)
        { s with demand := { s.demand with repeatTimer := .stopped, active := false } }) ∧
    (s.serving = true → s.loader.profile.origin = false → s.demand.own = .empty → s.demand.active = false →
      sendChange s = s) ∧
    ((settle s).demand.eff.has m = true ↔
      (settle s).demand.own.has m = true ∨ (∃ e ∈ s.demand.table, e.2.set.has m = true) ∨
      ((settle s).demand.fallback = true ∧ (m = .tail ∨ (m = .stop ∧ s.brakeOn = true)))) ∧
    ((settle s).demand.fallback = true ↔
      (s.seat.stage = .sync ∨ s.seat.stage = .joined) ∧ s.loader.profile.origin = false ∧
      ∀ e ∈ s.demand.table, e.2.origin = false) ∧
    (let d := (settle s).demand
     ∀ x ∈ [(s.demand.gateL, d.gateL, d.eff.turnL || d.eff.hazard, s.phase.singleLit),
         (s.demand.gateR, d.gateR, d.eff.turnR || d.eff.hazard, s.phase.singleLit),
         (s.demand.gateB, d.gateB, d.eff.beacon, s.phase.doubleLit)],
       let before := x.1
       let after := x.2.1
       let asked := x.2.2.1
       let lit := x.2.2.2
       (s.seat.stage ≠ .joined → after = .off) ∧
       (s.seat.stage = .joined →
         (before = .off ∨ before = .armed → after = if asked = true then .armed else .off) ∧
         (before = .running ∨ before = .ending →
           after = if asked = true then .running else if lit = true then .ending else .off))) ∧
    (s.ttPin = true ↔ s.power = .running ∧ s.seat.stage = .joined ∧
      (s.demand.eff.turnL = true ∨ s.demand.eff.turnR = true ∨ s.demand.eff.hazard = true) ∧
      (if s.ttDouble = true then
        s.phase.phi < s.phase.onTime / 2 ∨
          (s.phase.period / 2 ≤ s.phase.phi ∧ s.phase.phi < s.phase.period / 2 + s.phase.onTime / 2)
      else s.phase.phi < s.phase.onTime)) ∧
    (s.ttDouble = true ↔
      ((s.demand.eff.turnL = true ∨ s.demand.eff.hazard = true) ∧
        ∃ e ∈ s.roster.entries, ∃ f, e.2.fault = some f ∧ f.sides.left = true) ∨
      ((s.demand.eff.turnR = true ∨ s.demand.eff.hazard = true) ∧
        ∃ e ∈ s.roster.entries, ∃ f, e.2.fault = some f ∧ f.sides.right = true))

/-! ### Lamp channels (chapter 5) -/

/-- Classification: the supply window (R106), the normalised current against the bounds (R107), the trip level (R91), both quotients rounded
down. A service sample of a lit channel at its instant is recorded and taken by class, or recorded as SKIPPED where the supply lies outside
its window (R106), once at each instant of its steady timer (R109) or in each flash cycle (R110): an instant once used gives no other
sample, and one reached while the health is SHORT is used up with none. That a sample is taken at these instants only, and of a dark channel
never, is DEDUCED (log 5), as is that the mark of a used instant, the model's own, tells them apart: at another instant, of a used one, of
a dark channel, in CHECKING and by the command of the other class of channel nothing changes. That the judgements follow is log 32, and
that a raw current at or above the trip level is classified like any other log 66 (MODEL'S CHOICES). Against the health and the sample run,
three agreeing samples move the health, and a move to GOOD clears the retry count (R111). A move of the health clears the fault of the old
value, but the latched LAMP-LOCKED, and raises that of the new one with its severity, in that order (R116), and then clears REAR-DEFICIENT
where the rear group has become complete (R132; that it comes last is the MODEL'S CHOICE, log 40). -/
def Obligations.SamplesTaken : Prop :=
  ∀ (s : State) (n i v : Nat) (cfg : LampCfg) (vn : Nat) (k : SampleClass),
    ((supplyInWindow 12000 v = true ↔ 9000 ≤ v ∧ v ≤ 16000) ∧
      (supplyInWindow 24000 v = true ↔ 18000 ≤ v ∧ v ≤ 32000)) ∧
    (0 < v → 0 < vn →
      let x := normalised cfg.kind vn i v
      (cfg.kind = .filament → x * v ≤ i * vn ∧ i * vn < (x + 1) * v) ∧
      (cfg.kind = .led → x * vn ≤ i * v ∧ i * v < (x + 1) * vn) ∧
      (classify cfg vn i v = .openCircuit ↔ x < cfg.imin) ∧
      (cfg.imin ≤ cfg.imax → (classify cfg vn i v = .overload ↔ cfg.imax < x)) ∧
      (cfg.imin ≤ cfg.imax → (classify cfg vn i v = .good ↔ cfg.imin ≤ x ∧ x ≤ cfg.imax))) ∧
    (tripLevel i ≤ 10000 ∧ tripLevel i * 2 ≤ i * 5 ∧
      (4000 ≤ i → tripLevel i = 10000) ∧ (i < 4000 → i * 5 < (tripLevel i + 1) * 2)) ∧
    (s.power = .running → 1 ≤ n → n ≤ 12 →
      let used := modChannel n (fun c => { c with sampled := true }) s
      let taken := .next (settle
        (if (s.channel n).health = .short then used
        else if supplyInWindow s.loader.profile.vn v = true then
          takeClass n (classify (s.lampCfg n) s.loader.profile.vn i v)
            (recordSample n i v (classify (s.lampCfg n) s.loader.profile.vn i v).outcome used)
        else recordSample n i v .skipped used))
      ((s.functionOf n).isFlash = false → (s.channel n).lit = true → (s.channel n).sampled = false →
        s.seat.stage ≠ .checking →
        (∃ m, (s.channel n).steady = some m ∧ 200 ≤ m ∧ m % 100 = 0) →
        exec (.steadySample n i v) s = taken) ∧
      (s.seat.stage = .joined → (s.channel n).lit = true → (s.channel n).sampled = false →
        ((s.functionOf n = .turnL ∨ s.functionOf n = .turnR) ∧ s.phase.phi = s.phase.onTime / 2 ∨
          s.functionOf n = .beacon ∧ s.phase.phi = s.phase.burst / 2) →
        exec (.flashSample n i v) s = taken) ∧
      ((s.channel n).lit = false ∨ (s.channel n).sampled = true →
        exec (.steadySample n i v) s = .next s ∧ exec (.flashSample n i v) s = .next s) ∧
      ((s.functionOf n).isFlash = true ∨ s.seat.stage = .checking ∨ (s.channel n).steady = none ∨
          (∃ m, (s.channel n).steady = some m ∧ (m < 200 ∨ m % 100 ≠ 0)) →
        exec (.steadySample n i v) s = .next s) ∧
      (s.seat.stage ≠ .joined ∨ (s.functionOf n).isFlash = false ∨
          ((s.functionOf n = .turnL ∨ s.functionOf n = .turnR) ∧ s.phase.phi ≠ s.phase.onTime / 2) ∨
          (s.functionOf n = .beacon ∧ s.phase.phi ≠ s.phase.burst / 2) →
        exec (.flashSample n i v) s = .next s) ∧
      ((s.functionOf n).isFlash = true ↔
        s.functionOf n = .turnL ∨ s.functionOf n = .turnR ∨ s.functionOf n = .beacon)) ∧
    (∀ c, nth s.lamps.channels n = some c → ∀ h : Health,
      let f := s.functionOf n
      let moved := modChannel n (fun c => { c with health := h, run := none }) s
      let cleared :=
        match c.health with
        | .openCircuit => clearFault .lampOpen n moved
        | .overload => clearFault .lampOverload n moved
        | .short => clearFault .lampShort n moved
        | .untested | .good | .locked => moved
      let raised :=
        match h with
        | .openCircuit => raiseFault .lampOpen n (if f = .work ∨ f = .beacon then 1 else 2) cleared
        | .overload => raiseFault .lampOverload n 2 cleared
        | .short => raiseFault .lampShort n 2 cleared
        | .locked => raiseFault .lampLocked n 3 cleared
        | .untested | .good => cleared
      (h = c.health → setHealth n h s = s) ∧
      (h ≠ c.health →
        (s.rearComplete = false → moved.rearComplete = true → setHealth n h s = clearFault .rearDeficient 0 raised) ∧
        (s.rearComplete = true ∨ moved.rearComplete = false → setHealth n h s = raised) ∧
        (∀ e ∈ [(Health.openCircuit, FaultCode.lampOpen), (.overload, .lampOverload), (.short, .lampShort)],
          c.health = e.1 → (setHealth n h s).hasFault e.2 n = false) ∧
        (∀ e ∈ [(Health.openCircuit, FaultCode.lampOpen), (.overload, .lampOverload), (.short, .lampShort),
            (.locked, .lampLocked)],
          h = e.1 → s.faults.list.length < 8 → (setHealth n h s).hasFault e.2 n = true))) ∧
    (∀ c, nth s.lamps.channels n = some c →
      (k.health = c.health ∨ (∀ m, c.run = some (k, m) → m = 1) →
        { takeClass n k s with lamps := s.lamps } = s) ∧
      (k.health ≠ c.health → c.run = some (k, 2) →
        (k ≠ .good → takeClass n k s = setHealth n k.health s) ∧
        (k = .good →
          takeClass n k s = modChannel n (fun c => { c with retry := 0 }) (setHealth n k.health s))) ∧
      (k.health = c.health → (takeClass n k s).channel n = { c with run := none }) ∧
      (k.health ≠ c.health → (∀ m, c.run ≠ some (k, m)) →
        (takeClass n k s).channel n = { c with run := some (k, 1) }) ∧
      (k.health ≠ c.health → c.run = some (k, 1) → (takeClass n k s).channel n = { c with run := some (k, 2) }) ∧
      (k.health ≠ c.health → c.run = some (k, 2) →
        (takeClass n k s).channel n =
          { c with health := k.health, run := none, retry := if k = .good then 0 else c.retry }) ∧
      (∀ m, m ≠ n → (takeClass n k s).channel m = s.channel m))

/-- A trip of a driven channel in service: SHORT and a rest of 2,000 ms below a retry count of 3 (R112), LOCKED at 3 (R115), with the
lamp faults of the move (R116); a current below the trip level is no trip (R108): that a trip is taken only where the channel is lit and at
that level, in every stage, so that one of a dark channel changes nothing, is DEDUCED (log 5). MODEL'S CHOICES: REAR-DEFICIENT goes last
where it goes in the same event (log 40), and the judgements come after (log 32). -/
def Obligations.TripsTakenInService : Prop :=
  ∀ (s : State) (n i : Nat), s.power = .running → 1 ≤ n → n ≤ 12 →
    ∀ c, nth s.lamps.channels n = some c →
    (s.seat.stage ≠ .checking → c.lit = true → tripLevel (s.lampCfg n).imax ≤ i → c.retry < 3 →
      exec (.lampTrip n i) s =
        .next (settle (raiseFault .lampShort n 2 (setHealth n .short
          (modChannel n
            (fun c =>
              { c with
                lit := false, steady := none, run := none, short := .resting, rest := .running 0 2000
                proving := .stopped })
            s)))) ∧
      ∃ t, exec (.lampTrip n i) s = .next t ∧
      t.channel n =
        { c with
          health := .short, run := none, short := .resting, rest := .running 0 2000, proving := .stopped
          steady := none, lit := false } ∧
      (s.faults.list.length < 8 → t.hasFault .lampShort n = true) ∧ t.phase = s.phase ∧
      t.demand.table = s.demand.table ∧ t.seat.stage = s.seat.stage) ∧
    (s.seat.stage ≠ .checking → c.lit = true → tripLevel (s.lampCfg n).imax ≤ i → 3 ≤ c.retry →
      exec (.lampTrip n i) s =
        .next (settle (setHealth n .locked
          (modChannel n
            (fun c =>
              { c with
                lit := false, steady := none, run := none, short := .none, rest := .stopped, proving := .stopped })
            s))) ∧
      ∃ t, exec (.lampTrip n i) s = .next t ∧
      (t.channel n).lit = false ∧ (t.channel n).short = .none ∧ (t.channel n).rest = .stopped ∧
      (t.channel n).proving = .stopped ∧ (t.channel n).steady = none ∧ (t.channel n).retry = c.retry ∧
      (t.channel n).health = .locked ∧
      (c.health ≠ .locked → s.faults.list.length < 8 →
        t.hasFault .lampLocked n = true ∧ (c.health = .short → t.hasFault .lampShort n = false))) ∧
    (c.lit = false ∨ i < tripLevel (s.lampCfg n).imax → exec (.lampTrip n i) s = .next s)

/-- The end of a rest and of a trial: a resting channel called for is re-driven at once, counting one retry, one not called
for waits dark (R113); a trial that ends without a trip leaves the channel UNTESTED with LAMP-SHORT cleared (R114). That the expiries are
taken when the command gives them is the MODEL'S CHOICE (log 3). -/
def Obligations.RestAndTrialEnd : Prop :=
  ∀ (s : State) (n : Nat), s.power = .running → Settled s → 1 ≤ n → n ≤ 12 →
    ∀ c, nth s.lamps.channels n = some c → c.health ≠ .locked →
    (c.short = .resting → c.rest.isRunning = true → s.calledFor n = true →
      ∃ t, exec (.restTimerExpiry n) s = .next t ∧ (t.channel n).lit = true ∧ (t.channel n).short = .proving ∧
        (t.channel n).proving = .running 0 200 ∧ (t.channel n).rest = .stopped ∧
        (t.channel n).retry = (if c.retry < 3 then c.retry + 1 else c.retry) ∧
        (t.channel n).health = c.health) ∧
    (c.short = .resting → c.rest.isRunning = true → s.calledFor n = false →
      ∃ t, exec (.restTimerExpiry n) s = .next t ∧ (t.channel n).lit = false ∧ (t.channel n).short = .waiting ∧
        (t.channel n).rest = .stopped ∧ (t.channel n).retry = c.retry ∧ (t.channel n).health = c.health) ∧
    (c.short = .proving → c.proving.isRunning = true → c.health = .short →
      ∃ t, exec (.provingTimerExpiry n) s = .next t ∧ (t.channel n).health = .untested ∧
        (t.channel n).short = .none ∧ (t.channel n).proving = .stopped ∧ (t.channel n).retry = c.retry ∧
        (t.channel n).lit = c.lit ∧ t.hasFault .lampShort n = false)

/-- The circuit check: a pulse ends at 20 ms with one sample, OPEN below Imin and GOOD otherwise (R101); a trip ends it with the channel
resting and a retry count of 0 (R102); a turn's end, at 50 ms, starts the next channel's pulse, and the last turn's end queues STAGE
CHECKED with the results, puts them into the own entry, and enters SYNC (R20, R103). Entering SYNC clears the fallback marker, starts the
SYNC timer at 3 × P (R66), begins DEMAND sending (R21, R78, R79), queues REPORT COUNTS and, with an analog input in use, REPORT ANALOG
(R146, R147), then a FAULT frame for each entry of the fault list (R191), and at seat 8 judges COMBINATION-FULL (R13). MODEL'S CHOICES:
that order (log 42), with the judgements last (log 32); the own entry is CHECKED with its summary and SYNC follows, and the DEMAND, COUNTS
and ANALOG timers start and the sending state is ACTIVE, also where a full queue drops the frame as it is offered (log 55); and a trip is
taken only of a lit channel at its trip level, and of a dark one nothing changes (DEDUCED, log 5). The sample and the trip move the health
with its lamp faults and REAR-DEFICIENT (R116, R132; their order is log 40), and a sample's raw current at or above the trip level is no trip
by itself (MODEL'S CHOICE, log 66). -/
def Obligations.CheckRuns : Prop :=
  (∀ (s : State) (n i v : Nat), s.power = .running → s.seat.stage = .checking →
    ∀ k, s.lamps.check = some k → k.todo.head? = some n → ∀ c, nth s.lamps.channels n = some c →
    (k.pulse = false ∨ k.turn < 20 → exec (.checkPulseEnd i v) s = .next s) ∧
    (k.pulse = true ∨ k.turn < 50 → exec .checkTurnEnd s = .next s) ∧
    (k.pulse = true → 20 ≤ k.turn → supplyInWindow s.loader.profile.vn v = true →
      ∃ t, exec (.checkPulseEnd i v) s = .next t ∧ (t.channel n).lit = false ∧
        (t.channel n).health =
          (if normalised (s.lampCfg n).kind s.loader.profile.vn i v < (s.lampCfg n).imin then .openCircuit
          else .good) ∧
        ((t.channel n).last.map LastSample.current) = some i ∧
        t.lamps.check = some { k with pulse := false } ∧ t.seat.stage = .checking ∧
        let low := normalised (s.lampCfg n).kind s.loader.profile.vn i v < (s.lampCfg n).imin
        let u := setHealth n (if low then .openCircuit else .good)
          (recordSample n i v (if low then .openCircuit else .good) s)
        t = settle { u with lamps := { u.lamps with check := some { k with pulse := false } } }) ∧
    (k.pulse = true → 20 ≤ k.turn → supplyInWindow s.loader.profile.vn v = false →
      ∃ t, exec (.checkPulseEnd i v) s = .next t ∧ (t.channel n).lit = false ∧ (t.channel n).health = c.health ∧
        (t.channel n).last = some { current := i, supply := v, outcome := .skipped } ∧
        t.lamps.check = some { k with pulse := false }) ∧
    (k.pulse = true → c.lit = true → 1 ≤ n → n ≤ 12 → tripLevel (s.lampCfg n).imax ≤ i →
      ∃ t, exec (.lampTrip n i) s = .next t ∧ (t.channel n).lit = false ∧ (t.channel n).health = .short ∧
        (t.channel n).retry = 0 ∧ (t.channel n).short = .resting ∧ (t.channel n).rest = .running 0 2000 ∧
        t.lamps.check = some { k with pulse := false } ∧
        (s.faults.list.length < 8 → t.hasFault .lampShort n = true) ∧
        let u := raiseFault .lampShort n 2 (setHealth n .short
          (modChannel n
            (fun c =>
              { c with
                retry := 0, lit := false, steady := none, run := none, short := .resting, rest := .running 0 2000
                proving := .stopped })
            s))
        t = settle { u with lamps := { u.lamps with check := some { k with pulse := false } } }) ∧
    (c.lit = false ∨ i < tripLevel (s.lampCfg n).imax → 1 ≤ n → n ≤ 12 → exec (.lampTrip n i) s = .next s) ∧
    (k.pulse = false → 50 ≤ k.turn → k.todo.tail ≠ [] → ∃ t, exec .checkTurnEnd s = .next t ∧ t.seat.stage = .checking ∧
      t.lamps.check = some { todo := k.todo.tail, turn := 0, pulse := true }) ∧
    (k.pulse = false → 50 ≤ k.turn → k.todo.tail = [] → ∃ t, exec .checkTurnEnd s = .next t ∧ t.seat.stage = .sync ∧
      t.lamps.check = none ∧ t.phase.syncTimer = .running 0 (3 * s.phase.period) ∧ t.phase.marked = false ∧
      ((Table.get s.roster.entries s.seat.ownSeat).isSome = true →
        (Table.get t.roster.entries s.seat.ownSeat).map (fun e => (e.stage, e.check)) =
          some (.checked, some s.checkResults)) ∧
      (let r := s.checkResults
       let u := offer (.stageChecked r.good r.failed r.complete) { s with lamps := { s.lamps with check := none } }
       exec .checkTurnEnd s =
         .next (settle (enterSync
           { u with
             roster :=
               { u.roster with
                 entries :=
                   Table.modify u.roster.entries s.seat.ownSeat fun e =>
                     { e with stage := .checked, check := some r } } }))))) ∧
  ∀ u : State,
    enterSync u =
      judgeFull (queueListedFaults (queueAnalog (queueCounts (beginDemand
        { u with
          seat := { u.seat with stage := .sync, fallbackMark := false }
          phase := { u.phase with marked := false, syncTimer := .running 0 (3 * u.phase.period) } })))) ∧
    (u.loader.profile.origin = true →
      beginDemand u = offer (.demand u.demand.own true false)
        { u with demand := { u.demand with repeatTimer := .running 0 100 } }) ∧
    (u.loader.profile.origin = false → u.demand.own ≠ .empty →
      beginDemand u = offer (.demand u.demand.own false false)
        { u with demand := { u.demand with repeatTimer := .running 0 100, active := true } }) ∧
    (u.loader.profile.origin = false → u.demand.own = .empty → beginDemand u = u) ∧
    (u.serving = true →
      queueCounts u = offer (.reportCounts none)
        { u with
          sensor :=
            { u.sensor with
              countsTimer := .running 0
                (if u.sensor.moving = true then min u.loader.profile.report 500 else u.loader.profile.report) } } ∧
      ((∃ a ∈ u.loader.profile.analog, a.inUse = true) →
        queueAnalog u = offer (.reportAnalog none)
          { u with sensor := { u.sensor with analogTimer := .running 0 u.loader.profile.report } }) ∧
      ((∀ a ∈ u.loader.profile.analog, a.inUse = false) → queueAnalog u = u) ∧
      queueListedFaults u =
        u.faults.list.foldl
          (fun w e => offer (.fault e.code e.subject e.severity true (summaryOf u u.faults.list)) w) u ∧
      (u.seat.ownSeat = 8 → u.seat.presIn = true → judgeFull u = raiseFault .combinationFull 0 1 u) ∧
      (u.seat.ownSeat ≠ 8 ∨ u.seat.presIn = false → judgeFull u = u))

/-- The check's results and the completeness of the rear group, by the health of the assigned channels: the good count is the
number of those GOOD, the failed count that of those OPEN, SHORT, UNTESTED or LOCKED, and together they make the number of assigned
channels where none is OVERLOAD (R103, R104). -/
def Obligations.CheckResultsCount : Prop :=
  ∀ s : State, s.loader.profile.lamps.length = s.lamps.channels.length →
    let numbers := (List.range s.lamps.channels.length).map fun k => k + 1
    (s.rearComplete = true ↔ ∀ f, f = .reverse ∨ f = .rearFog ∨ f = .plate →
      (∃ n ∈ numbers, s.functionOf n = f) ∧
      ∀ n ∈ numbers, s.functionOf n = f → (s.channel n).health = .good) ∧
    s.checkResults.complete = s.rearComplete ∧
    s.checkResults.good =
      (numbers.filter fun n => s.functionOf n != .unassigned && (s.channel n).health == .good).length ∧
    s.checkResults.failed =
      (numbers.filter fun n =>
        s.functionOf n != .unassigned &&
          ((s.channel n).health == .openCircuit || (s.channel n).health == .short ||
            (s.channel n).health == .untested || (s.channel n).health == .locked)).length ∧
    ((∀ c ∈ s.lamps.channels, c.health ≠ .overload) →
      s.checkResults.good + s.checkResults.failed =
        (s.loader.profile.lamps.filter fun c => c.function != .unassigned).length)

/-! ### The rear end (chapter 6) -/

/-- The entry decision on entering JOINED: a TAKE queued, or a DECLINE with the deficiency and then, with PRES-IN deasserted,
REAR-DEFICIENT (R122, R123, R124). At the Rear-End Logic a STAGE TAKE from behind ends a lighting status with a YIELD queued (R125), one
from in front is answered by a lighting station in JOINED with a TAKE queued (R126), and one of the own position does nothing; STAGE
DECLINE and STAGE YIELD (R127); an unseated station's takes none of them (R120). A function is in the deficiency set where no channel
serves it or one that does is not GOOD, and the set is empty exactly while the group is complete (R121). MODEL'S CHOICES: the own note becomes taken, declined or
yielded when the notice is offered, also where a full queue drops it (log 39), and DECLINE or YIELD is queued before REAR-DEFICIENT is
raised or cleared, with the judgements last (log 32). -/
def Obligations.RearEndDecides : Prop :=
  ∀ (s : State) (n : Nibble) (d : Byte),
    (∀ e ∈ [(LampFn.reverse, s.deficiency.reverse), (.rearFog, s.deficiency.rearFog), (.plate, s.deficiency.plate)],
      let serving := fun (c : Channel) =>
        ∃ m cfg, nth s.loader.profile.lamps m = some cfg ∧ nth s.lamps.channels m = some c ∧ cfg.function = e.1
      (e.2 = true ↔ (∀ c, ¬serving c) ∨ ∃ c, serving c ∧ c.health ≠ .good)) ∧
    (s.rearComplete = true ↔ s.deficiency = { reverse := false, rearFog := false, plate := false }) ∧
    (s.seated = true → (Table.get s.roster.entries s.seat.ownSeat).isSome = true →
      let t := entryDecision s
      let byPres : RearStatus :=
        if s.seat.presIn = false then .holder else if s.rear.neighbour = none then .pending else .retained
      (s.seat.ownSeat = 1 → t.rear.status = byPres ∧ t.ownNote = s.ownNote ∧ t.line = s.line ∧
        t.faults = s.faults) ∧
      (s.seat.ownSeat ≠ 1 → s.rearComplete = true → t.rear.status = byPres ∧ t.ownNote = .taken ∧
        t.line = (offer .stageTake s).line ∧ t.faults = s.faults) ∧
      (s.seat.ownSeat ≠ 1 → s.rearComplete = false → t.rear.status = s.rear.status ∧ t.ownNote = .declined ∧
        (let w := offer (.stageDecline s.deficiency) s
         (s.seat.presIn = true → t.line = w.line ∧ t.faults = s.faults) ∧
         (s.seat.presIn = false →
           t = raiseFault .rearDeficient 0 2 (modOwnEntry (fun e => { e with note := .declined }) w) ∧
           (s.faults.list.length < 8 → t.hasFault .rearDeficient 0 = true)))) ∧
      t.rear.neighbour = s.rear.neighbour ∧ t.seat = s.seat ∧ t.lamps = s.lamps ∧ t.phase = s.phase) ∧
    (s.power = .running → 1 ≤ n.toNat → n.toNat ≤ 8 →
      (s.seated = true → s.seat.ownSeat < n.toNat → ∃ t, exec (.stageTakeReceived n) s = .next t ∧
        t.rear.status = .none ∧ t.hasFault .rearDeficient 0 = false ∧
        t.rear.neighbour = (if n.toNat = s.seat.ownSeat + 1 then none else s.rear.neighbour) ∧
        (s.rear.status ≠ .none → (Table.get s.roster.entries s.seat.ownSeat).isSome = true →
          t.ownNote = .yielded) ∧
        (let w := noteEntry n.toNat .taken (frameHeard 5 n.toNat [3] s)
         let y := if s.rear.status = .none then w
           else modOwnEntry (fun e => { e with note := .yielded }) (offer .stageYield (setRear .none w))
         t = settle
           { clearFault .rearDeficient 0 y with
             rear :=
               { status := .none, neighbour := if n.toNat = s.seat.ownSeat + 1 then none else s.rear.neighbour } })) ∧
      (s.seated = true → n.toNat < s.seat.ownSeat → ∃ t, exec (.stageTakeReceived n) s = .next t ∧
        t.rear = s.rear ∧
        (let w := noteEntry n.toNat .taken (frameHeard 5 n.toNat [3] s)
         (s.seat.stage = .joined → s.rear.status ≠ .none →
           t = settle (modOwnEntry (fun e => { e with note := .taken }) (offer .stageTake w)) ∧
           ((Table.get s.roster.entries s.seat.ownSeat).isSome = true → t.ownNote = .taken)) ∧
         (s.seat.stage ≠ .joined ∨ s.rear.status = .none → t = settle w ∧ t.ownNote = s.ownNote))) ∧
      (s.seated = true → n.toNat = s.seat.ownSeat → ∃ t, exec (.stageTakeReceived n) s = .next t ∧
        t = settle (frameHeard 5 n.toNat [3] s) ∧ t.rear = s.rear ∧ t.ownNote = s.ownNote) ∧
      (s.seated = true → n.toNat = s.seat.ownSeat + 1 → ∃ t, exec (.stageDeclineReceived n d) s = .next t ∧
        t.rear.neighbour = some { reverse := bitOf d 0, rearFog := bitOf d 1, plate := bitOf d 2 } ∧
        t.rear.status = (if s.rear.status = .pending then .retained else s.rear.status)) ∧
      (s.seated = false ∨ n.toNat ≠ s.seat.ownSeat + 1 →
        ∃ t, exec (.stageDeclineReceived n d) s = .next t ∧ t.rear = s.rear) ∧
      (∃ t, exec (.stageYieldReceived n) s = .next t ∧ t.rear = s.rear) ∧
      (s.seated = false → ∃ t, exec (.stageTakeReceived n) s = .next t ∧ t.rear = s.rear))

/-! ### Sensors (chapter 7) -/

/-- The counts of a reading (R134): 0 at or below 0 mV, 1,023 at or above 5,000 mV, between them within one count of 1,023 over
5,000 mV, where the reading's own counts decide (MODEL'S CHOICE, log 7), so that 500 mV is 102 and 4,500 mV is 921. The scaled value:
offset plus the floor of counts times gain over 256, saturated to 16 signed bits (R135); the threshold
state judged from it (R136). A conversion, 20 ms after the one before, sets counts, value, threshold state and converted mark of every
input in use and leaves the others (R133, R134); a change of a threshold state queues REPORT ANALOG in SYNC and JOINED and restarts its
timer, whose expiry queues one too (R147). MODEL'S CHOICES too: one REPORT ANALOG where several inputs change in one conversion (log 60);
its timer restarts also where a full queue drops the frame as it is offered (log 55); its expiry is taken when the command gives it, and a
conversion at its 20 ms only (log 3); and the judgements come last (log 32). -/
def Obligations.ConversionTaken : Prop :=
  ∀ (s : State) (l : List AnalogSample) (cfg : AnalogCfg) (c : Nat) (v : Int) (before : Bool) (a : AnalogSample),
    ((a.millivolts ≤ 0 → countsOf a = 0) ∧ (5000 ≤ a.millivolts → countsOf a = 1023) ∧
      (a.millivolts = 500 → countsOf a = 102) ∧ (a.millivolts = 4500 → countsOf a = 921) ∧
      (0 < a.millivolts → a.millivolts < 5000 →
        countsOf a ≤ 1023 ∧ a.millivolts * 1023 - 5000 ≤ (countsOf a : Int) * 5000 ∧
        (countsOf a : Int) * 5000 ≤ a.millivolts * 1023 + 5000)) ∧
    scaled cfg c = max (-32768) (min 32767 (cfg.offset + Int.fdiv ((c : Int) * cfg.gain) 256)) ∧
    (cfg.offAt ≤ cfg.onAt →
      (cfg.onAt ≤ v → thresholdState cfg v before = true) ∧
      (v < cfg.offAt → thresholdState cfg v before = false) ∧
      (cfg.offAt ≤ v → v < cfg.onAt → thresholdState cfg v before = before)) ∧
    (s.power = .running → s.seat.stage ≠ .loading → s.sensor.conversion.isDue = true → l.length = 4 →
      s.loader.profile.analog.length = 4 → s.sensor.analogs.length = 4 →
      ∃ as, as.length = 4 ∧
        (∀ n cfg, nth s.loader.profile.analog n = some cfg → ∀ a, nth l n = some a →
          ∀ r, nth s.sensor.analogs n = some r →
          (cfg.inUse = false → nth as n = some r) ∧
          (cfg.inUse = true → nth as n = some
            { counts := countsOf a, value := scaled cfg (countsOf a),
              on := thresholdState cfg (scaled cfg (countsOf a)) r.on, converted := true })) ∧
        let u := { s with sensor := { s.sensor with conversion := .running 0 20, analogs := as } }
        exec (.analogConversion l) s =
          .next (settle
            (if as.map Analog.on ≠ s.sensor.analogs.map Analog.on ∧ s.serving = true then
              offer (.reportAnalog none)
                { u with sensor := { u.sensor with analogTimer := .running 0 s.loader.profile.report } }
            else u))) ∧
    (s.power = .running → s.seat.stage = .loading ∨ s.sensor.conversion.isDue = false →
      exec (.analogConversion l) s = .next s) ∧
    (s.power = .running → s.serving = true → s.sensor.analogTimer.isRunning = true → s.analogInUse = true →
      exec .analogTimerExpiry s = .next (settle (offer (.reportAnalog none)
        { s with sensor := { s.sensor with analogTimer := .running 0 s.loader.profile.report } })))

/-- A counted edge adds 1 to its counter and to no other, but for the carry of a cascaded pair; an edge of another direction,
or of an input not in use, counts nothing (R138, R139, R140). A second counted edge of a WHEEL input within its timer is
MOVING (R142), and in SYNC and JOINED that change of the own motion queues REPORT COUNTS and restarts its timer at the length it then has;
no other edge queues one (R146). MODEL'S CHOICES: the timer restarts also where a full queue drops the frame as it is offered (log 55), and
the judgements come last (log 32). -/
def Obligations.PulseEdgesCounted : Prop :=
  ∀ (s : State) (n : Nat) (level : Bool), s.power = .running → s.seat.stage ≠ .loading → 1 ≤ n →
    n ≤ 4 → s.cntLevel n ≠ level → s.sensor.levels.length = 4 → ∀ x, nth s.retention.counts n = some x →
    let p := s.pulseCfg n
    let counted := p.role ≠ .notInUse ∧ (p.edge = .both ∨ (p.edge = .rising ∧ level = true) ∨
      (p.edge = .falling ∧ level = false))
    ∃ t, exec (.pulseEdge n level) s = .next t ∧ t.cntLevel n = level ∧
      (counted → nth t.retention.counts n = some (x + 1)) ∧
      (counted → p.cascade = true → x = 65535 → ∀ y, nth s.retention.counts (n + 1) = some y →
        nth t.retention.counts (n + 1) = some (y + 1)) ∧
      (∀ m, m ≠ n → (m ≠ n + 1 ∨ p.cascade = false ∨ x ≠ 65535) →
        nth t.retention.counts m = nth s.retention.counts m) ∧
      (¬counted → t.retention.counts = s.retention.counts ∧ t.sensor.wheel = s.sensor.wheel ∧
        t.sensor.moving = s.sensor.moving) ∧
      (counted → p.role = .wheel → t.sensor.wheel = .running 0 1000 ∧
        t.sensor.moving = (s.sensor.moving || s.sensor.wheel.isRunning)) ∧
      (p.role ≠ .wheel → t.sensor.wheel = s.sensor.wheel ∧ t.sensor.moving = s.sensor.moving) ∧
      t.primary = State.primary
        { s with sensor := t.sensor, retention := { s.retention with counts := t.retention.counts } } ∧
      let u :=
        { s with
          sensor :=
            { s.sensor with
              levels := modNth s.sensor.levels n fun _ => level, wheel := t.sensor.wheel, moving := t.sensor.moving }
          retention := { s.retention with counts := t.retention.counts } }
      let starts := counted ∧ p.role = .wheel ∧ s.sensor.wheel.isRunning = true ∧ s.sensor.moving = false
      (starts → s.serving = true →
        t = settle (offer (.reportCounts none)
          { u with
            sensor := { u.sensor with countsTimer := .running 0 (min s.loader.profile.report 500) } })) ∧
      (¬starts ∨ s.serving = false → t = settle u)

/-- The wheel timer's expiry is STILL, and comes at the timer's length and not after an edge that has restarted it (R142); where the own
motion was MOVING, in SYNC and JOINED, it queues REPORT COUNTS and restarts its timer at the report period (R146). A report is
taken into the motion table (R143), an entry becomes stale at 1,500 ms of age and not after a receipt (R144), REPORT COUNTS is queued at
the COUNTS timer's expiry (R146), a REPORT ANALOG received changes nothing (R149). The combination motion view is MOVING exactly while the
own motion is, or a fresh entry of the motion table holds MOVING (R145). MODEL'S CHOICES: the COUNTS timer restarts also
where a full queue drops the REPORT COUNTS as it is offered (log 55); which expiries look at what has been counted, and that an event the
state excludes changes nothing (log 3); and the judgements come last (log 32). -/
def Obligations.MotionEventsTaken : Prop :=
  ∀ (s : State) (n : Nibble) (p : Nat) (m : Byte) (l : List Half),
    ((settle s).sensor.view = true ↔
      s.sensor.moving = true ∨ ∃ e ∈ s.sensor.table, e.2.moving = true ∧ e.2.stale = false) ∧
    (s.power = .running → 1 ≤ n.toNat → n.toNat ≤ 8 → 1 ≤ p → p ≤ 8 → l.length = 4 →
      (∀ k l, s.sensor.wheel = .running k l →
        (l ≤ k → ∃ t, exec .wheelTimerExpiry s = .next t ∧ t.sensor.moving = false ∧ t.sensor.wheel = .stopped ∧
          t.sensor.table = s.sensor.table ∧ t.primary = State.primary { s with sensor := t.sensor } ∧
          let u := { s with sensor := { s.sensor with wheel := .stopped, moving := false } }
          (s.sensor.moving = true → s.serving = true →
            t = settle (offer (.reportCounts none)
              { u with sensor := { u.sensor with countsTimer := .running 0 s.loader.profile.report } })) ∧
          (s.sensor.moving = false ∨ s.serving = false → t = settle u)) ∧
        (k < l → exec .wheelTimerExpiry s = .next s)) ∧
      (s.sensor.wheel = .stopped → exec .wheelTimerExpiry s = .next s) ∧
      (∃ t, exec (.reportCountsReceived n m l) s = .next t ∧
        Table.get t.sensor.table n.toNat = some { moving := bitOf m 0, age := 0, stale := false } ∧
        (∀ q, q ≠ n.toNat → Table.get t.sensor.table q = Table.get s.sensor.table q) ∧
        t.retention.counts = s.retention.counts ∧ t.sensor.moving = s.sensor.moving ∧
        t.primary = State.primary
          { s with
            sensor := { s.sensor with table := t.sensor.table }
            seat := { s.seat with pos1Heard := s.seat.pos1Heard || (s.seat.stage == .listen && n.toNat == 1) }
            line := s.line.heard 9 n.toNat ([1, m] ++ l.flatMap fun c => bytes2 c.toNat) } ∧
        t.seat.stage = s.seat.stage) ∧
      (∀ e, Table.get s.sensor.table p = some e →
        (1500 ≤ e.age → ∃ t, exec (.motionEntryStale p) s = .next t ∧
          Table.get t.sensor.table p = some { e with stale := true, age := 1500 } ∧
          (∀ q, q ≠ p → Table.get t.sensor.table q = Table.get s.sensor.table q) ∧
          t.primary = State.primary { s with sensor := t.sensor }) ∧
        (e.age < 1500 → exec (.motionEntryStale p) s = .next s)) ∧
      (Table.get s.sensor.table p = none → exec (.motionEntryStale p) s = .next s) ∧
      (s.serving = true → s.sensor.countsTimer.isRunning = true →
        exec .countsTimerExpiry s = .next (settle (offer (.reportCounts none)
          { s with
            sensor :=
              { s.sensor with
                countsTimer := .running 0
                  (if s.sensor.moving = true then min s.loader.profile.report 500
                  else s.loader.profile.report) } }))) ∧
      exec (.reportAnalogReceived n m l) s =
        .next (settle (frameHeard 9 n.toNat ([2, m] ++ l.flatMap fun v => bytes2 v.toNat) s)))

/-! ### Body channels (chapter 8) -/

/-- A START's checks, the first that applies giving the result (R152), and what a served one sets (R153). A STOP by the channel's state
(R154). Each request queues one BODY STATUS with the state after the event, its outcome and the request's tag (R162). MODEL'S CHOICE (log
32): at a START BODY-TRIPPED is cleared first, then the hazard part and the contribution are judged, with their DEMAND, and BODY STATUS is
queued last, at a STOP too. -/
def Obligations.BodyRequestsJudged : Prop :=
  ∀ (s : State) (n tag : Nat),
    (s.seat.stage ≠ .joined → s.startRefusal n = some .notReady) ∧
    (s.seat.stage = .joined →
      ((s.bodyCfg n).kind = 0 → s.startRefusal n = some .noChannel) ∧
      ((s.bodyCfg n).kind ≠ 0 →
        ((s.bodyChannel n).running = true → s.startRefusal n = some .busy) ∧
        ((s.bodyChannel n).running = false →
          ((s.bodyCfg n).motionInhibited = true ∧ s.sensor.view = true ∨
            (s.bodyCfg n).parkRequired = true ∧ s.demand.eff.park = false →
            s.startRefusal n = some .interlock) ∧
          (((s.bodyCfg n).motionInhibited = true → s.sensor.view = false) ∧
            ((s.bodyCfg n).parkRequired = true → s.demand.eff.park = true) → s.startRefusal n = none)))) ∧
    (∀ o, s.startRefusal n = some o →
      bodyStart n tag s = offer (.bodyStatus n (s.bodyChannel n).running o tag)
        (modBody n (fun c => { c with lastTag := tag }) s)) ∧
    (∀ c, nth s.body.channels n = some c → s.startRefusal n = none →
      let t := bodyStart n tag s
      t = offer (.bodyStatus n true .started tag) (judgeOwn (clearFault .bodyTripped n
        (modBody n
          (fun c =>
            { c with
              running := true, timer := .running 0 (1000 * (s.bodyCfg n).limit), lastTag := tag, runTag := tag })
          s))) ∧
      nth t.body.channels n = some
        { running := true, timer := .running 0 (1000 * (s.bodyCfg n).limit), outcome := c.outcome, lastTag := tag,
          runTag := tag } ∧
      t.hasFault .bodyTripped n = false ∧ t.demand.hazard = t.hazardDue ∧
      (∀ m, m ≠ n → nth t.body.channels m = nth s.body.channels m) ∧
      t.primary = State.primary { s with body := t.body }) ∧
    ((s.bodyCfg n).kind = 0 → bodyStop n tag s = offer (.bodyStatus n false .noChannel tag) s) ∧
    (∀ c, nth s.body.channels n = some c → (s.bodyCfg n).kind ≠ 0 → c.running = false →
      bodyStop n tag s = offer (.bodyStatus n false c.outcome tag)
        (modBody n (fun c => { c with lastTag := tag }) s)) ∧
    (∀ c, nth s.body.channels n = some c → (s.bodyCfg n).kind ≠ 0 → c.running = true →
      let t := bodyStop n tag s
      t = offer (.bodyStatus n false .stopped tag) (judgeOwn
        (modBody n (fun c => { c with running := false, timer := .stopped, outcome := .stopped, lastTag := tag }) s)) ∧
      nth t.body.channels n = some { c with running := false, timer := .stopped, outcome := .stopped, lastTag := tag } ∧
      t.demand.hazard = t.hazardDue ∧ (∀ m, m ≠ n → nth t.body.channels m = nth s.body.channels m))

/-- The run limit and the driver's trip end a run with TIMED-OUT and TRIPPED (R155, R158); BODY-TRIPPED is raised. Every ending makes the
channel IDLE with its outcome, judges the hazard part and queues one BODY STATUS with state IDLE, the outcome and the run tag (R162); MOTION
ends the motion-inhibited runs while the view is MOVING (R156), PARK-LOST the park-required ones while PARK is not in the effective demand
(R157), WITHDRAWN every run outside JOINED (R159), an unseated station's queue turning that STATUS away (R4). MODEL'S CHOICES: several runs
end in channel order (log 43), BODY STATUS is queued before BODY-TRIPPED is raised (log 32). A BODY REQUEST for the own seat is served by
its action, any other ignored (R163); a BODY STATUS that matches the relay record in SENT, ANSWERED or NO-REPLY makes it ANSWERED with the
reply (R165). At the relay's reply timer a request still pending is withdrawn, NOT-SENT; one sent or in flight is NO-REPLY (R164). MODEL'S
CHOICES: an expiry is taken when the command gives it, and the end of a run that is over changes nothing (log 3), and the judgements come
last (log 32). That an unlisted outcome is NONE is DEDUCED (log 25). -/
def Obligations.BodyEventsTaken : Prop :=
  ∀ (s : State) (m : Nat) (n : Nibble) (target channel action tag : Byte), s.power = .running →
    (1 ≤ m → m ≤ 4 → ∀ c, nth s.body.channels m = some c →
      (c.running = true →
        (∃ t, exec (.runTimerExpiry m) s = .next t ∧
          nth t.body.channels m = some { c with running := false, timer := .stopped, outcome := .timedOut } ∧
          t.primary = s.primary ∧ t.bodyPin m = false) ∧
        (let ended := fun (o : BodyOutcome) =>
           offer (.bodyStatus m false o c.runTag)
             (judgeOwn (modBody m (fun c => { c with running := false, timer := .stopped, outcome := o }) s))
         exec (.runTimerExpiry m) s = .next (settle (ended .timedOut)) ∧
         exec (.bodyDriverTrip m) s = .next (settle (raiseFault .bodyTripped m 2 (ended .tripped))) ∧
         ∀ o, endRun o s m = ended o) ∧
        (∃ t, exec (.bodyDriverTrip m) s = .next t ∧
          nth t.body.channels m = some { c with running := false, timer := .stopped, outcome := .tripped } ∧
          (s.faults.list.length < 7 → t.hasFault .bodyTripped m = true) ∧ t.primary = s.primary ∧
          t.bodyPin m = false)) ∧
      (c.running = false →
        exec (.runTimerExpiry m) s = .next s ∧ exec (.bodyDriverTrip m) s = .next s ∧ ∀ o, endRun o s m = s)) ∧
    (let ends := fun (o : BodyOutcome) (p : BodyCfg → Bool) =>
       let endOne := fun (u : State) (k : Nat) => if p (s.bodyCfg k) = true then endRun o u k else u
       endOne (endOne (endOne (endOne s 1) 2) 3) 4
     (s.sensor.view = true → endMotion s = ends .motion fun c => c.motionInhibited) ∧
     (s.sensor.view = false → endMotion s = s) ∧
     (s.demand.eff.park = false → endPark s = ends .parkLost fun c => c.parkRequired) ∧
     (s.demand.eff.park = true → endPark s = s) ∧
     (s.seat.stage ≠ .joined → endWithdrawn s = ends .withdrawn fun _ => true) ∧
     (s.seat.stage = .joined → endWithdrawn s = s) ∧
     (s.seated = false → (endWithdrawn s).line.queue = s.line.queue)) ∧
    (1 ≤ m → m ≤ 4 → ∀ c, nth s.body.channels m = some c → c.running = true →
      let cfg := s.bodyCfg m
      let t := settle s
      let ended := fun (o : BodyOutcome) =>
        nth t.body.channels m = some { c with running := false, timer := .stopped, outcome := o } ∧
        (s.seat.stage = .joined → s.line.queue = [] →
          ∃ e ∈ t.line.queue, e.frame = .bodyStatus m false o c.runTag)
      (s.seat.stage ≠ .joined → ended .withdrawn) ∧
      (s.seat.stage = .joined →
        (cfg.motionInhibited = true → t.sensor.view = true → ended .motion) ∧
        (cfg.motionInhibited = false ∨ t.sensor.view = false →
          (cfg.parkRequired = true → t.demand.eff.park = false → ended .parkLost) ∧
          (cfg.parkRequired = false ∨ t.demand.eff.park = true → nth t.body.channels m = some c)))) ∧
    (1 ≤ n.toNat → n.toNat ≤ 8 →
      let heard := frameHeard 7 n.toNat [1, target, channel, action, tag]
      (s.seated = true → target.toNat = s.seat.ownSeat →
        (action = 1 → exec (.bodyRequestReceived n target channel action tag) s =
          .next (settle (bodyStart channel.toNat tag.toNat (heard s)))) ∧
        (action = 2 → exec (.bodyRequestReceived n target channel action tag) s =
          .next (settle (bodyStop channel.toNat tag.toNat (heard s))))) ∧
      (s.seated = false ∨ target.toNat ≠ s.seat.ownSeat ∨ (action ≠ 1 ∧ action ≠ 2) →
        exec (.bodyRequestReceived n target channel action tag) s = .next (settle (heard s))) ∧
      (let r := s.body.relay
       let hit := (r.state = .sent ∨ r.state = .answered ∨ r.state = .noReply) ∧ n.toNat = r.target ∧
         channel.toNat = r.channel ∧ tag.toNat = r.tag
       (hit → ∃ t, exec (.bodyStatusReceived n channel target action tag) s = .next t ∧
         t.body.relay =
           { r with
             state := .answered, reply := some (target == 1, .ofCode action.toNat), timer := .stopped }) ∧
       (¬hit → exec (.bodyStatusReceived n channel target action tag) s =
         .next (settle (frameHeard 7 n.toNat [2, channel, target, action, tag] s))))) ∧
    (s.body.relay.timer.isRunning = true → s.body.relay.state = .waiting →
      s.pendingId s.body.relay.frameId = true →
      exec .relayReplyExpiry s = .next (settle (relayNotSent (withdrawId s.body.relay.frameId s))) ∧
      (settle (relayNotSent (withdrawId s.body.relay.frameId s))).body.relay.state = .notSent) ∧
    (s.body.relay.timer.isRunning = true →
      s.body.relay.state ≠ .waiting ∨ s.pendingId s.body.relay.frameId = false →
      ∃ t, exec .relayReplyExpiry s = .next t ∧ t.body.relay.state = .noReply ∧ t.body.relay.timer = .stopped ∧
        t.primary = s.primary)

/-! ### The line (chapter 9) -/

/-- The Line Interface begins the frame at the head of its queue, in any stage but STANDALONE (R8; a defending claim left over waits,
log 11): the line is BUSY, the frame is in flight with its contents captured at its Start (R172, R175, R187), its bits after the Start
are still to be sent, the own SEAT CLAIM is IN-FLIGHT (R15). A Start heard captures the mark instant (R175), and a quiet line is IDLE
(R169); that a frame still held as being received is then dropped uncounted is the MODEL'S CHOICE (log 50), and that an event the state
excludes changes nothing is too (log 3). What the runs hold at these events is log 18, and that a cut-off is over by then log 29. -/
def Obligations.FramesBegin : Prop :=
  ∀ s : State, s.power = .running →
    (∀ x, s.line.queue.head? = some x → s.line.state = .idle → s.line.disable = .stopped → s.line.mute = false →
      (∀ e ∈ s.line.queue, e.inFlight = false) → s.seat.stage ≠ .standalone →
      (let f := captureFrame s x.frame
       exec .frameStart s =
        .next (settle
          { s with
            line :=
              { s.line with
                state := .busy, recessive := 0, dominant := 1, cutOff := 0
                queue := { x with inFlight := true, frame := f } :: s.line.queue.tail
                reception :=
                  some
                    { instant := s.now, phase := (s.phase.phi : Int), receiving := false, before := s.line.recessive
                      bits := [false]
                      rest := (frameBits f.kind (f.sender s.seat.ownSeat) f.payload).drop 1 } }
            seat :=
              if s.seat.claim = .pending ∧ x.id = s.seat.claimId then { s.seat with claim := .inFlight }
              else s.seat })) ∧
      (∀ p d l, x.frame = .mark p d l → captureFrame s x.frame = .mark p d (some s.phase.phi)) ∧
      (∀ c, x.frame = .reportCounts c →
        captureFrame s x.frame = .reportCounts (some (s.sensor.moving, s.retention.counts))) ∧
      (∀ c, x.frame = .reportAnalog c →
        captureFrame s x.frame =
          .reportAnalog (some (s.sensor.analogs.map Analog.on, s.sensor.analogs.map Analog.value))) ∧
      ((x.frame.kind ≠ 1 ∧ x.frame.kind ≠ 9) → captureFrame s x.frame = x.frame)) ∧
    (s.line.state ≠ .idle ∨ s.line.disable.isRunning = true ∨ s.line.mute = true ∨ s.line.queue = [] ∨
      s.seat.stage = .standalone ∨ (∃ e ∈ s.line.queue, e.inFlight = true) → exec .frameStart s = .next s) ∧
    (s.line.state = .idle → (∀ e ∈ s.line.queue, e.inFlight = false) →
      exec .markInstant s =
        .next (settle
          { s with
            line :=
              { s.line with
                state := .busy, recessive := 0, dominant := 1, cutOff := 0
                reception :=
                  some
                    { instant := s.now, phase := (s.phase.phi : Int), receiving := true, before := s.line.recessive
                      bits := [false], rest := [] } } })) ∧
    (s.line.state = .busy → (∀ e ∈ s.line.queue, e.inFlight = false) →
      exec .lineIdle s =
        .next (settle
          { s with
            line :=
              { s.line with state := .idle, recessive := 7, dominant := 0, cutOff := 0, reception := none } })) ∧
    ((∃ e ∈ s.line.queue, e.inFlight = true) ∨ s.line.state ≠ .idle → exec .markInstant s = .next s) ∧
    ((∃ e ∈ s.line.queue, e.inFlight = true) ∨ s.line.state ≠ .busy → exec .lineIdle s = .next s)

/-- A frame sent to its end, its last bits read, leaves the queue, clears the drive-fault count and LINE-DRIVE (R169, R174), and its
owner acts: the claim's window starts (R15), the next segment is offered or the sequence is over (R41, R42), with STAGE JOINED after
an announcement (R41, R46) and, after the first, the check or SYNC by what has been tested (R19), a relayed request is SENT (R164),
a query's reply timer starts (R199), the answering state is IDLE after its last ANSWER (R193). A segment that a full queue had dropped
or turned away is offered again when another frame has been sent, and the sequence goes on from it (R42, R174). MODEL'S CHOICES: the order
of what happens in the event (log 16), what is left of the own frame's bits counted with it (log 18), and that SYNC follows a check with no
channel to test also where a full queue drops STAGE CHECKED (log 55). -/
def Obligations.FrameSentIsTold : Prop :=
  (∀ s : State, s.power = .running → ∀ x, s.inFlight = some x →
    (∀ e ∈ s.line.queue, e.id = x.id → e.inFlight = true) →
    let tested := (s.seat.claimRejoin = true ∨ s.seat.reseat = true) ∧
      ∀ e ∈ s.lampHealth, e.1 = .unassigned ∨ e.2 ≠ .untested
    let nothingToTest := ∀ e ∈ s.lampHealth, e.1 = .unassigned ∨ e.2 = .locked
    let read := s.line.read ((s.line.reception.map Reception.rest).getD [])
    ∃ t, exec .frameSent s = .next t ∧
      (∀ e ∈ t.line.queue, e.inFlight = false) ∧ t.line.driveFaults = 0 ∧ t.hasFault .lineDrive 0 = false ∧
      t.line.reception = none ∧ t.line.state = read.state ∧ t.line.recessive = read.recessive ∧
      t.line.dominant = read.dominant ∧ t.line.mute = s.line.mute ∧ t.line.malformed = s.line.malformed ∧
      (x.frame.isSeatClaim = true → s.seat.claim = .inFlight → x.id = s.seat.claimId →
        t.seat.claim = .window ∧ t.seat.window = .running 0 200 ∧ t.seat.unseated = .stopped ∧
        t.seat.expiryHeld = false ∧ t.seat.stage = s.seat.stage) ∧
      (∀ a, s.roster.announce = some a → x.frame.isProfile = true →
        (a.restart = true → t.roster.announce.map Sending.index = some 0) ∧
        (a.restart = false → a.index + 1 < segmentTotal (ownSummaryBytes s.loader) →
          t.roster.announce.map Sending.index = some (a.index + 1)) ∧
        (a.restart = false → segmentTotal (ownSummaryBytes s.loader) ≤ a.index + 1 →
          t.roster.announce = none ∧
          (a.purpose = .initial → tested ∨ nothingToTest → t.seat.stage = .sync) ∧
          (a.purpose = .initial → ¬tested → ¬nothingToTest → t.seat.stage = .checking) ∧
          (a.purpose ≠ .initial → t.seat.stage = s.seat.stage))) ∧
      (∀ p c b g, x.frame = .bodyRequest p c b g → s.body.relay.state = .waiting → s.body.relay.frameId = x.id →
        t.body.relay = { s.body.relay with state := .sent }) ∧
      (∀ q, s.port.query = some q → ∀ p c f k, x.frame = .query p c f k → q.frameId = x.id →
        t.port.query = some { q with sent := true, timer := .running 0 250 }) ∧
      (∀ a, s.port.answering = some a → ∀ p c i o d, x.frame = .answer p c i o d → o ≠ .busy → a.ended = true →
        t.port.answering = none) ∧
      (Settled s → s.seated = true → s.line.queue = [x] → s.line.followOn = [] → x.frame.isProfile = false →
        ∀ a, s.roster.announce = some a → a.reoffer = true →
        t.roster.announce = some { a with reoffer := false } ∧
        let b := ownSummaryBytes s.loader
        ∃ e ∈ t.line.queue, e.inFlight = false ∧
          e.frame = .profile a.index (segmentTotal b) (segmentData b a.index))) ∧
  ∀ (u : State) (a : Sending), u.roster.announce = some a → a.restart = false →
    let b := ownSummaryBytes u.loader
    (a.index + 1 < segmentTotal b →
      segmentSent u =
        offer (.profile (a.index + 1) (segmentTotal b) (segmentData b (a.index + 1)))
          { u with
            roster := { u.roster with announce := some { a with index := a.index + 1, reoffer := false } } }) ∧
    (segmentTotal b ≤ a.index + 1 →
      (a.purpose = .announce →
        segmentSent u =
          offer (.stageJoined u.ownNote) { u with roster := { u.roster with announce := none } }) ∧
      (a.purpose = .defence → segmentSent u = { u with roster := { u.roster with announce := none } }))

/-- Arbitration lost at a bit sent recessive before the Check: the entry, wherever it stands, returns to pending in its place, its contents
to be captured anew or a frame held for its class in its place, one dying leaves the queue (R173, R183, R187, R199), and the frame that won
is received; a claim whose expiry was held is then withdrawn (R15). A drive fault, at a bit sent dominant before the Check, does the same,
disables the driver for 100 ms, counts, raises LINE-DRIVE, and at three in a row makes the station mute (R179, R180); one on the Start bit
leaves the line IDLE with the recessive run that the Start would have ended and one bit more, and no frame with a mark instant (R169, R175).
MODEL'S CHOICES: a bit once counted was read as sent, the others are counted with the frame then heard (log 18), and where only the Start
has been counted a free value says whether it was read, for whatever value that is (log 58); the frame returns to pending before LINE-DRIVE
is raised (log 63), LINE-DRIVE before LINE-MUTE, and both before a held claim lapses (log 52), with the judgements last (log 32); a MARK
returns to pending whatever φ is, also past Q (log 62); an event the state excludes changes nothing (log 3). The disable timer's expiry enables the driver (R179). -/
def Obligations.FramesReturn : Prop :=
  ∀ s : State, s.power = .running →
    (s.line.disable.isRunning = true →
      exec .disableTimerExpiry s = .next (settle { s with line := { s.line with disable := .stopped } })) ∧
    (s.line.disable = .stopped → exec .disableTimerExpiry s = .next s) ∧
    (∀ x before behind, s.line.queue = before ++ x :: behind → x.inFlight = true →
      (∀ e ∈ before ++ behind, e.inFlight = false) → ∀ r, s.line.reception = some r → r.receiving = false →
      let compared := comparedBits x.frame.kind (x.frame.sender s.seat.ownSeat) x.frame.payload
      let ofClass := fun (g : Frame) => x.frame.replaceClass.isSome && g.replaceClass == x.frame.replaceClass
      let back : Entry :=
        { x with inFlight := false, frame := (s.line.followOn.find? ofClass).getD x.frame.uncaptured }
      let returned :=
        { s.line with
          queue := if x.dying = true then before ++ behind else before ++ back :: behind
          followOn := s.line.followOn.filter fun g => !ofClass g
          reception := some { r with receiving := true, rest := [] } }
      let owner :=
        if s.seat.claim = .inFlight ∧ x.id = s.seat.claimId then { s.seat with claim := .pending } else s.seat
      (s.line.followOn = [] → back.frame = x.frame.uncaptured) ∧
      (r.bits.length = 1 → false ∈ compared.drop 1) ∧
      (true ∉ compared.drop r.bits.length → exec .arbitrationLost s = .next s) ∧
      (false ∉ compared.drop r.bits.length → exec .driveFault s = .next s) ∧
      (true ∈ compared.drop r.bits.length →
        (owner.claim ≠ .pending ∨ s.seat.expiryHeld = false →
          exec .arbitrationLost s = .next (settle { s with line := returned, seat := owner })) ∧
        (s.seat.claim = .inFlight → x.id = s.seat.claimId → s.seat.expiryHeld = true →
          ∃ t, exec .arbitrationLost s = .next t ∧ t.seat.stage = .standalone ∧ t.seat.claim = .none ∧
            t.pendingId s.seat.claimId = false ∧
            (s.faults.list.length < 8 → t.hasFault .seatUnavailable 0 = true))) ∧
      (false ∈ compared.drop r.bits.length →
        let line :=
          if r.bits.length = 1 ∧ Config.freeStartRead s.freeCount = false then
            { returned with
              state := .idle, recessive := min (r.before + 1) 200, dominant := 0, reception := none }
          else returned
        let n := min (s.line.driveFaults + 1) 3
        let u := raiseFault .lineDrive 0 2
          { s with
            line := { line with disable := .running 0 100, driveFaults := n }, seat := owner
            freeCount := if r.bits.length = 1 then s.freeCount + 1 else s.freeCount }
        (owner.claim ≠ .pending ∨ s.seat.expiryHeld = false →
          exec .driveFault s = .next (settle (if n = 3 then becomeMute u else u))) ∧
        ∃ t, exec .driveFault s = .next t ∧ (∀ e ∈ t.line.queue, e.inFlight = false) ∧
          t.line.disable = .running 0 100 ∧ t.line.driveFaults = n ∧ t.line.reception = line.reception ∧
          t.line.state = line.state ∧ t.line.recessive = line.recessive ∧ t.line.dominant = line.dominant ∧
          (s.faults.list.length < 6 → t.hasFault .lineDrive 0 = true) ∧
          (s.line.driveFaults < 2 → t.line.mute = s.line.mute) ∧
          (2 ≤ s.line.driveFaults → t.line.mute = true ∧
            (s.faults.list.length < 6 → t.hasFault .lineMute 0 = true)))) ∧
    (s.inFlight = none ∨ s.line.reception = none ∨ (∃ r, s.line.reception = some r ∧ r.receiving = true) →
      exec .arbitrationLost s = .next s ∧ exec .driveFault s = .next s)

/-- The line stuck and freed (R181), and bits that are no valid frame (R177, R178): a frame discarded is counted, its bits read (R169),
whatever the state of the line (MODEL'S CHOICE, log 51), and nothing else changes. Bits that end before any test can fail are what has been
read of the frame being received, and are held with it; bits of any other kind change nothing (DEDUCED, log 26). DEDUCED too: on entering
STUCK a frame being received is counted as discarded and the own one is not (log 31). MODEL'S CHOICES too: what the runs hold at these
events (log 18); the own frame returns to pending before LINE-STUCK is raised (log 63), and LINE-STUCK is raised before a held claim lapses,
so that it is listed with seven faults listed before (log 52); a MARK of the own returns whatever φ is (log 62); an event the state excludes
changes nothing (log 3). -/
def Obligations.LineStuckAndDiscards : Prop :=
  ∀ (s : State) (bits : List Bool), s.power = .running →
    (s.line.state ≠ .stuck → ∃ t, exec .lineStuck s = .next t ∧ t.line.state = .stuck ∧ t.line.recessive = 0 ∧
      t.line.dominant = 20 ∧ t.line.cutOff = 0 ∧
      (∀ e ∈ t.line.queue, e.inFlight = false) ∧ t.line.reception = none ∧
      t.line.driveFaults = s.line.driveFaults ∧ t.line.mute = s.line.mute ∧
      (s.faults.list.length < 8 → t.hasFault .lineStuck 0 = true) ∧
      ((∃ r, s.line.reception = some r ∧ r.receiving = true) → s.line.malformed < 65535 →
        t.line.malformed = s.line.malformed + 1) ∧
      ((∀ r, s.line.reception = some r → r.receiving = false) → t.line.malformed = s.line.malformed)) ∧
    (s.line.state = .stuck → ∃ t, exec .lineStuckCleared s = .next t ∧
      t.hasFault .lineStuck 0 = false ∧
      t.primary = State.primary
        { s with line := { s.line with state := .idle, recessive := 200, dominant := 0, cutOff := 0 } }) ∧
    (s.line.state = .stuck → exec .lineStuck s = .next s) ∧
    (s.line.state ≠ .stuck → exec .lineStuckCleared s = .next s) ∧
    (hear bits = .discarded ∨
      (∃ k p d, hear bits = .frame k p d ∧ frameValid s.phase.period k p d = false) →
      exec (.frameDiscarded bits) s =
        .next (settle
          { s with
            line :=
              { (s.line.readOther bits).dropHeard with
                malformed := if s.line.malformed < 65535 then s.line.malformed + 1 else s.line.malformed } })) ∧
    (hear bits = .incomplete →
      (∀ r, s.line.reception = some r → r.receiving = true → r.bits <+: bits →
        exec (.frameDiscarded bits) s =
          .next
            { s with
              line := { s.line.read (bits.drop r.bits.length) with reception := some { r with bits := bits } } }) ∧
      ((∀ r, s.line.reception = some r → r.receiving = true → ¬r.bits <+: bits) →
        exec (.frameDiscarded bits) s = .next s)) ∧
    ((∃ k p d, hear bits = .frame k p d ∧ frameValid s.phase.period k p d = true) →
      exec (.frameDiscarded bits) s = .next s)

/-- How a frame enters the queue: in the order of kind codes behind the older ones of its own (R182), in place of a pending one
of its replaceable class and held while one is in flight (R183), one segment or ANSWER at a time (R184), and into a full queue
only in place of the last pending entry where its kind code is lower, the loss counted (R185); a station whose stage does not
allow the frame keeps its queue as it is (R4). The owner of the one frame lost, the dropped one or the one turned away, is told, and
nothing but the line changes besides: a PROFILE segment awaits a new offer (R42), a relayed request is NOT-SENT with its timer stopped
(R164), a query ends NOT-SENT (R199), an index whose ANSWER was lost is answered again (R193), a BUSY is owed, and is lost where one is
owed already (MODEL'S CHOICE, log 53); no other owner acts (R185). An owner withdraws its pending frames and no others (R186). -/
def Obligations.QueueTakesFrames : Prop :=
  ∀ (s : State) (f : Frame),
    let t := offer f s
    let fresh : Entry := { id := s.line.nextId, frame := f, inFlight := false, dying := false }
    let single := f.replaceClass = none ∧
      ((f.kind = 8 ∨ f.kind = 11) → ∀ e ∈ s.line.queue, e.frame.kind ≠ f.kind)
    let first := f.replaceClass ≠ none ∧ ∀ e ∈ s.line.queue, e.frame.replaceClass ≠ f.replaceClass
    let tells := fun (w : State) => t = { w with line := t.line }
    (s.queueTakes f = false → t.line.queue = s.line.queue ∧ t.line.overflow = s.line.overflow ∧ tells s) ∧
    (s.queueTakes f = true → single ∨ first →
      (s.line.queue.length < 8 →
        fresh ∈ t.line.queue ∧ (t.line.queue.filter fun e => e != fresh) = (s.line.queue.filter fun e => e != fresh) ∧
        ((s.line.queue.Pairwise fun a b => a.frame.kind ≤ b.frame.kind) →
          (t.line.queue.Pairwise fun a b => a.frame.kind ≤ b.frame.kind) ∧
          (t.line.queue.filter fun e => e.frame.kind == f.kind) =
            (s.line.queue.filter fun e => e.frame.kind == f.kind) ++ [fresh]) ∧
        t.line.overflow = s.line.overflow ∧ tells s) ∧
      (8 ≤ s.line.queue.length →
        t.line.overflow = (if s.line.overflow < 65535 then s.line.overflow + 1 else s.line.overflow) ∧
        ((∀ x, lastPending s.line.queue = some x → x.frame.kind ≤ f.kind) →
          t.line.queue = s.line.queue ∧ tells (tellLost f s.line.nextId s)) ∧
        (∀ x, lastPending s.line.queue = some x → f.kind < x.frame.kind →
          t.line.queue = insertEntry fresh (s.line.queue.filter fun y => y.id != x.id) ∧
          tells (tellLost x.frame x.id s)))) ∧
    (s.queueTakes f = true → f.replaceClass ≠ none →
      ∀ x, (s.line.queue.find? fun e => e.frame.replaceClass == f.replaceClass) = some x →
      t.line.overflow = s.line.overflow ∧ tells s ∧
      (x.inFlight = true → t.line.queue = s.line.queue ∧
        (t.line.followOn.filter fun g => g.replaceClass == f.replaceClass) = [f]) ∧
      (x.inFlight = false → t.line.followOn = s.line.followOn ∧
        t.line.queue = s.line.queue.map fun e =>
          if e.frame.replaceClass = f.replaceClass then { e with frame := f } else e)) ∧
    (s.queueTakes f = true → (f.kind = 8 ∨ f.kind = 11) → (∃ e ∈ s.line.queue, e.frame.kind = f.kind) →
      t.line.queue = s.line.queue ∧ t.line.overflow = s.line.overflow ∧ tells (tellLost f s.line.nextId s)) ∧
    (∀ (id a b c d : Nat) (start : Bool) (st : AnswerStatus) (data : List Byte),
      tellLost (.profile a b data) id s =
        { s with roster := { s.roster with announce := s.roster.announce.map fun g => { g with reoffer := true } } } ∧
      (let r := s.body.relay
       (r.state = .waiting → r.frameId = id →
         tellLost (.bodyRequest a b start c) id s =
           { s with body := { s.body with relay := { r with state := .notSent, timer := .stopped } } }) ∧
       (r.state ≠ .waiting ∨ r.frameId ≠ id → tellLost (.bodyRequest a b start c) id s = s)) ∧
      (∀ q, s.port.query = some q → q.frameId = id →
        tellLost (.query a b c d) id s = { s with port := { s.port with query := none, queryOutcome := .notSent } }) ∧
      ((∀ q, s.port.query = some q → q.frameId ≠ id) → tellLost (.query a b c d) id s = s) ∧
      (st ≠ .busy →
        tellLost (.answer a b c st data) id s =
          { s with
            port :=
              { s.port with
                answering := s.port.answering.map fun g =>
                  { g with
                    next := c, left := if st = .ok then g.left + 1 else g.left, ended := false, retry := true } } }) ∧
      (s.port.owed = none →
        tellLost (.answer a b c .busy data) id s =
          { s with port := { s.port with owed := some { requester := a, cls := b, index := c } } }) ∧
      (s.port.owed ≠ none → tellLost (.answer a b c .busy data) id s = s) ∧
      (∀ o, tellLost (.bodyStatus a start o c) id s = s) ∧ (f.kind ≤ 6 ∨ f.kind = 9 → tellLost f id s = s)) ∧
    (∀ e, e ∈ (withdraw (fun g => g.kind == f.kind) s).line.queue ↔
      e ∈ s.line.queue ∧ (e.inFlight = true ∨ e.frame.kind ≠ f.kind))

/-! ### Faults (section 10.1) -/

/-- Raising and clearing a fault: a raise of one already held changes nothing, else it joins at the end, on a full list in place of the
oldest of the lowest severity among the unlatched where that is lower, the overflow flag set (R189); a clear removes it unless its code is
latched (R190). Every change puts the summary in the own entry (R33), ATTN follows the profile's threshold at an addition (R201; in
LOADING the default profile's, MODEL'S CHOICE, log 8), and in SYNC and JOINED a FAULT frame is queued for it, RAISED for an addition,
CLEARED for a clear and for an entry evicted, which comes before the RAISED of the entry that takes its place (R191). A summary gives the
number of the list's entries, their highest severity, 0 for an empty list (R33), and as turn-fault sides those of the lamp faults, of all
four codes, of a TURN-L or TURN-R channel (R117). -/
def Obligations.FaultsRaisedAndCleared : Prop :=
  ∀ (s : State) (c : FaultCode) (k v : Nat),
    let e : FaultEntry := { code := c, subject := k, severity := v, onset := min s.now 4294967295 }
    let t := raiseFault c k v s
    let u := clearFault c k s
    let without := fun (c : FaultCode) (k : Nat) => s.faults.list.filter fun y => !(y.code == c && y.subject == k)
    let attn := s.port.attn || (s.loader.profile.attn != 0 && decide (s.loader.profile.attn ≤ v))
    (s.hasFault c k = true → t = s) ∧
    (s.hasFault c k = false → s.faults.list.length < 8 →
      t.faults = { s.faults with list := s.faults.list ++ [e] } ∧ t.port.attn = attn ∧
      (s.serving = false → t.line = s.line) ∧
      (s.serving = true → t.line = (offer (.fault c k v true (summaryOf t t.faults.list)) s).line)) ∧
    (s.hasFault c k = false → 8 ≤ s.faults.list.length →
      t.faults.overflow = true ∧
      ((∀ x ∈ s.faults.list, x.code.latched = true ∨ v ≤ x.severity) → t = setFaultOverflow s) ∧
      (∀ older x newer, s.faults.list = older ++ x :: newer → x.code.latched = false → x.severity < v →
        (∀ y ∈ older, y.code.latched = false → x.severity < y.severity) →
        (∀ y ∈ newer, y.code.latched = false → x.severity ≤ y.severity) →
        t.faults.list = without x.code x.subject ++ [e] ∧ t.port.attn = attn ∧
        (s.serving = false → t.line = s.line) ∧
        (s.serving = true →
          t.line =
            (offer (.fault c k v true (summaryOf t t.faults.list))
              (offer (.fault x.code x.subject x.severity false (summaryOf s (without x.code x.subject))) s)).line))) ∧
    (c.latched = true → u = s) ∧
    (c.latched = false → u.hasFault c k = false ∧ u.faults.overflow = s.faults.overflow ∧
      u.faults.list = without c k ∧ u.port.attn = s.port.attn ∧
      (s.hasFault c k = false → u = s) ∧
      (s.serving = false → u.line = s.line) ∧
      (∀ x, (s.faults.list.find? fun y => y.code == c && y.subject == k) = some x → s.serving = true →
        u.line = (offer (.fault c k x.severity false (summaryOf u u.faults.list)) s).line)) ∧
    (∀ l : List FaultEntry, let f := summaryOf s l
      f.count = l.length ∧ (∀ y ∈ l, y.severity ≤ f.highest) ∧ (l = [] → f.highest = 0) ∧
      (l ≠ [] → ∃ y ∈ l, y.severity = f.highest) ∧
      let lamp := fun (y : FaultEntry) =>
        y.code = .lampOpen ∨ y.code = .lampOverload ∨ y.code = .lampShort ∨ y.code = .lampLocked
      (f.sides.left = true ↔ ∃ y ∈ l, lamp y ∧ s.functionOf y.subject = .turnL) ∧
      (f.sides.right = true ↔ ∃ y ∈ l, lamp y ∧ s.functionOf y.subject = .turnR)) ∧
    (∀ w ∈ [t, u], w.unfaulted = s.unfaulted ∧
      (w.faults.list ≠ s.faults.list → s.seated = true →
        ∀ r, Table.get s.roster.entries s.seat.ownSeat = some r →
          (Table.get w.roster.entries s.seat.ownSeat).map RosterEntry.fault =
            some (some (summaryOf w w.faults.list))))

/-! ### Queries and the status port (sections 10.2 to 10.5) -/

/-- A QUERY for the own seat is answered item by item (R192, R193), the next ANSWER queued when the one before has been sent, one that was
lost to the queue when any frame has been sent, with the item's bytes as they stand in that event, the bits of the frame sent read, or
NO-ITEM with no data where there is none or the query is no legal one (R193); one for another position is ignored. While another is being
answered it is answered BUSY, queued at once where no ANSWER stands on the queue and owed otherwise, an owed BUSY going before the next
ANSWER (R192). An ANSWER to the outstanding query joins the answer store and moves the query (R197, R199), its class and the query's taken
by R210 (log 25); the reply timer's expiry ends the query, NOT-SENT with its frame withdrawn where that is still pending, else TIMEOUT, a
frame in flight to be withdrawn if it returns; it comes at the timer's length and not after an ANSWER that has restarted it (R199). An item's data are its ANSWER form by R211, STATION's and ROSTER's 8
bytes, the first 7 of BODY's and the others' whole, and there is none outside the items of its class (R194). MODEL'S
CHOICES: the answers are counted without bound (log 61), an expiry before the timer's length changes nothing (log 3), the order of what
happens when a frame has been sent (log 16), and the judgements last (log 32). -/
def Obligations.QueriesAnswered : Prop :=
  ∀ (s : State) (n : Nibble) (target cls first count : Byte) (data : List Byte), s.power = .running →
    (1 ≤ n.toNat → n.toNat ≤ 8 →
      let u := frameHeard 10 n.toNat [target, cls, first, count] s
      (s.seated = false ∨ target.toNat ≠ s.seat.ownSeat →
        exec (.queryReceived n target cls first count) s = .next (settle u)) ∧
      (s.seated = true → target.toNat = s.seat.ownSeat → s.port.answering = none →
        let a : Answering :=
          { requester := n.toNat, cls := cls.toNat, first := first.toNat, count := count.toNat, next := first.toNat,
            left := count.toNat, ended := false, retry := false }
        let legal := 1 ≤ cls.toNat ∧ cls.toNat ≤ 7 ∧ first.toNat ≠ 0 ∧ 1 ≤ count.toNat ∧ count.toNat ≤ 4
        (∀ d, answerItem (setAnswering (some a) u) cls.toNat first.toNat = some d → legal →
          exec (.queryReceived n target cls first count) s =
            .next (settle (offer (.answer n.toNat cls.toNat first.toNat .ok d)
              (setAnswering
                (some
                  { a with
                    next := first.toNat + 1, left := count.toNat - 1, ended := decide (count.toNat ≤ 1) })
                u)))) ∧
        (answerItem (setAnswering (some a) u) cls.toNat first.toNat = none ∨ ¬legal →
          exec (.queryReceived n target cls first count) s =
            .next (settle (offer (.answer n.toNat cls.toNat first.toNat .noItem [])
              (setAnswering (some { a with ended := true }) u))))) ∧
      (s.seated = true → target.toNat = s.seat.ownSeat → s.port.answering ≠ none →
        let b : OwedBusy := { requester := n.toNat, cls := cls.toNat, index := first.toNat }
        let w := offer (.answer n.toNat cls.toNat first.toNat .busy []) u
        ((∃ e ∈ s.line.queue, e.frame.isAnswer = true) →
          exec (.queryReceived n target cls first count) s =
            .next (settle { u with port := { u.port with owed := some b } })) ∧
        ((∀ e ∈ s.line.queue, e.frame.isAnswer = false) →
          exec (.queryReceived n target cls first count) s =
            .next (settle
              (if (w.line.queue.any fun e => e.frame.isAnswer) = true then w
              else { w with port := { w.port with owed := some b } })) ∧
          (s.line.queue.length < 8 → (w.line.queue.any fun e => e.frame.isAnswer) = true ∧ w.port = u.port)))) ∧
    (Settled s → s.seated = true → s.line.followOn = [] → s.roster.announce = none →
      s.hasFault .lineDrive 0 = false →
      ∀ x, s.line.queue = [x] → x.inFlight = true →
      ∀ a, s.port.answering = some a → a.ended = false → x.frame.isAnswer = true ∨ a.retry = true →
        (s.port.owed = none → ∃ t, exec .frameSent s = .next t ∧
          let read := s.line.read ((s.line.reception.map Reception.rest).getD [])
          let item := answerItem { s with line := { s.line with state := read.state } } a.cls a.next
          let legal := 1 ≤ a.cls ∧ a.cls ≤ 7 ∧ a.first ≠ 0 ∧ 1 ≤ a.count ∧ a.count ≤ 4
          (∀ d, item = some d → legal →
            t.line.queue.map Entry.frame = [.answer a.requester a.cls a.next .ok d] ∧
            t.port.answering = some
              { a with next := a.next + 1, left := a.left - 1, ended := decide (a.left ≤ 1), retry := false }) ∧
          (item = none ∨ ¬legal →
            t.line.queue.map Entry.frame = [.answer a.requester a.cls a.next .noItem []] ∧
            t.port.answering = some { a with ended := true, retry := false })) ∧
        (∀ b, s.port.owed = some b → ∃ t, exec .frameSent s = .next t ∧
          t.line.queue.map Entry.frame = [.answer b.requester b.cls b.index .busy []] ∧ t.port.owed = none ∧
          t.port.answering = some a)) ∧
    (Settled s → ∀ q, s.port.query = some q →
      (1 ≤ n.toNat → n.toNat ≤ 8 → data.length ≤ 8 →
        let listed := fun (k : Nat) => if 1 ≤ k ∧ k ≤ 7 then k else 1
        let hit := s.seated = true ∧ target.toNat = s.seat.ownSeat ∧ n.toNat = q.target ∧
          listed cls.toNat = listed q.cls ∧
          (first.toNat = q.first ∨ (q.first < first.toNat ∧ first.toNat < q.first + q.count))
        (hit → ∃ t, exec (.answerReceived n target cls first count data) s = .next t ∧
          (s.port.store.length < 8 →
            t.port.store = s.port.store ++
              [{ sender := n.toNat, cls := listed cls.toNat, index := first.toNat, status := .ofCode count.toNat,
                 data := data }] ∧
            (s.port.store = [] → t.port.attn = true)) ∧
          (8 ≤ s.port.store.length → t.port.store = s.port.store ∧ t.port.storeFull = true) ∧
          (count = 1 → t.port.query = none ∧ t.port.queryOutcome = .noItem) ∧
          (count = 2 → t.port.query = none ∧ t.port.queryOutcome = .busy) ∧
          (count ≠ 1 → count ≠ 2 → first.toNat + 1 = q.first + q.count →
            t.port.query = none ∧ t.port.queryOutcome = .complete) ∧
          (count ≠ 1 → count ≠ 2 → first.toNat + 1 ≠ q.first + q.count →
            t.port.query = some { q with answers := q.answers + 1, timer := .running 0 250 })) ∧
        (¬hit → exec (.answerReceived n target cls first count data) s =
          .next (settle (frameHeard 11 n.toNat ([target, cls, first, count] ++ data) s)))) ∧
      (q.timer.isDue = false → exec .queryReplyExpiry s = .next s) ∧
      (Timer.stopped.isDue = false ∧ ∀ k l, (Timer.running k l).isDue = true ↔ l ≤ k) ∧
      (q.timer.isDue = true → ∃ t, exec .queryReplyExpiry s = .next t ∧ t.port.query = none ∧
        t.primary = s.primary ∧
        (s.pendingId q.frameId = true → t.port.queryOutcome = .notSent ∧
          t.line.queue = s.line.queue.filter fun e => e.inFlight || e.id != q.frameId) ∧
        (s.pendingId q.frameId = false → t.port.queryOutcome = .timeout ∧
          t.line.queue =
            s.line.queue.map fun e => if e.id = q.frameId ∧ e.inFlight = true then { e with dying := true } else e))) ∧
    (s.port.query = none →
      exec .queryReplyExpiry s = .next s ∧
      (1 ≤ n.toNat → n.toNat ≤ 8 → data.length ≤ 8 →
        exec (.answerReceived n target cls first count data) s =
          .next (settle (frameHeard 11 n.toNat ([target, cls, first, count] ++ data) s)))) ∧
    (let b := stationBytes s
     (∃ x, answerItem s 1 1 = some
         [byteAt b 7, byteAt b 8, byteAt b 10, byteAt b 14, byteAt b 22, byteAt b 23, byteAt b 9, x] ∧
       fieldOf x 1 0 = fieldOf (byteAt b 21) 1 0 ∧ fieldOf x 5 4 = s.line.state.code ∧ fieldOf x 3 2 = 0 ∧
       fieldOf x 7 6 = 0) ∧
     ∀ k : Nat,
       (k ≠ 1 → answerItem s 1 k = none) ∧
       (∀ e, Table.get s.roster.entries k = some e →
         ∃ d, RosterItem e d ∧ answerItem s 2 k = some (d.take 8)) ∧
       (Table.get s.roster.entries k = none → answerItem s 2 k = none) ∧
       (1 ≤ k → k ≤ 12 → ∃ d, ChannelItem s k d ∧ answerItem s 3 k = some d) ∧
       (k = 0 ∨ 12 < k → answerItem s 3 k = none) ∧
       (1 ≤ k → k ≤ 4 →
         (∃ d, CounterItem s k d ∧ answerItem s 4 k = some d) ∧
         (∀ cfg a, nth s.loader.profile.analog k = some cfg → nth s.sensor.analogs k = some a →
           ∃ d, AnalogItem cfg a d ∧ answerItem s 5 k = some d) ∧
         ∃ d, BodyItem (s.bodyCfg k) (s.bodyChannel k) d ∧ answerItem s 7 k = some (d.take 7)) ∧
       (k = 0 ∨ 4 < k → answerItem s 4 k = none ∧ answerItem s 5 k = none ∧ answerItem s 7 k = none) ∧
       (∀ e, nth s.faults.list k = some e → ∃ d, FaultItem e d ∧ answerItem s 6 k = some d) ∧
       (k = 0 ∨ s.faults.list.length < k → answerItem s 6 k = none))

/-- The status port's transactions: only the port's own address is acknowledged, and in LOADING none (R195). A pointer of an existing item
is taken, any other not acknowledged, and a byte after it is not acknowledged (R195). Of a write to the request slot each byte is
acknowledged or refused as it arrives: an unknown kind is refused, a byte after the last field is refused and the request stands, a write
that ends short of its fields leaves the slot as it was (R198). A read goes from the pointer's item, or the next that exists, through the
items that exist after it, taking each at its first byte, and reads ones past the last before the request slot; one that ends within an item
leaves the pointer on it (R195). Reading the STATION item's first byte clears the flags and ATTN (R196), reading ANSWER 1 whole drops it and
goes on with the next answer (R197). Every item reads as the bytes R211 lays out, with the codes of section
12.5, absent parts 0 and pointers outside its table naming nothing. A whole request fills an empty slot, and raises the
collision flag at a full one, a QUERY also while a query is outstanding (R198). MODEL'S CHOICES: the number of answers shows its low eight
bits (log 61) and a relayed channel its low three (log 44); a write fills the slot at its end, be that a stop condition or a repeated start (log 64); what the bus carried, in
addressAck, byteAcks and dataOut, is held as log 22 says. DEDUCED: a request write leaves the pointer at 96, and a read that passes the last
existing item leaves the pointer on it, and the cascaded bit stands at both inputs of a pair (log 20); the fields of an absent query read 0
(log 17); the rows STATION_ITEM_READ and ANSWER_STORE_READ put the pointer at 0 and 80 and read these
bytes (log 30). -/
def Obligations.PortTransactionsTaken : Prop :=
  ∀ (s : State) (a : BitVec 7) (p : Byte) (n : Nat) (x y z w : Byte) (l : List Byte), s.power = .running →
    (s.seat.stage = .loading ∨ a.toNat ≠ s.loader.portAddress →
      exec (.statusPortWrite a [p]) s =
        .next { s with port := { s.port with addressAck := false, byteAcks := [], dataOut := [] } } ∧
      exec (.statusPortRead a n) s =
        .next { s with port := { s.port with addressAck := false, byteAcks := [], dataOut := [] } }) ∧
    (s.seat.stage ≠ .loading → a.toNat = s.loader.portAddress →
      (p ≠ 96 → pointerExists s p.toNat = true → exec (.statusPortWrite a [p]) s =
        .next
          { s with
            port := { s.port with pointer := p.toNat, addressAck := true, byteAcks := [true], dataOut := [] } }) ∧
      (p ≠ 96 → pointerExists s p.toNat = false → exec (.statusPortWrite a [p]) s =
        .next { s with port := { s.port with addressAck := true, byteAcks := [false], dataOut := [] } }) ∧
      (let written := fun (acks : List Bool) (u : State) =>
         Host.Outcome.next (φ := Sys2Proof.Machine.Fault) (ρ := Refusal)
           { u with port := { u.port with addressAck := true, byteAcks := acks, dataOut := [] } }
       let at96 := { s with port := { s.port with pointer := 96 } }
       let full := s.port.slot ≠ none ∨ (x = 3 ∧ s.port.query ≠ none)
       let field := fun (k : Nat) => (byteAt l k).toNat
       let delivers := fun (kind : Byte) (fields : Nat) (r : Request) => x = kind →
         (l.length < fields →
           exec (.statusPortWrite a (96 :: x :: l)) s = written (List.replicate (l.length + 2) true) at96) ∧
         (fields ≤ l.length →
           exec (.statusPortWrite a (96 :: x :: l)) s =
             written (List.replicate (fields + 2) true ++ if fields < l.length then [false] else [])
               { at96 with port := { at96.port with slot := some r, slotDue := false } })
       exec (.statusPortWrite a []) s = written [] s ∧
       (p ≠ 96 → pointerExists s p.toNat = true →
         exec (.statusPortWrite a (p :: x :: l)) s =
           written [true, false] { s with port := { s.port with pointer := p.toNat } }) ∧
       (p ≠ 96 → pointerExists s p.toNat = false →
         exec (.statusPortWrite a (p :: x :: l)) s = written [false] s) ∧
       exec (.statusPortWrite a [96]) s = written [true] at96 ∧
       (full →
         exec (.statusPortWrite a (96 :: x :: l)) s =
           written [true, false] { at96 with port := { at96.port with collision := true } }) ∧
       (¬full → x ∉ [(1 : Byte), 2, 3, 4] →
         exec (.statusPortWrite a (96 :: x :: l)) s = written [true, false] at96) ∧
       (¬full →
         delivers 1 3 (.bodyStart (field 0) (field 1) (field 2)) ∧ delivers 2 3 (.bodyStop (field 0) (field 1) (field 2)) ∧
         delivers 3 4 (.query (field 0) (field 1) (field 2) (field 3)) ∧ delivers 4 0 .restart)) ∧
      (∃ t, exec (.statusPortRead a n) s = .next t ∧ t.port.dataOut.length = n ∧ t.port.addressAck = true) ∧
      (let p := s.port.pointer
       let reads := fun (u : State) (out : List Byte) =>
         { u with port := { u.port with addressAck := true, byteAcks := [], dataOut := out } }
       (∀ b, pointerBytes s p = some b →
         let u := if p = 0 then
           { s with
             faults := { s.faults with overflow := false }
             port := { s.port with attn := false, collision := false } }
           else s
         (0 < n → n < b.length → exec (.statusPortRead a n) s = .next (reads u (b.take n))) ∧
         (p ≠ 80 → nextItem s (p + 1) = none →
           exec (.statusPortRead a (b.length + n)) s = .next (reads u (b ++ List.replicate n 255))) ∧
         (p ≠ 80 → ∀ q, nextItem s (p + 1) = some q →
           ∀ t, exec (.statusPortRead a n) { u with port := { u.port with pointer := q } } = .next t →
           exec (.statusPortRead a (b.length + n)) s = .next (reads t (b ++ t.port.dataOut))) ∧
         (p = 80 →
           ∀ t, exec (.statusPortRead a n)
             { s with port := { s.port with store := s.port.store.tail, storeFull := false } } = .next t →
           exec (.statusPortRead a (b.length + n)) s = .next (reads t (b ++ t.port.dataOut)))) ∧
       (pointerExists s p = false →
         (nextItem s p = none → exec (.statusPortRead a n) s = .next (reads s (List.replicate n 255))) ∧
         (∀ q, nextItem s p = some q → 0 < n →
           exec (.statusPortRead a n) s =
             exec (.statusPortRead a n) { s with port := { s.port with pointer := q } })) ∧
       (∀ k q, nextItem s k = some q ↔
         k ≤ q ∧ q < 96 ∧ pointerExists s q = true ∧ ∀ j, k ≤ j → j < q → pointerExists s j = false))) ∧
    (pointerBytes s 0 = some (stationBytes s) ∧ StationItem s (stationBytes s)) ∧
    (∀ q,
      (1 ≤ q → q ≤ 8 →
        (∀ e, Table.get s.roster.entries q = some e → ∃ b, pointerBytes s q = some b ∧ RosterItem e b) ∧
        (Table.get s.roster.entries q = none → pointerBytes s q = none)) ∧
      (1 ≤ q → q ≤ 12 → ∃ b, pointerBytes s (15 + q) = some b ∧ ChannelItem s q b) ∧
      (1 ≤ q → q ≤ 4 →
        (∃ b, pointerBytes s (31 + q) = some b ∧ CounterItem s q b) ∧
        (∀ cfg r, nth s.loader.profile.analog q = some cfg → nth s.sensor.analogs q = some r →
          ∃ b, pointerBytes s (39 + q) = some b ∧ AnalogItem cfg r b) ∧
        ∃ b, pointerBytes s (63 + q) = some b ∧ BodyItem (s.bodyCfg q) (s.bodyChannel q) b) ∧
      (1 ≤ q → q ≤ 8 →
        (∀ e, nth s.faults.list q = some e → ∃ b, pointerBytes s (47 + q) = some b ∧ FaultItem e b) ∧
        (nth s.faults.list q = none → pointerBytes s (47 + q) = none) ∧
        (∀ e, nth s.port.store q = some e → ∃ b, pointerBytes s (79 + q) = some b ∧ AnswerItem e b) ∧
        (nth s.port.store q = none → pointerBytes s (79 + q) = none)) ∧
      ((9 ≤ q ∧ q ≤ 15) ∨ (28 ≤ q ∧ q ≤ 31) ∨ (36 ≤ q ∧ q ≤ 39) ∨ (44 ≤ q ∧ q ≤ 47) ∨ (56 ≤ q ∧ q ≤ 63) ∨
          (68 ≤ q ∧ q ≤ 79) ∨ (88 ≤ q ∧ q ≤ 95) ∨ 96 < q →
        pointerBytes s q = none)) ∧
    pointerBytes s 96 = some [if s.port.slot = none then 0 else 1] ∧
    ([Stage.loading, .listen, .standalone, .claiming, .profiling, .checking, .sync, .joined, .conflict].map Stage.code =
        List.range 9 ∧
      [RosterStage.claimed, .profiled, .checked, .joined].map RosterStage.code = List.range 4 ∧
      [Note.none, .taken, .declined, .yielded].map Note.code = List.range 4 ∧
      [RearStatus.none, .pending, .holder, .retained].map RearStatus.code = List.range 4 ∧
      [UnitClass.primeMover, .semiTrailer, .fullTrailer, .dolly, .service].map UnitClass.code = [1, 2, 3, 4, 5] ∧
      [LampFn.unassigned, .tail, .stop, .turnL, .turnR, .reverse, .rearFog, .plate, .marker, .work, .beacon].map
        LampFn.code = List.range 11 ∧
      [Health.untested, .good, .openCircuit, .overload, .short, .locked].map Health.code = List.range 6 ∧
      [SampleOutcome.good, .openCircuit, .overload, .skipped].map SampleOutcome.code = [1, 2, 3, 4] ∧
      [PulseRole.notInUse, .wheel, .door, .general].map PulseRole.code = List.range 4 ∧
      [EdgeSel.rising, .falling, .both].map EdgeSel.code = List.range 3 ∧
      [LockStatus.own, .locked, .slewing].map LockStatus.code = List.range 3 ∧
      [LineState.idle, .busy, .stuck].map LineState.code = List.range 3 ∧
      [StartKind.cold, .warm, .commanded].map StartKind.code = List.range 3 ∧
      [FaultCode.lampOpen, .lampOverload, .lampShort, .lampLocked, .rearDeficient, .seatConflict, .seatUnavailable,
        .combinationFull, .frontLinkLost, .presenceFault, .lineDrive, .lineMute, .lineStuck, .demandLost,
        .profileDefault, .identityMissing, .bodyTripped].map FaultCode.code = (List.range 17).map Nat.succ ∧
      [BodyOutcome.none, .stopped, .timedOut, .motion, .parkLost, .tripped, .withdrawn, .started, .notReady, .noChannel,
        .busy, .interlock].map BodyOutcome.code = List.range 12 ∧
      [RelayState.none, .waiting, .sent, .notSent, .answered, .noReply].map RelayState.code = List.range 6 ∧
      [AnswerStatus.ok, .noItem, .busy].map AnswerStatus.code = List.range 3 ∧
      [QueryOutcome.none, .complete, .noItem, .busy, .timeout, .notSent, .invalid, .abandoned].map QueryOutcome.code =
        List.range 8) ∧
    (s.seat.stage ≠ .loading → s.loader.portAddress < 128 →
      (∃ t, exec .stationItemRead s = .next t ∧ t.port.dataOut = (stationBytes { s with port :=
          { s.port with pointer := 0 } }).take 1 ∧ t.port.attn = false ∧ t.port.collision = false ∧
        t.faults = { s.faults with overflow := false } ∧ t.port.pointer = 0 ∧
        { t with port := s.port, faults := s.faults } = s) ∧
      (∀ r, s.port.store.head? = some r → exec .answerStoreRead s =
        .next
          { s with
            port :=
              { s.port with
                store := s.port.store.tail, storeFull := false, pointer := 80, addressAck := true, byteAcks := []
                dataOut := storeBytes r } }) ∧
      (let filled := fun (r : Request) (k : Nat) =>
         { s with
           port :=
             { s.port with
               pointer := 96, slot := some r, slotDue := false, addressAck := true
               byteAcks := List.replicate k true, dataOut := [] } }
       let turnedAway :=
         { s with
           port :=
             { s.port with
               pointer := 96, collision := true, addressAck := true, byteAcks := [true, false], dataOut := [] } }
       (s.port.slot = none →
         exec (.requestBodyStart x y z) s = .next (filled (.bodyStart x.toNat y.toNat z.toNat) 5) ∧
         exec (.requestBodyStop x y z) s = .next (filled (.bodyStop x.toNat y.toNat z.toNat) 5) ∧
         exec .requestRestart s = .next (filled .restart 2)) ∧
       (s.port.slot = none → s.port.query = none →
         exec (.requestQuery x y z w) s = .next (filled (.query x.toNat y.toNat z.toNat w.toNat) 6)) ∧
       (s.port.slot ≠ none →
         exec (.requestBodyStart x y z) s = .next turnedAway ∧ exec (.requestBodyStop x y z) s = .next turnedAway ∧
         exec .requestRestart s = .next turnedAway) ∧
       (s.port.slot ≠ none ∨ s.port.query ≠ none → exec (.requestQuery x y z w) s = .next turnedAway)))

/-- The request in the slot is handed on, and the slot is EMPTY (R198): a body request to the own Body Unit or relayed (R164), a QUERY made
outstanding or turned away (R199; that one made outstanding shows the outcome NONE is DEDUCED, log 17), a RESTART taken as a COMMANDED start
with the retention record lost (R200). MODEL'S CHOICES: the request is taken when the command gives it (log 3), the queue of commands and
the count of free values stand through the start (logs 1 and 6), a frame in flight at a RESTART goes with the queue and is not cut off (log
65), of the record the start clears the mark only, so that the counters become 0 at load done (log 67), and the judgements come last
(log 32). -/
def Obligations.RequestsTakenFromSlot : Prop :=
  ∀ s : State, s.power = .running → ∀ r, s.port.slot = some r →
    let e := { s with port := { s.port with slot := none, slotDue := false } }
    (r = .restart →
      exec .slotTake s =
        .next
          { State.atStart .commanded { s.retention with valid := false } with
            pending := s.pending, freeCount := s.freeCount }) ∧
    (∀ p c g, r = .bodyStart p c g → p = 0 ∨ p = s.seat.ownSeat →
      exec .slotTake s = .next (settle (bodyStart c g e))) ∧
    (∀ p c g, r = .bodyStop p c g → p = 0 ∨ p = s.seat.ownSeat →
      exec .slotTake s = .next (settle (bodyStop c g e))) ∧
    (let relayed := fun (p c g : Nat) (start : Bool) =>
       if s.seated = true then
         offer (.bodyRequest p c start g)
           { e with
             body :=
               { e.body with
                 relay :=
                   { state := .waiting, target := p, channel := c, start := start, tag := g, reply := none,
                     timer := .running 0 500, frameId := s.line.nextId } } }
       else
         { e with
           body :=
             { e.body with
               relay :=
                 { state := .notSent, target := p, channel := c, start := start, tag := g, reply := none,
                   timer := .stopped, frameId := s.line.nextId } } }
     (∀ p c g, r = .bodyStart p c g → p ≠ 0 → p ≠ s.seat.ownSeat →
       exec .slotTake s = .next (settle (relayed p c g true))) ∧
     (∀ p c g, r = .bodyStop p c g → p ≠ 0 → p ≠ s.seat.ownSeat →
       exec .slotTake s = .next (settle (relayed p c g false)))) ∧
    (∀ p c f k, r = .query p c f k →
      (p = 0 ∨ 8 < p ∨ p = s.seat.ownSeat →
        exec .slotTake s =
          .next (settle { e with port := { e.port with query := none, queryOutcome := .invalid } })) ∧
      (1 ≤ p → p ≤ 8 → p ≠ s.seat.ownSeat → s.seated = false →
        exec .slotTake s =
          .next (settle { e with port := { e.port with query := none, queryOutcome := .notSent } })) ∧
      (1 ≤ p → p ≤ 8 → p ≠ s.seat.ownSeat → s.seated = true →
        exec .slotTake s =
          .next (settle (offer (.query p c f k)
            { e with
              port :=
                { e.port with
                  queryOutcome := .none
                  query := some
                    { target := p, cls := c, first := f, count := k, answers := 0, timer := .running 0 250,
                      sent := false, frameId := s.line.nextId } } }))))

/-! ### Invariants that every step keeps, and what commands may not change -/

/-- The reset state meets every invariant stated below. -/
def Obligations.ResetMeetsInvariants : Prop :=
  SeatsOk State.reset ∧ TablesOk State.reset ∧ OwnEntryOk State.reset ∧ OwnSummaryOk State.reset ∧
  LoadingOk State.reset ∧ FrontLinkOk State.reset ∧ ProgressOk State.reset ∧ QueueOk State.reset ∧ SilenceOk State.reset ∧ FaultsOk State.reset ∧ PhaseOk State.reset ∧
  ChannelsOk State.reset ∧ CheckOk State.reset ∧ LampGateOk State.reset ∧ BodiesOk State.reset ∧ LineOk State.reset ∧
  RetainedOk State.reset ∧
  Settled State.reset

/-- Every step keeps the transmit queue in its order and within its limits (R182 to R184), with the frame on the line the station's own
exactly while an entry is in flight (R172), and its entries' numbers, the model's own, apart and below the next one; an unseated station's
queue free of everything but SEAT CLAIMs and a frame that completes (R4, R186); and the counts and runs of the line in their ranges, with
the mute flag set at three drive faults (R169, R177, R180, R185). Which claims an unseated station's queue keeps, what the runs hold and
which frame completes are logs 11, 18 and 29. -/
def Obligations.QueueKept : Prop :=
  ∀ s t : State, step s = .next t →
    (QueueOk s → QueueOk t) ∧ (ProgressOk s → SilenceOk s → SilenceOk t) ∧ (LineOk s → LineOk t)

/-- Every step keeps what is under way fitting the stage (R15, R19, R41, R100), seat numbers seats, the position tables in
their form, the own entry at the own seat with the own identity and the summary of the own fault list (R3, R31, R32, R33,
R81, R143), and LOADING free of what belongs to a seat (R3, R10, R92). -/
def Obligations.RosterKept : Prop :=
  ∀ s t : State, step s = .next t →
    (ProgressOk s → SeatsOk s →
      ProgressOk t ∧ SeatsOk t ∧ (TablesOk s → TablesOk t) ∧ (OwnEntryOk s → OwnEntryOk t) ∧
      (OwnEntryOk s → OwnSummaryOk s → OwnSummaryOk t)) ∧
    (LoadingOk s → LoadingOk t)

/-- Every step keeps the flash phase in the ranges of section 3.1: φ never passes the cycle length (R52, R62 to R65). -/
def Obligations.PhaseKept : Prop := ∀ s t : State, step s = .next t → PhaseOk s → PhaseOk t

/-- Every step keeps the lamp outputs where the rules let them be: a LOCKED channel dark (R98), a lit one of a function that the
stage and the rear-end standing allow (R5, R93, R96, R97), a circuit check within its turn of 50 ms and its pulse of 20 ms (R101), and
every body channel idle outside JOINED, a motion-inhibited one
while the view is MOVING (R151, R156). From load done on the retention record holds each assigned channel's health and retry count as they
stand, with the identity and the seat (R118, R208). That no idle step lets a pulse outlast its 20 ms is log 56. -/
def Obligations.OutputsKept : Prop :=
  ∀ s t : State, step s = .next t →
    (ChannelsOk s → ChannelsOk t) ∧ (BodiesOk s → BodiesOk t) ∧
    (ProgressOk s → CheckOk s → CheckOk t ∧ (LampGateOk s → LampGateOk t)) ∧
    (ProgressOk s → LoadingOk s → RetainedOk s → RetainedOk t)

/-- Every step keeps the fault list in its form (R188) and an unseated station's free of FRONT-LINK-LOST (R25, R30); an entry of a latched
code leaves it at a start only (R190), whether a command is taken or the station idles (what idling takes is logs 2 and 56). -/
def Obligations.FaultListKept : Prop :=
  ∀ s t : State, step s = .next t →
    (FaultsOk s → FaultsOk t) ∧ (ProgressOk s → FrontLinkOk s → FrontLinkOk t) ∧
    ((∀ c, s.taken = some c → restarts c s = false) →
      ∀ e ∈ s.faults.list, e.code.latched = true → e ∈ t.faults.list)

/-- No command moves the station between stages but as chapter 1 gathers it under R9. -/
def Obligations.StagesMoveByRule : Prop :=
  ∀ (c : Instr) (s t : State), exec c s = .next t → ProgressOk s →
    t.seat.stage = s.seat.stage ∨ stageMove c s.seat.stage t.seat.stage = true

/-- What only certain commands change: the identity, the profile, the head flag and the port address stand from load done until
the next start (R206), the mute flag until the next start (R180), and the counters change at a counted edge, at load done and
with the loss of the supply only (R140, R208). That a COMMANDED start itself leaves the counters as they are, until its load done, is the
MODEL'S CHOICE (log 67), and so is that the loss of the supply, of which the rules say that the record is lost, sets them to 0 (log 27). -/
def Obligations.WhatPersists : Prop :=
  ∀ (c : Instr) (s t : State), exec c s = .next t →
    (s.seat.stage ≠ .loading → restarts c s = false → t.loader = s.loader ∧ t.seat.head = s.seat.head) ∧
    (restarts c s = false → s.line.mute = true → t.line.mute = true) ∧
    ((∀ n l, c ≠ .pulseEdge n l) → (∀ p, c ≠ .loadDone p) → c ≠ .supplyLost → t.retention.counts = s.retention.counts)

/-- A frame as it stands on the line, stuffed, is read back whole by a receiver: kind, sender position and payload (R170, R171,
R177); it takes at most 149 bit times. The fields held of a frame under way are the frame's (section 9.1). -/
def Obligations.FrameHeardAsSent : Prop :=
  ∀ (kind sender : Nat) (payload : List Byte) (r : Reception), kind < 16 → sender < 16 → payload.length ≤ 12 →
    hear (frameBits kind sender payload) = .frame kind sender payload ∧
    (frameBits kind sender payload).length ≤ 149 ∧
    (r.bits = frameBits kind sender payload →
      r.kind = some kind ∧ r.sender = some sender ∧ r.length = some payload.length ∧
      ∀ n b, payload[n]? = some b → r.byte n = some b.toNat)
end

