-- ==== Sys2Proof/Laws/State.lean ====
section
/-! SUPPORT. What each plain update leaves unchanged: one lemma per update, saying for every block it does not touch that
the block is as before. -/

namespace Sys2Proof.Machine

variable (s : State)

@[simp] theorem setQueue_keeps (q : List Entry) :
    (s.setQueue q).power = s.power ∧ (s.setQueue q).now = s.now ∧ (s.setQueue q).loader = s.loader ∧
    (s.setQueue q).retention = s.retention ∧ (s.setQueue q).seat = s.seat ∧ (s.setQueue q).roster = s.roster ∧
    (s.setQueue q).phase = s.phase ∧ (s.setQueue q).demand = s.demand ∧ (s.setQueue q).lamps = s.lamps ∧
    (s.setQueue q).rear = s.rear ∧ (s.setQueue q).sensor = s.sensor ∧ (s.setQueue q).body = s.body ∧
    (s.setQueue q).faults = s.faults ∧ (s.setQueue q).port = s.port ∧ (s.setQueue q).freeCount = s.freeCount ∧
    (s.setQueue q).pending = s.pending := by
  refine ⟨rfl, rfl, rfl, rfl, rfl, rfl, rfl, rfl, rfl, rfl, rfl, rfl, rfl, rfl, rfl, rfl⟩

@[simp] theorem endQuery_keeps (o : QueryOutcome) :
    (endQuery o s).power = s.power ∧ (endQuery o s).now = s.now ∧ (endQuery o s).loader = s.loader ∧
    (endQuery o s).retention = s.retention ∧ (endQuery o s).seat = s.seat ∧ (endQuery o s).roster = s.roster ∧
    (endQuery o s).phase = s.phase ∧ (endQuery o s).demand = s.demand ∧ (endQuery o s).lamps = s.lamps ∧
    (endQuery o s).rear = s.rear ∧ (endQuery o s).sensor = s.sensor ∧ (endQuery o s).body = s.body ∧
    (endQuery o s).line = s.line ∧ (endQuery o s).faults = s.faults ∧ (endQuery o s).freeCount = s.freeCount ∧
    (endQuery o s).pending = s.pending := by
  refine ⟨rfl, rfl, rfl, rfl, rfl, rfl, rfl, rfl, rfl, rfl, rfl, rfl, rfl, rfl, rfl, rfl⟩

@[simp] theorem relayNotSent_keeps :
    (relayNotSent s).power = s.power ∧ (relayNotSent s).now = s.now ∧ (relayNotSent s).loader = s.loader ∧
    (relayNotSent s).retention = s.retention ∧ (relayNotSent s).seat = s.seat ∧ (relayNotSent s).roster = s.roster ∧
    (relayNotSent s).phase = s.phase ∧ (relayNotSent s).demand = s.demand ∧ (relayNotSent s).lamps = s.lamps ∧
    (relayNotSent s).rear = s.rear ∧ (relayNotSent s).sensor = s.sensor ∧ (relayNotSent s).line = s.line ∧
    (relayNotSent s).faults = s.faults ∧ (relayNotSent s).port = s.port ∧ (relayNotSent s).freeCount = s.freeCount ∧
    (relayNotSent s).pending = s.pending := by
  refine ⟨rfl, rfl, rfl, rfl, rfl, rfl, rfl, rfl, rfl, rfl, rfl, rfl, rfl, rfl, rfl, rfl⟩

@[simp] theorem countOverflow_keeps :
    (s.countOverflow).power = s.power ∧ (s.countOverflow).now = s.now ∧ (s.countOverflow).loader = s.loader ∧
    (s.countOverflow).retention = s.retention ∧ (s.countOverflow).seat = s.seat ∧
    (s.countOverflow).roster = s.roster ∧ (s.countOverflow).phase = s.phase ∧ (s.countOverflow).demand = s.demand ∧
    (s.countOverflow).lamps = s.lamps ∧ (s.countOverflow).rear = s.rear ∧ (s.countOverflow).sensor = s.sensor ∧
    (s.countOverflow).body = s.body ∧ (s.countOverflow).faults = s.faults ∧ (s.countOverflow).port = s.port ∧
    (s.countOverflow).freeCount = s.freeCount ∧ (s.countOverflow).pending = s.pending := by
  refine ⟨rfl, rfl, rfl, rfl, rfl, rfl, rfl, rfl, rfl, rfl, rfl, rfl, rfl, rfl, rfl, rfl⟩

@[simp] theorem holdFollowOn_keeps (f : Frame) :
    (holdFollowOn f s).power = s.power ∧ (holdFollowOn f s).now = s.now ∧ (holdFollowOn f s).loader = s.loader ∧
    (holdFollowOn f s).retention = s.retention ∧ (holdFollowOn f s).seat = s.seat ∧
    (holdFollowOn f s).roster = s.roster ∧ (holdFollowOn f s).phase = s.phase ∧
    (holdFollowOn f s).demand = s.demand ∧ (holdFollowOn f s).lamps = s.lamps ∧ (holdFollowOn f s).rear = s.rear ∧
    (holdFollowOn f s).sensor = s.sensor ∧ (holdFollowOn f s).body = s.body ∧ (holdFollowOn f s).faults = s.faults ∧
    (holdFollowOn f s).port = s.port ∧ (holdFollowOn f s).freeCount = s.freeCount ∧
    (holdFollowOn f s).pending = s.pending := by
  refine ⟨rfl, rfl, rfl, rfl, rfl, rfl, rfl, rfl, rfl, rfl, rfl, rfl, rfl, rfl, rfl, rfl⟩

@[simp] theorem withdraw_keeps (p : Frame → Bool) :
    (withdraw p s).power = s.power ∧ (withdraw p s).now = s.now ∧ (withdraw p s).loader = s.loader ∧
    (withdraw p s).retention = s.retention ∧ (withdraw p s).seat = s.seat ∧ (withdraw p s).roster = s.roster ∧
    (withdraw p s).phase = s.phase ∧ (withdraw p s).demand = s.demand ∧ (withdraw p s).lamps = s.lamps ∧
    (withdraw p s).rear = s.rear ∧ (withdraw p s).sensor = s.sensor ∧ (withdraw p s).body = s.body ∧
    (withdraw p s).faults = s.faults ∧ (withdraw p s).port = s.port ∧ (withdraw p s).freeCount = s.freeCount ∧
    (withdraw p s).pending = s.pending := by
  refine ⟨rfl, rfl, rfl, rfl, rfl, rfl, rfl, rfl, rfl, rfl, rfl, rfl, rfl, rfl, rfl, rfl⟩

@[simp] theorem withdrawId_keeps (id : Nat) :
    (withdrawId id s).power = s.power ∧ (withdrawId id s).now = s.now ∧ (withdrawId id s).loader = s.loader ∧
    (withdrawId id s).retention = s.retention ∧ (withdrawId id s).seat = s.seat ∧
    (withdrawId id s).roster = s.roster ∧ (withdrawId id s).phase = s.phase ∧ (withdrawId id s).demand = s.demand ∧
    (withdrawId id s).lamps = s.lamps ∧ (withdrawId id s).rear = s.rear ∧ (withdrawId id s).sensor = s.sensor ∧
    (withdrawId id s).body = s.body ∧ (withdrawId id s).faults = s.faults ∧ (withdrawId id s).port = s.port ∧
    (withdrawId id s).freeCount = s.freeCount ∧ (withdrawId id s).pending = s.pending := by
  refine ⟨rfl, rfl, rfl, rfl, rfl, rfl, rfl, rfl, rfl, rfl, rfl, rfl, rfl, rfl, rfl, rfl⟩

@[simp] theorem setFaultOverflow_keeps :
    (setFaultOverflow s).power = s.power ∧ (setFaultOverflow s).now = s.now ∧
    (setFaultOverflow s).loader = s.loader ∧ (setFaultOverflow s).retention = s.retention ∧
    (setFaultOverflow s).seat = s.seat ∧ (setFaultOverflow s).roster = s.roster ∧
    (setFaultOverflow s).phase = s.phase ∧ (setFaultOverflow s).demand = s.demand ∧
    (setFaultOverflow s).lamps = s.lamps ∧ (setFaultOverflow s).rear = s.rear ∧
    (setFaultOverflow s).sensor = s.sensor ∧ (setFaultOverflow s).body = s.body ∧
    (setFaultOverflow s).line = s.line ∧ (setFaultOverflow s).port = s.port ∧
    (setFaultOverflow s).freeCount = s.freeCount ∧ (setFaultOverflow s).pending = s.pending := by
  refine ⟨rfl, rfl, rfl, rfl, rfl, rfl, rfl, rfl, rfl, rfl, rfl, rfl, rfl, rfl, rfl, rfl⟩

@[simp] theorem setChannels_keeps (l : List Channel) :
    (setChannels l s).power = s.power ∧ (setChannels l s).now = s.now ∧ (setChannels l s).loader = s.loader ∧
    (setChannels l s).seat = s.seat ∧ (setChannels l s).roster = s.roster ∧ (setChannels l s).phase = s.phase ∧
    (setChannels l s).demand = s.demand ∧ (setChannels l s).rear = s.rear ∧ (setChannels l s).sensor = s.sensor ∧
    (setChannels l s).body = s.body ∧ (setChannels l s).line = s.line ∧ (setChannels l s).faults = s.faults ∧
    (setChannels l s).port = s.port ∧ (setChannels l s).freeCount = s.freeCount ∧
    (setChannels l s).pending = s.pending := by
  refine ⟨rfl, rfl, rfl, rfl, rfl, rfl, rfl, rfl, rfl, rfl, rfl, rfl, rfl, rfl, rfl⟩

@[simp] theorem modChannel_keeps (n : Nat) (f : Channel → Channel) :
    (modChannel n f s).power = s.power ∧ (modChannel n f s).now = s.now ∧ (modChannel n f s).loader = s.loader ∧
    (modChannel n f s).seat = s.seat ∧ (modChannel n f s).roster = s.roster ∧ (modChannel n f s).phase = s.phase ∧
    (modChannel n f s).demand = s.demand ∧ (modChannel n f s).rear = s.rear ∧ (modChannel n f s).sensor = s.sensor ∧
    (modChannel n f s).body = s.body ∧ (modChannel n f s).line = s.line ∧ (modChannel n f s).faults = s.faults ∧
    (modChannel n f s).port = s.port ∧ (modChannel n f s).freeCount = s.freeCount ∧
    (modChannel n f s).pending = s.pending := by
  refine ⟨rfl, rfl, rfl, rfl, rfl, rfl, rfl, rfl, rfl, rfl, rfl, rfl, rfl, rfl, rfl⟩

@[simp] theorem recordSample_keeps (n i v : Nat) (o : SampleOutcome) :
    (recordSample n i v o s).power = s.power ∧ (recordSample n i v o s).now = s.now ∧
    (recordSample n i v o s).loader = s.loader ∧ (recordSample n i v o s).seat = s.seat ∧
    (recordSample n i v o s).roster = s.roster ∧ (recordSample n i v o s).phase = s.phase ∧
    (recordSample n i v o s).demand = s.demand ∧ (recordSample n i v o s).rear = s.rear ∧
    (recordSample n i v o s).sensor = s.sensor ∧ (recordSample n i v o s).body = s.body ∧
    (recordSample n i v o s).line = s.line ∧ (recordSample n i v o s).faults = s.faults ∧
    (recordSample n i v o s).port = s.port ∧ (recordSample n i v o s).freeCount = s.freeCount ∧
    (recordSample n i v o s).pending = s.pending := by
  refine ⟨rfl, rfl, rfl, rfl, rfl, rfl, rfl, rfl, rfl, rfl, rfl, rfl, rfl, rfl, rfl⟩

@[simp] theorem setRear_keeps (r : RearStatus) :
    (setRear r s).power = s.power ∧ (setRear r s).now = s.now ∧ (setRear r s).loader = s.loader ∧
    (setRear r s).retention = s.retention ∧ (setRear r s).seat = s.seat ∧ (setRear r s).roster = s.roster ∧
    (setRear r s).phase = s.phase ∧ (setRear r s).demand = s.demand ∧ (setRear r s).lamps = s.lamps ∧
    (setRear r s).sensor = s.sensor ∧ (setRear r s).body = s.body ∧ (setRear r s).line = s.line ∧
    (setRear r s).faults = s.faults ∧ (setRear r s).port = s.port ∧ (setRear r s).freeCount = s.freeCount ∧
    (setRear r s).pending = s.pending := by
  refine ⟨rfl, rfl, rfl, rfl, rfl, rfl, rfl, rfl, rfl, rfl, rfl, rfl, rfl, rfl, rfl, rfl⟩

@[simp] theorem setNeighbour_keeps (d : Option Deficiency) :
    (setNeighbour d s).power = s.power ∧ (setNeighbour d s).now = s.now ∧ (setNeighbour d s).loader = s.loader ∧
    (setNeighbour d s).retention = s.retention ∧ (setNeighbour d s).seat = s.seat ∧
    (setNeighbour d s).roster = s.roster ∧ (setNeighbour d s).phase = s.phase ∧
    (setNeighbour d s).demand = s.demand ∧ (setNeighbour d s).lamps = s.lamps ∧
    (setNeighbour d s).sensor = s.sensor ∧ (setNeighbour d s).body = s.body ∧ (setNeighbour d s).line = s.line ∧
    (setNeighbour d s).faults = s.faults ∧ (setNeighbour d s).port = s.port ∧
    (setNeighbour d s).freeCount = s.freeCount ∧ (setNeighbour d s).pending = s.pending := by
  refine ⟨rfl, rfl, rfl, rfl, rfl, rfl, rfl, rfl, rfl, rfl, rfl, rfl, rfl, rfl, rfl, rfl⟩

@[simp] theorem modBody_keeps (n : Nat) (f : BodyChannel → BodyChannel) :
    (modBody n f s).power = s.power ∧ (modBody n f s).now = s.now ∧ (modBody n f s).loader = s.loader ∧
    (modBody n f s).retention = s.retention ∧ (modBody n f s).seat = s.seat ∧ (modBody n f s).roster = s.roster ∧
    (modBody n f s).phase = s.phase ∧ (modBody n f s).demand = s.demand ∧ (modBody n f s).lamps = s.lamps ∧
    (modBody n f s).rear = s.rear ∧ (modBody n f s).sensor = s.sensor ∧ (modBody n f s).line = s.line ∧
    (modBody n f s).faults = s.faults ∧ (modBody n f s).port = s.port ∧ (modBody n f s).freeCount = s.freeCount ∧
    (modBody n f s).pending = s.pending := by
  refine ⟨rfl, rfl, rfl, rfl, rfl, rfl, rfl, rfl, rfl, rfl, rfl, rfl, rfl, rfl, rfl, rfl⟩

@[simp] theorem setRelay_keeps (r : RelayState) :
    (setRelay r s).power = s.power ∧ (setRelay r s).now = s.now ∧ (setRelay r s).loader = s.loader ∧
    (setRelay r s).retention = s.retention ∧ (setRelay r s).seat = s.seat ∧ (setRelay r s).roster = s.roster ∧
    (setRelay r s).phase = s.phase ∧ (setRelay r s).demand = s.demand ∧ (setRelay r s).lamps = s.lamps ∧
    (setRelay r s).rear = s.rear ∧ (setRelay r s).sensor = s.sensor ∧ (setRelay r s).line = s.line ∧
    (setRelay r s).faults = s.faults ∧ (setRelay r s).port = s.port ∧ (setRelay r s).freeCount = s.freeCount ∧
    (setRelay r s).pending = s.pending := by
  refine ⟨rfl, rfl, rfl, rfl, rfl, rfl, rfl, rfl, rfl, rfl, rfl, rfl, rfl, rfl, rfl, rfl⟩

@[simp] theorem stopRelayTimer_keeps :
    (stopRelayTimer s).power = s.power ∧ (stopRelayTimer s).now = s.now ∧ (stopRelayTimer s).loader = s.loader ∧
    (stopRelayTimer s).retention = s.retention ∧ (stopRelayTimer s).seat = s.seat ∧
    (stopRelayTimer s).roster = s.roster ∧ (stopRelayTimer s).phase = s.phase ∧
    (stopRelayTimer s).demand = s.demand ∧ (stopRelayTimer s).lamps = s.lamps ∧ (stopRelayTimer s).rear = s.rear ∧
    (stopRelayTimer s).sensor = s.sensor ∧ (stopRelayTimer s).line = s.line ∧ (stopRelayTimer s).faults = s.faults ∧
    (stopRelayTimer s).port = s.port ∧ (stopRelayTimer s).freeCount = s.freeCount ∧
    (stopRelayTimer s).pending = s.pending := by
  refine ⟨rfl, rfl, rfl, rfl, rfl, rfl, rfl, rfl, rfl, rfl, rfl, rfl, rfl, rfl, rfl, rfl⟩

@[simp] theorem bumpCounter_keeps (n : Nat) :
    (bumpCounter n s).power = s.power ∧ (bumpCounter n s).now = s.now ∧ (bumpCounter n s).loader = s.loader ∧
    (bumpCounter n s).seat = s.seat ∧ (bumpCounter n s).roster = s.roster ∧ (bumpCounter n s).phase = s.phase ∧
    (bumpCounter n s).demand = s.demand ∧ (bumpCounter n s).lamps = s.lamps ∧ (bumpCounter n s).rear = s.rear ∧
    (bumpCounter n s).sensor = s.sensor ∧ (bumpCounter n s).body = s.body ∧ (bumpCounter n s).line = s.line ∧
    (bumpCounter n s).faults = s.faults ∧ (bumpCounter n s).port = s.port ∧
    (bumpCounter n s).freeCount = s.freeCount ∧ (bumpCounter n s).pending = s.pending := by
  refine ⟨rfl, rfl, rfl, rfl, rfl, rfl, rfl, rfl, rfl, rfl, rfl, rfl, rfl, rfl, rfl, rfl⟩

@[simp] theorem judgeView_keeps :
    (judgeView s).power = s.power ∧ (judgeView s).now = s.now ∧ (judgeView s).loader = s.loader ∧
    (judgeView s).retention = s.retention ∧ (judgeView s).seat = s.seat ∧ (judgeView s).roster = s.roster ∧
    (judgeView s).phase = s.phase ∧ (judgeView s).demand = s.demand ∧ (judgeView s).lamps = s.lamps ∧
    (judgeView s).rear = s.rear ∧ (judgeView s).body = s.body ∧ (judgeView s).line = s.line ∧
    (judgeView s).faults = s.faults ∧ (judgeView s).port = s.port ∧ (judgeView s).freeCount = s.freeCount ∧
    (judgeView s).pending = s.pending := by
  refine ⟨rfl, rfl, rfl, rfl, rfl, rfl, rfl, rfl, rfl, rfl, rfl, rfl, rfl, rfl, rfl, rfl⟩

@[simp] theorem judgeEff_keeps :
    (judgeEff s).power = s.power ∧ (judgeEff s).now = s.now ∧ (judgeEff s).loader = s.loader ∧
    (judgeEff s).retention = s.retention ∧ (judgeEff s).seat = s.seat ∧ (judgeEff s).roster = s.roster ∧
    (judgeEff s).phase = s.phase ∧ (judgeEff s).lamps = s.lamps ∧ (judgeEff s).rear = s.rear ∧
    (judgeEff s).sensor = s.sensor ∧ (judgeEff s).body = s.body ∧ (judgeEff s).line = s.line ∧
    (judgeEff s).faults = s.faults ∧ (judgeEff s).port = s.port ∧ (judgeEff s).freeCount = s.freeCount ∧
    (judgeEff s).pending = s.pending := by
  refine ⟨rfl, rfl, rfl, rfl, rfl, rfl, rfl, rfl, rfl, rfl, rfl, rfl, rfl, rfl, rfl, rfl⟩

@[simp] theorem judgeGates_keeps :
    (judgeGates s).power = s.power ∧ (judgeGates s).now = s.now ∧ (judgeGates s).loader = s.loader ∧
    (judgeGates s).retention = s.retention ∧ (judgeGates s).seat = s.seat ∧ (judgeGates s).roster = s.roster ∧
    (judgeGates s).phase = s.phase ∧ (judgeGates s).lamps = s.lamps ∧ (judgeGates s).rear = s.rear ∧
    (judgeGates s).sensor = s.sensor ∧ (judgeGates s).body = s.body ∧ (judgeGates s).line = s.line ∧
    (judgeGates s).faults = s.faults ∧ (judgeGates s).port = s.port ∧ (judgeGates s).freeCount = s.freeCount ∧
    (judgeGates s).pending = s.pending := by
  refine ⟨rfl, rfl, rfl, rfl, rfl, rfl, rfl, rfl, rfl, rfl, rfl, rfl, rfl, rfl, rfl, rfl⟩

@[simp] theorem judgeLamps_keeps :
    (judgeLamps s).power = s.power ∧ (judgeLamps s).now = s.now ∧ (judgeLamps s).loader = s.loader ∧
    (judgeLamps s).seat = s.seat ∧ (judgeLamps s).roster = s.roster ∧ (judgeLamps s).phase = s.phase ∧
    (judgeLamps s).demand = s.demand ∧ (judgeLamps s).rear = s.rear ∧ (judgeLamps s).sensor = s.sensor ∧
    (judgeLamps s).body = s.body ∧ (judgeLamps s).line = s.line ∧ (judgeLamps s).faults = s.faults ∧
    (judgeLamps s).port = s.port ∧ (judgeLamps s).freeCount = s.freeCount ∧ (judgeLamps s).pending = s.pending := by
  refine ⟨rfl, rfl, rfl, rfl, rfl, rfl, rfl, rfl, rfl, rfl, rfl, rfl, rfl, rfl, rfl⟩

@[simp] theorem startOfferTimer_keeps :
    (startOfferTimer s).power = s.power ∧ (startOfferTimer s).now = s.now ∧ (startOfferTimer s).loader = s.loader ∧
    (startOfferTimer s).retention = s.retention ∧ (startOfferTimer s).roster = s.roster ∧
    (startOfferTimer s).phase = s.phase ∧ (startOfferTimer s).demand = s.demand ∧
    (startOfferTimer s).lamps = s.lamps ∧ (startOfferTimer s).rear = s.rear ∧ (startOfferTimer s).sensor = s.sensor ∧
    (startOfferTimer s).body = s.body ∧ (startOfferTimer s).line = s.line ∧ (startOfferTimer s).faults = s.faults ∧
    (startOfferTimer s).port = s.port ∧ (startOfferTimer s).freeCount = s.freeCount ∧
    (startOfferTimer s).pending = s.pending := by
  refine ⟨rfl, rfl, rfl, rfl, rfl, rfl, rfl, rfl, rfl, rfl, rfl, rfl, rfl, rfl, rfl, rfl⟩

@[simp] theorem setStage_keeps (g : Stage) :
    (setStage g s).power = s.power ∧ (setStage g s).now = s.now ∧ (setStage g s).loader = s.loader ∧
    (setStage g s).retention = s.retention ∧ (setStage g s).roster = s.roster ∧ (setStage g s).phase = s.phase ∧
    (setStage g s).demand = s.demand ∧ (setStage g s).lamps = s.lamps ∧ (setStage g s).rear = s.rear ∧
    (setStage g s).sensor = s.sensor ∧ (setStage g s).body = s.body ∧ (setStage g s).line = s.line ∧
    (setStage g s).faults = s.faults ∧ (setStage g s).port = s.port ∧ (setStage g s).freeCount = s.freeCount ∧
    (setStage g s).pending = s.pending := by
  refine ⟨rfl, rfl, rfl, rfl, rfl, rfl, rfl, rfl, rfl, rfl, rfl, rfl, rfl, rfl, rfl, rfl⟩

@[simp] theorem retainSeat_keeps (n : Nat) :
    (retainSeat n s).power = s.power ∧ (retainSeat n s).now = s.now ∧ (retainSeat n s).loader = s.loader ∧
    (retainSeat n s).seat = s.seat ∧ (retainSeat n s).roster = s.roster ∧ (retainSeat n s).phase = s.phase ∧
    (retainSeat n s).demand = s.demand ∧ (retainSeat n s).lamps = s.lamps ∧ (retainSeat n s).rear = s.rear ∧
    (retainSeat n s).sensor = s.sensor ∧ (retainSeat n s).body = s.body ∧ (retainSeat n s).line = s.line ∧
    (retainSeat n s).faults = s.faults ∧ (retainSeat n s).port = s.port ∧ (retainSeat n s).freeCount = s.freeCount ∧
    (retainSeat n s).pending = s.pending := by
  refine ⟨rfl, rfl, rfl, rfl, rfl, rfl, rfl, rfl, rfl, rfl, rfl, rfl, rfl, rfl, rfl, rfl⟩

@[simp] theorem setAnnounce_keeps (a : Option Sending) :
    (setAnnounce a s).power = s.power ∧ (setAnnounce a s).now = s.now ∧ (setAnnounce a s).loader = s.loader ∧
    (setAnnounce a s).retention = s.retention ∧ (setAnnounce a s).seat = s.seat ∧ (setAnnounce a s).phase = s.phase ∧
    (setAnnounce a s).demand = s.demand ∧ (setAnnounce a s).lamps = s.lamps ∧ (setAnnounce a s).rear = s.rear ∧
    (setAnnounce a s).sensor = s.sensor ∧ (setAnnounce a s).body = s.body ∧ (setAnnounce a s).line = s.line ∧
    (setAnnounce a s).faults = s.faults ∧ (setAnnounce a s).port = s.port ∧
    (setAnnounce a s).freeCount = s.freeCount ∧ (setAnnounce a s).pending = s.pending := by
  refine ⟨rfl, rfl, rfl, rfl, rfl, rfl, rfl, rfl, rfl, rfl, rfl, rfl, rfl, rfl, rfl, rfl⟩

@[simp] theorem setAnswering_keeps (a : Option Answering) :
    (setAnswering a s).power = s.power ∧ (setAnswering a s).now = s.now ∧ (setAnswering a s).loader = s.loader ∧
    (setAnswering a s).retention = s.retention ∧ (setAnswering a s).seat = s.seat ∧
    (setAnswering a s).roster = s.roster ∧ (setAnswering a s).phase = s.phase ∧
    (setAnswering a s).demand = s.demand ∧ (setAnswering a s).lamps = s.lamps ∧ (setAnswering a s).rear = s.rear ∧
    (setAnswering a s).sensor = s.sensor ∧ (setAnswering a s).body = s.body ∧ (setAnswering a s).line = s.line ∧
    (setAnswering a s).faults = s.faults ∧ (setAnswering a s).freeCount = s.freeCount ∧
    (setAnswering a s).pending = s.pending := by
  refine ⟨rfl, rfl, rfl, rfl, rfl, rfl, rfl, rfl, rfl, rfl, rfl, rfl, rfl, rfl, rfl, rfl⟩

@[simp] theorem setDue_keeps :
    (setDue s).power = s.power ∧ (setDue s).now = s.now ∧ (setDue s).loader = s.loader ∧
    (setDue s).retention = s.retention ∧ (setDue s).seat = s.seat ∧ (setDue s).phase = s.phase ∧
    (setDue s).demand = s.demand ∧ (setDue s).lamps = s.lamps ∧ (setDue s).rear = s.rear ∧
    (setDue s).sensor = s.sensor ∧ (setDue s).body = s.body ∧ (setDue s).line = s.line ∧
    (setDue s).faults = s.faults ∧ (setDue s).port = s.port ∧ (setDue s).freeCount = s.freeCount ∧
    (setDue s).pending = s.pending := by
  refine ⟨rfl, rfl, rfl, rfl, rfl, rfl, rfl, rfl, rfl, rfl, rfl, rfl, rfl, rfl, rfl, rfl⟩

@[simp] theorem dropDemand_keeps (p : Nat) :
    (dropDemand p s).power = s.power ∧ (dropDemand p s).now = s.now ∧ (dropDemand p s).loader = s.loader ∧
    (dropDemand p s).retention = s.retention ∧ (dropDemand p s).seat = s.seat ∧ (dropDemand p s).roster = s.roster ∧
    (dropDemand p s).phase = s.phase ∧ (dropDemand p s).lamps = s.lamps ∧ (dropDemand p s).rear = s.rear ∧
    (dropDemand p s).sensor = s.sensor ∧ (dropDemand p s).body = s.body ∧ (dropDemand p s).line = s.line ∧
    (dropDemand p s).faults = s.faults ∧ (dropDemand p s).port = s.port ∧ (dropDemand p s).freeCount = s.freeCount ∧
    (dropDemand p s).pending = s.pending := by
  refine ⟨rfl, rfl, rfl, rfl, rfl, rfl, rfl, rfl, rfl, rfl, rfl, rfl, rfl, rfl, rfl, rfl⟩

@[simp] theorem setHold_keeps (n : Nat) (t : Timer) :
    (setHold n t s).power = s.power ∧ (setHold n t s).now = s.now ∧ (setHold n t s).loader = s.loader ∧
    (setHold n t s).retention = s.retention ∧ (setHold n t s).seat = s.seat ∧ (setHold n t s).roster = s.roster ∧
    (setHold n t s).phase = s.phase ∧ (setHold n t s).lamps = s.lamps ∧ (setHold n t s).rear = s.rear ∧
    (setHold n t s).sensor = s.sensor ∧ (setHold n t s).body = s.body ∧ (setHold n t s).line = s.line ∧
    (setHold n t s).faults = s.faults ∧ (setHold n t s).port = s.port ∧ (setHold n t s).freeCount = s.freeCount ∧
    (setHold n t s).pending = s.pending := by
  refine ⟨rfl, rfl, rfl, rfl, rfl, rfl, rfl, rfl, rfl, rfl, rfl, rfl, rfl, rfl, rfl, rfl⟩

@[simp] theorem countMalformed_keeps :
    (countMalformed s).power = s.power ∧ (countMalformed s).now = s.now ∧ (countMalformed s).loader = s.loader ∧
    (countMalformed s).retention = s.retention ∧ (countMalformed s).seat = s.seat ∧
    (countMalformed s).roster = s.roster ∧ (countMalformed s).phase = s.phase ∧
    (countMalformed s).demand = s.demand ∧ (countMalformed s).lamps = s.lamps ∧ (countMalformed s).rear = s.rear ∧
    (countMalformed s).sensor = s.sensor ∧ (countMalformed s).body = s.body ∧ (countMalformed s).faults = s.faults ∧
    (countMalformed s).port = s.port ∧ (countMalformed s).freeCount = s.freeCount ∧
    (countMalformed s).pending = s.pending := by
  refine ⟨rfl, rfl, rfl, rfl, rfl, rfl, rfl, rfl, rfl, rfl, rfl, rfl, rfl, rfl, rfl, rfl⟩

@[simp] theorem setLine_keeps (l : LineState) (r d : Nat) :
    (setLine l r d s).power = s.power ∧ (setLine l r d s).now = s.now ∧ (setLine l r d s).loader = s.loader ∧
    (setLine l r d s).retention = s.retention ∧ (setLine l r d s).seat = s.seat ∧
    (setLine l r d s).roster = s.roster ∧ (setLine l r d s).phase = s.phase ∧ (setLine l r d s).demand = s.demand ∧
    (setLine l r d s).lamps = s.lamps ∧ (setLine l r d s).rear = s.rear ∧ (setLine l r d s).sensor = s.sensor ∧
    (setLine l r d s).body = s.body ∧ (setLine l r d s).faults = s.faults ∧ (setLine l r d s).port = s.port ∧
    (setLine l r d s).freeCount = s.freeCount ∧ (setLine l r d s).pending = s.pending := by
  refine ⟨rfl, rfl, rfl, rfl, rfl, rfl, rfl, rfl, rfl, rfl, rfl, rfl, rfl, rfl, rfl, rfl⟩

@[simp] theorem noteStart_keeps (b : Bool) :
    (noteStart b s).power = s.power ∧ (noteStart b s).now = s.now ∧ (noteStart b s).loader = s.loader ∧
    (noteStart b s).retention = s.retention ∧ (noteStart b s).seat = s.seat ∧ (noteStart b s).roster = s.roster ∧
    (noteStart b s).phase = s.phase ∧ (noteStart b s).demand = s.demand ∧ (noteStart b s).lamps = s.lamps ∧
    (noteStart b s).rear = s.rear ∧ (noteStart b s).sensor = s.sensor ∧ (noteStart b s).body = s.body ∧
    (noteStart b s).faults = s.faults ∧ (noteStart b s).port = s.port ∧ (noteStart b s).freeCount = s.freeCount ∧
    (noteStart b s).pending = s.pending := by
  refine ⟨rfl, rfl, rfl, rfl, rfl, rfl, rfl, rfl, rfl, rfl, rfl, rfl, rfl, rfl, rfl, rfl⟩

@[simp] theorem dropReception_keeps :
    (dropReception s).power = s.power ∧ (dropReception s).now = s.now ∧ (dropReception s).loader = s.loader ∧
    (dropReception s).retention = s.retention ∧ (dropReception s).seat = s.seat ∧
    (dropReception s).roster = s.roster ∧ (dropReception s).phase = s.phase ∧ (dropReception s).demand = s.demand ∧
    (dropReception s).lamps = s.lamps ∧ (dropReception s).rear = s.rear ∧ (dropReception s).sensor = s.sensor ∧
    (dropReception s).body = s.body ∧ (dropReception s).faults = s.faults ∧ (dropReception s).port = s.port ∧
    (dropReception s).freeCount = s.freeCount ∧ (dropReception s).pending = s.pending := by
  refine ⟨rfl, rfl, rfl, rfl, rfl, rfl, rfl, rfl, rfl, rfl, rfl, rfl, rfl, rfl, rfl, rfl⟩

@[simp] theorem enableDriver_keeps :
    (enableDriver s).power = s.power ∧ (enableDriver s).now = s.now ∧ (enableDriver s).loader = s.loader ∧
    (enableDriver s).retention = s.retention ∧ (enableDriver s).seat = s.seat ∧ (enableDriver s).roster = s.roster ∧
    (enableDriver s).phase = s.phase ∧ (enableDriver s).demand = s.demand ∧ (enableDriver s).lamps = s.lamps ∧
    (enableDriver s).rear = s.rear ∧ (enableDriver s).sensor = s.sensor ∧ (enableDriver s).body = s.body ∧
    (enableDriver s).faults = s.faults ∧ (enableDriver s).port = s.port ∧ (enableDriver s).freeCount = s.freeCount ∧
    (enableDriver s).pending = s.pending := by
  refine ⟨rfl, rfl, rfl, rfl, rfl, rfl, rfl, rfl, rfl, rfl, rfl, rfl, rfl, rfl, rfl, rfl⟩

@[simp] theorem lineQuiet_keeps :
    (lineQuiet s).power = s.power ∧ (lineQuiet s).now = s.now ∧ (lineQuiet s).loader = s.loader ∧
    (lineQuiet s).retention = s.retention ∧ (lineQuiet s).seat = s.seat ∧ (lineQuiet s).roster = s.roster ∧
    (lineQuiet s).phase = s.phase ∧ (lineQuiet s).demand = s.demand ∧ (lineQuiet s).lamps = s.lamps ∧
    (lineQuiet s).rear = s.rear ∧ (lineQuiet s).sensor = s.sensor ∧ (lineQuiet s).body = s.body ∧
    (lineQuiet s).faults = s.faults ∧ (lineQuiet s).port = s.port ∧ (lineQuiet s).freeCount = s.freeCount ∧
    (lineQuiet s).pending = s.pending := by
  refine ⟨rfl, rfl, rfl, rfl, rfl, rfl, rfl, rfl, rfl, rfl, rfl, rfl, rfl, rfl, rfl, rfl⟩

@[simp] theorem frameHeard_keeps (k p : Nat) (d : List Byte) :
    (frameHeard k p d s).power = s.power ∧ (frameHeard k p d s).now = s.now ∧
    (frameHeard k p d s).loader = s.loader ∧ (frameHeard k p d s).retention = s.retention ∧
    (frameHeard k p d s).roster = s.roster ∧ (frameHeard k p d s).phase = s.phase ∧
    (frameHeard k p d s).demand = s.demand ∧ (frameHeard k p d s).lamps = s.lamps ∧
    (frameHeard k p d s).rear = s.rear ∧ (frameHeard k p d s).sensor = s.sensor ∧
    (frameHeard k p d s).body = s.body ∧ (frameHeard k p d s).faults = s.faults ∧
    (frameHeard k p d s).port = s.port ∧ (frameHeard k p d s).freeCount = s.freeCount ∧
    (frameHeard k p d s).pending = s.pending := by
  refine ⟨rfl, rfl, rfl, rfl, rfl, rfl, rfl, rfl, rfl, rfl, rfl, rfl, rfl, rfl, rfl⟩

@[simp] theorem goOnReceiving_keeps :
    (goOnReceiving s).power = s.power ∧ (goOnReceiving s).now = s.now ∧ (goOnReceiving s).loader = s.loader ∧
    (goOnReceiving s).retention = s.retention ∧ (goOnReceiving s).seat = s.seat ∧
    (goOnReceiving s).roster = s.roster ∧ (goOnReceiving s).phase = s.phase ∧ (goOnReceiving s).demand = s.demand ∧
    (goOnReceiving s).lamps = s.lamps ∧ (goOnReceiving s).rear = s.rear ∧ (goOnReceiving s).sensor = s.sensor ∧
    (goOnReceiving s).body = s.body ∧ (goOnReceiving s).faults = s.faults ∧ (goOnReceiving s).port = s.port ∧
    (goOnReceiving s).freeCount = s.freeCount ∧ (goOnReceiving s).pending = s.pending := by
  refine ⟨rfl, rfl, rfl, rfl, rfl, rfl, rfl, rfl, rfl, rfl, rfl, rfl, rfl, rfl, rfl, rfl⟩

@[simp] theorem readOwnEnd_keeps :
    (readOwnEnd s).power = s.power ∧ (readOwnEnd s).now = s.now ∧ (readOwnEnd s).loader = s.loader ∧
    (readOwnEnd s).retention = s.retention ∧ (readOwnEnd s).seat = s.seat ∧ (readOwnEnd s).roster = s.roster ∧
    (readOwnEnd s).phase = s.phase ∧ (readOwnEnd s).demand = s.demand ∧ (readOwnEnd s).lamps = s.lamps ∧
    (readOwnEnd s).rear = s.rear ∧ (readOwnEnd s).sensor = s.sensor ∧ (readOwnEnd s).body = s.body ∧
    (readOwnEnd s).faults = s.faults ∧ (readOwnEnd s).port = s.port ∧ (readOwnEnd s).freeCount = s.freeCount ∧
    (readOwnEnd s).pending = s.pending := by
  refine ⟨rfl, rfl, rfl, rfl, rfl, rfl, rfl, rfl, rfl, rfl, rfl, rfl, rfl, rfl, rfl, rfl⟩

@[simp] theorem readSoFar_keeps (l : List Bool) :
    (readSoFar l s).power = s.power ∧ (readSoFar l s).now = s.now ∧ (readSoFar l s).loader = s.loader ∧
    (readSoFar l s).retention = s.retention ∧ (readSoFar l s).seat = s.seat ∧ (readSoFar l s).roster = s.roster ∧
    (readSoFar l s).phase = s.phase ∧ (readSoFar l s).demand = s.demand ∧ (readSoFar l s).lamps = s.lamps ∧
    (readSoFar l s).rear = s.rear ∧ (readSoFar l s).sensor = s.sensor ∧ (readSoFar l s).body = s.body ∧
    (readSoFar l s).faults = s.faults ∧ (readSoFar l s).port = s.port ∧ (readSoFar l s).freeCount = s.freeCount ∧
    (readSoFar l s).pending = s.pending := by
  refine ⟨rfl, rfl, rfl, rfl, rfl, rfl, rfl, rfl, rfl, rfl, rfl, rfl, rfl, rfl, rfl, rfl⟩

@[simp] theorem failedAttempt_keeps :
    (failedAttempt s).power = s.power ∧ (failedAttempt s).now = s.now ∧ (failedAttempt s).retention = s.retention ∧
    (failedAttempt s).seat = s.seat ∧ (failedAttempt s).roster = s.roster ∧ (failedAttempt s).phase = s.phase ∧
    (failedAttempt s).demand = s.demand ∧ (failedAttempt s).lamps = s.lamps ∧ (failedAttempt s).rear = s.rear ∧
    (failedAttempt s).sensor = s.sensor ∧ (failedAttempt s).body = s.body ∧ (failedAttempt s).line = s.line ∧
    (failedAttempt s).faults = s.faults ∧ (failedAttempt s).port = s.port ∧
    (failedAttempt s).freeCount = s.freeCount ∧ (failedAttempt s).pending = s.pending := by
  refine ⟨rfl, rfl, rfl, rfl, rfl, rfl, rfl, rfl, rfl, rfl, rfl, rfl, rfl, rfl, rfl, rfl⟩

@[simp] theorem oweBusy_keeps (b : OwedBusy) :
    (oweBusy b s).power = s.power ∧ (oweBusy b s).now = s.now ∧ (oweBusy b s).loader = s.loader ∧
    (oweBusy b s).retention = s.retention ∧ (oweBusy b s).seat = s.seat ∧ (oweBusy b s).roster = s.roster ∧
    (oweBusy b s).phase = s.phase ∧ (oweBusy b s).demand = s.demand ∧ (oweBusy b s).lamps = s.lamps ∧
    (oweBusy b s).rear = s.rear ∧ (oweBusy b s).sensor = s.sensor ∧ (oweBusy b s).body = s.body ∧
    (oweBusy b s).line = s.line ∧ (oweBusy b s).faults = s.faults ∧ (oweBusy b s).freeCount = s.freeCount ∧
    (oweBusy b s).pending = s.pending := by
  refine ⟨rfl, rfl, rfl, rfl, rfl, rfl, rfl, rfl, rfl, rfl, rfl, rfl, rfl, rfl, rfl, rfl⟩

@[simp] theorem hearClaim_keeps (p : Nat) :
    (hearClaim p s).power = s.power ∧ (hearClaim p s).now = s.now ∧ (hearClaim p s).loader = s.loader ∧
    (hearClaim p s).retention = s.retention ∧ (hearClaim p s).roster = s.roster ∧ (hearClaim p s).phase = s.phase ∧
    (hearClaim p s).demand = s.demand ∧ (hearClaim p s).lamps = s.lamps ∧ (hearClaim p s).rear = s.rear ∧
    (hearClaim p s).sensor = s.sensor ∧ (hearClaim p s).body = s.body ∧ (hearClaim p s).line = s.line ∧
    (hearClaim p s).faults = s.faults ∧ (hearClaim p s).port = s.port ∧ (hearClaim p s).freeCount = s.freeCount ∧
    (hearClaim p s).pending = s.pending := by
  refine ⟨rfl, rfl, rfl, rfl, rfl, rfl, rfl, rfl, rfl, rfl, rfl, rfl, rfl, rfl, rfl, rfl⟩

@[simp] theorem insertClaim_keeps (p : Nat) (e : RosterEntry) :
    (insertClaim p e s).power = s.power ∧ (insertClaim p e s).now = s.now ∧ (insertClaim p e s).loader = s.loader ∧
    (insertClaim p e s).retention = s.retention ∧ (insertClaim p e s).seat = s.seat ∧
    (insertClaim p e s).phase = s.phase ∧ (insertClaim p e s).demand = s.demand ∧
    (insertClaim p e s).lamps = s.lamps ∧ (insertClaim p e s).rear = s.rear ∧ (insertClaim p e s).sensor = s.sensor ∧
    (insertClaim p e s).body = s.body ∧ (insertClaim p e s).line = s.line ∧ (insertClaim p e s).faults = s.faults ∧
    (insertClaim p e s).port = s.port ∧ (insertClaim p e s).freeCount = s.freeCount ∧
    (insertClaim p e s).pending = s.pending := by
  refine ⟨rfl, rfl, rfl, rfl, rfl, rfl, rfl, rfl, rfl, rfl, rfl, rfl, rfl, rfl, rfl, rfl⟩

@[simp] theorem takeCounts_keeps (p : Nat) (m : Bool) :
    (takeCounts p m s).power = s.power ∧ (takeCounts p m s).now = s.now ∧ (takeCounts p m s).loader = s.loader ∧
    (takeCounts p m s).retention = s.retention ∧ (takeCounts p m s).seat = s.seat ∧
    (takeCounts p m s).roster = s.roster ∧ (takeCounts p m s).phase = s.phase ∧
    (takeCounts p m s).demand = s.demand ∧ (takeCounts p m s).lamps = s.lamps ∧ (takeCounts p m s).rear = s.rear ∧
    (takeCounts p m s).body = s.body ∧ (takeCounts p m s).line = s.line ∧ (takeCounts p m s).faults = s.faults ∧
    (takeCounts p m s).port = s.port ∧ (takeCounts p m s).freeCount = s.freeCount ∧
    (takeCounts p m s).pending = s.pending := by
  refine ⟨rfl, rfl, rfl, rfl, rfl, rfl, rfl, rfl, rfl, rfl, rfl, rfl, rfl, rfl, rfl, rfl⟩

@[simp] theorem takeDemand_keeps (p : Nat) (m f : Byte) :
    (takeDemand p m f s).power = s.power ∧ (takeDemand p m f s).now = s.now ∧
    (takeDemand p m f s).loader = s.loader ∧ (takeDemand p m f s).retention = s.retention ∧
    (takeDemand p m f s).seat = s.seat ∧ (takeDemand p m f s).roster = s.roster ∧
    (takeDemand p m f s).phase = s.phase ∧ (takeDemand p m f s).lamps = s.lamps ∧
    (takeDemand p m f s).rear = s.rear ∧ (takeDemand p m f s).sensor = s.sensor ∧
    (takeDemand p m f s).body = s.body ∧ (takeDemand p m f s).line = s.line ∧
    (takeDemand p m f s).faults = s.faults ∧ (takeDemand p m f s).port = s.port ∧
    (takeDemand p m f s).freeCount = s.freeCount ∧ (takeDemand p m f s).pending = s.pending := by
  refine ⟨rfl, rfl, rfl, rfl, rfl, rfl, rfl, rfl, rfl, rfl, rfl, rfl, rfl, rfl, rfl, rfl⟩

@[simp] theorem staleEntry_keeps (p : Nat) :
    (staleEntry p s).power = s.power ∧ (staleEntry p s).now = s.now ∧ (staleEntry p s).loader = s.loader ∧
    (staleEntry p s).retention = s.retention ∧ (staleEntry p s).seat = s.seat ∧ (staleEntry p s).roster = s.roster ∧
    (staleEntry p s).phase = s.phase ∧ (staleEntry p s).demand = s.demand ∧ (staleEntry p s).lamps = s.lamps ∧
    (staleEntry p s).rear = s.rear ∧ (staleEntry p s).body = s.body ∧ (staleEntry p s).line = s.line ∧
    (staleEntry p s).faults = s.faults ∧ (staleEntry p s).port = s.port ∧ (staleEntry p s).freeCount = s.freeCount ∧
    (staleEntry p s).pending = s.pending := by
  refine ⟨rfl, rfl, rfl, rfl, rfl, rfl, rfl, rfl, rfl, rfl, rfl, rfl, rfl, rfl, rfl, rfl⟩

@[simp] theorem takePresent_keeps (p : Nat) :
    (takePresent p s).power = s.power ∧ (takePresent p s).now = s.now ∧ (takePresent p s).loader = s.loader ∧
    (takePresent p s).retention = s.retention ∧ (takePresent p s).roster = s.roster ∧
    (takePresent p s).phase = s.phase ∧ (takePresent p s).demand = s.demand ∧ (takePresent p s).lamps = s.lamps ∧
    (takePresent p s).rear = s.rear ∧ (takePresent p s).sensor = s.sensor ∧ (takePresent p s).body = s.body ∧
    (takePresent p s).line = s.line ∧ (takePresent p s).faults = s.faults ∧ (takePresent p s).port = s.port ∧
    (takePresent p s).freeCount = s.freeCount ∧ (takePresent p s).pending = s.pending := by
  refine ⟨rfl, rfl, rfl, rfl, rfl, rfl, rfl, rfl, rfl, rfl, rfl, rfl, rfl, rfl, rfl, rfl⟩

@[simp] theorem relayReply_keeps (r : Bool) (o : BodyOutcome) :
    (relayReply r o s).power = s.power ∧ (relayReply r o s).now = s.now ∧ (relayReply r o s).loader = s.loader ∧
    (relayReply r o s).retention = s.retention ∧ (relayReply r o s).seat = s.seat ∧
    (relayReply r o s).roster = s.roster ∧ (relayReply r o s).phase = s.phase ∧
    (relayReply r o s).demand = s.demand ∧ (relayReply r o s).lamps = s.lamps ∧ (relayReply r o s).rear = s.rear ∧
    (relayReply r o s).sensor = s.sensor ∧ (relayReply r o s).line = s.line ∧ (relayReply r o s).faults = s.faults ∧
    (relayReply r o s).port = s.port ∧ (relayReply r o s).freeCount = s.freeCount ∧
    (relayReply r o s).pending = s.pending := by
  refine ⟨rfl, rfl, rfl, rfl, rfl, rfl, rfl, rfl, rfl, rfl, rfl, rfl, rfl, rfl, rfl, rfl⟩

@[simp] theorem setCollecting_keeps (p : Nat) (c : Option Collecting) :
    (setCollecting p c s).power = s.power ∧ (setCollecting p c s).now = s.now ∧
    (setCollecting p c s).loader = s.loader ∧ (setCollecting p c s).retention = s.retention ∧
    (setCollecting p c s).seat = s.seat ∧ (setCollecting p c s).phase = s.phase ∧
    (setCollecting p c s).demand = s.demand ∧ (setCollecting p c s).lamps = s.lamps ∧
    (setCollecting p c s).rear = s.rear ∧ (setCollecting p c s).sensor = s.sensor ∧
    (setCollecting p c s).body = s.body ∧ (setCollecting p c s).line = s.line ∧
    (setCollecting p c s).faults = s.faults ∧ (setCollecting p c s).port = s.port ∧
    (setCollecting p c s).freeCount = s.freeCount ∧ (setCollecting p c s).pending = s.pending := by
  refine ⟨rfl, rfl, rfl, rfl, rfl, rfl, rfl, rfl, rfl, rfl, rfl, rfl, rfl, rfl, rfl, rfl⟩

@[simp] theorem setBus_keeps (a : Bool) (l : List Bool) (o : List Byte) :
    (setBus a l o s).power = s.power ∧ (setBus a l o s).now = s.now ∧ (setBus a l o s).loader = s.loader ∧
    (setBus a l o s).retention = s.retention ∧ (setBus a l o s).seat = s.seat ∧ (setBus a l o s).roster = s.roster ∧
    (setBus a l o s).phase = s.phase ∧ (setBus a l o s).demand = s.demand ∧ (setBus a l o s).lamps = s.lamps ∧
    (setBus a l o s).rear = s.rear ∧ (setBus a l o s).sensor = s.sensor ∧ (setBus a l o s).body = s.body ∧
    (setBus a l o s).line = s.line ∧ (setBus a l o s).faults = s.faults ∧ (setBus a l o s).freeCount = s.freeCount ∧
    (setBus a l o s).pending = s.pending := by
  refine ⟨rfl, rfl, rfl, rfl, rfl, rfl, rfl, rfl, rfl, rfl, rfl, rfl, rfl, rfl, rfl, rfl⟩

@[simp] theorem setPointer_keeps (p : Nat) :
    (setPointer p s).power = s.power ∧ (setPointer p s).now = s.now ∧ (setPointer p s).loader = s.loader ∧
    (setPointer p s).retention = s.retention ∧ (setPointer p s).seat = s.seat ∧ (setPointer p s).roster = s.roster ∧
    (setPointer p s).phase = s.phase ∧ (setPointer p s).demand = s.demand ∧ (setPointer p s).lamps = s.lamps ∧
    (setPointer p s).rear = s.rear ∧ (setPointer p s).sensor = s.sensor ∧ (setPointer p s).body = s.body ∧
    (setPointer p s).line = s.line ∧ (setPointer p s).faults = s.faults ∧ (setPointer p s).freeCount = s.freeCount ∧
    (setPointer p s).pending = s.pending := by
  refine ⟨rfl, rfl, rfl, rfl, rfl, rfl, rfl, rfl, rfl, rfl, rfl, rfl, rfl, rfl, rfl, rfl⟩

@[simp] theorem clearStationFlags_keeps :
    (clearStationFlags s).power = s.power ∧ (clearStationFlags s).now = s.now ∧
    (clearStationFlags s).loader = s.loader ∧ (clearStationFlags s).retention = s.retention ∧
    (clearStationFlags s).seat = s.seat ∧ (clearStationFlags s).roster = s.roster ∧
    (clearStationFlags s).phase = s.phase ∧ (clearStationFlags s).demand = s.demand ∧
    (clearStationFlags s).lamps = s.lamps ∧ (clearStationFlags s).rear = s.rear ∧
    (clearStationFlags s).sensor = s.sensor ∧ (clearStationFlags s).body = s.body ∧
    (clearStationFlags s).line = s.line ∧ (clearStationFlags s).freeCount = s.freeCount ∧
    (clearStationFlags s).pending = s.pending := by
  refine ⟨rfl, rfl, rfl, rfl, rfl, rfl, rfl, rfl, rfl, rfl, rfl, rfl, rfl, rfl, rfl⟩

@[simp] theorem dropAnswer_keeps :
    (dropAnswer s).power = s.power ∧ (dropAnswer s).now = s.now ∧ (dropAnswer s).loader = s.loader ∧
    (dropAnswer s).retention = s.retention ∧ (dropAnswer s).seat = s.seat ∧ (dropAnswer s).roster = s.roster ∧
    (dropAnswer s).phase = s.phase ∧ (dropAnswer s).demand = s.demand ∧ (dropAnswer s).lamps = s.lamps ∧
    (dropAnswer s).rear = s.rear ∧ (dropAnswer s).sensor = s.sensor ∧ (dropAnswer s).body = s.body ∧
    (dropAnswer s).line = s.line ∧ (dropAnswer s).faults = s.faults ∧ (dropAnswer s).freeCount = s.freeCount ∧
    (dropAnswer s).pending = s.pending := by
  refine ⟨rfl, rfl, rfl, rfl, rfl, rfl, rfl, rfl, rfl, rfl, rfl, rfl, rfl, rfl, rfl, rfl⟩

@[simp] theorem fillSlot_keeps (r : Request) :
    (fillSlot r s).power = s.power ∧ (fillSlot r s).now = s.now ∧ (fillSlot r s).loader = s.loader ∧
    (fillSlot r s).retention = s.retention ∧ (fillSlot r s).seat = s.seat ∧ (fillSlot r s).roster = s.roster ∧
    (fillSlot r s).phase = s.phase ∧ (fillSlot r s).demand = s.demand ∧ (fillSlot r s).lamps = s.lamps ∧
    (fillSlot r s).rear = s.rear ∧ (fillSlot r s).sensor = s.sensor ∧ (fillSlot r s).body = s.body ∧
    (fillSlot r s).line = s.line ∧ (fillSlot r s).faults = s.faults ∧ (fillSlot r s).freeCount = s.freeCount ∧
    (fillSlot r s).pending = s.pending := by
  refine ⟨rfl, rfl, rfl, rfl, rfl, rfl, rfl, rfl, rfl, rfl, rfl, rfl, rfl, rfl, rfl, rfl⟩

@[simp] theorem setCollision_keeps :
    (setCollision s).power = s.power ∧ (setCollision s).now = s.now ∧ (setCollision s).loader = s.loader ∧
    (setCollision s).retention = s.retention ∧ (setCollision s).seat = s.seat ∧ (setCollision s).roster = s.roster ∧
    (setCollision s).phase = s.phase ∧ (setCollision s).demand = s.demand ∧ (setCollision s).lamps = s.lamps ∧
    (setCollision s).rear = s.rear ∧ (setCollision s).sensor = s.sensor ∧ (setCollision s).body = s.body ∧
    (setCollision s).line = s.line ∧ (setCollision s).faults = s.faults ∧ (setCollision s).freeCount = s.freeCount ∧
    (setCollision s).pending = s.pending := by
  refine ⟨rfl, rfl, rfl, rfl, rfl, rfl, rfl, rfl, rfl, rfl, rfl, rfl, rfl, rfl, rfl, rfl⟩

@[simp] theorem emptySlot_keeps :
    (emptySlot s).power = s.power ∧ (emptySlot s).now = s.now ∧ (emptySlot s).loader = s.loader ∧
    (emptySlot s).retention = s.retention ∧ (emptySlot s).seat = s.seat ∧ (emptySlot s).roster = s.roster ∧
    (emptySlot s).phase = s.phase ∧ (emptySlot s).demand = s.demand ∧ (emptySlot s).lamps = s.lamps ∧
    (emptySlot s).rear = s.rear ∧ (emptySlot s).sensor = s.sensor ∧ (emptySlot s).body = s.body ∧
    (emptySlot s).line = s.line ∧ (emptySlot s).faults = s.faults ∧ (emptySlot s).freeCount = s.freeCount ∧
    (emptySlot s).pending = s.pending := by
  refine ⟨rfl, rfl, rfl, rfl, rfl, rfl, rfl, rfl, rfl, rfl, rfl, rfl, rfl, rfl, rfl, rfl⟩

@[simp] theorem queryGoesOn_keeps (q : Query) :
    (queryGoesOn q s).power = s.power ∧ (queryGoesOn q s).now = s.now ∧ (queryGoesOn q s).loader = s.loader ∧
    (queryGoesOn q s).retention = s.retention ∧ (queryGoesOn q s).seat = s.seat ∧
    (queryGoesOn q s).roster = s.roster ∧ (queryGoesOn q s).phase = s.phase ∧ (queryGoesOn q s).demand = s.demand ∧
    (queryGoesOn q s).lamps = s.lamps ∧ (queryGoesOn q s).rear = s.rear ∧ (queryGoesOn q s).sensor = s.sensor ∧
    (queryGoesOn q s).body = s.body ∧ (queryGoesOn q s).line = s.line ∧ (queryGoesOn q s).faults = s.faults ∧
    (queryGoesOn q s).freeCount = s.freeCount ∧ (queryGoesOn q s).pending = s.pending := by
  refine ⟨rfl, rfl, rfl, rfl, rfl, rfl, rfl, rfl, rfl, rfl, rfl, rfl, rfl, rfl, rfl, rfl⟩

/-! ### Sample instants (R109, R110) -/

@[simp] theorem Channel.newCycle_keeps (c : Channel) :
    c.newCycle.health = c.health ∧ c.newCycle.retry = c.retry ∧ c.newCycle.run = c.run ∧ c.newCycle.short = c.short ∧
    c.newCycle.rest = c.rest ∧ c.newCycle.proving = c.proving ∧ c.newCycle.steady = c.steady ∧
    c.newCycle.lit = c.lit ∧ c.newCycle.last = c.last := by
  refine ⟨rfl, rfl, rfl, rfl, rfl, rfl, rfl, rfl, rfl⟩

/-- A change of a channel's record that leaves its health and its retry count leaves the retention record (R118). -/
theorem mirrorChannels_kept (f : Channel → Channel) (hf : ∀ c, (f c).health = c.health ∧ (f c).retry = c.retry) :
    ∀ (l : List Channel) (n : Nat) (r : List (Health × Nat)), mirrorChannels l (l.modify n f) r = r
  | [], n, r => by cases n <;> simp [mirrorChannels]
  | c :: l, 0, [] => by simp [mirrorChannels]
  | c :: l, 0, x :: r => by
    have h : ∀ (l : List Channel) (r : List (Health × Nat)), mirrorChannels l l r = r := by
      intro l
      induction l with
      | nil => simp [mirrorChannels]
      | cons a l ih => intro r; cases r <;> simp [mirrorChannels, ih]
    simp [mirrorChannels, (hf c).1, (hf c).2, h]
  | c :: l, n + 1, [] => by simp [mirrorChannels]
  | c :: l, n + 1, x :: r => by simp [mirrorChannels, mirrorChannels_kept f hf l n r]

/-- Using a sample instant touches the channels' records alone. -/
@[simp] theorem useInstant_keeps (n : Nat) :
    (useInstant n s).power = s.power ∧ (useInstant n s).now = s.now ∧ (useInstant n s).loader = s.loader ∧
    (useInstant n s).retention = s.retention ∧ (useInstant n s).seat = s.seat ∧ (useInstant n s).roster = s.roster ∧
    (useInstant n s).phase = s.phase ∧ (useInstant n s).demand = s.demand ∧
    (useInstant n s).lamps.check = s.lamps.check ∧ (useInstant n s).rear = s.rear ∧
    (useInstant n s).sensor = s.sensor ∧ (useInstant n s).body = s.body ∧ (useInstant n s).line = s.line ∧
    (useInstant n s).faults = s.faults ∧ (useInstant n s).port = s.port ∧
    (useInstant n s).freeCount = s.freeCount ∧ (useInstant n s).pending = s.pending := by
  refine ⟨rfl, rfl, rfl, ?_, rfl, rfl, rfl, rfl, rfl, rfl, rfl, rfl, rfl, rfl, rfl, rfl, rfl⟩
  cases n with
  | zero =>
    have := mirrorChannels_kept id (fun _ => ⟨rfl, rfl⟩) s.lamps.channels 0 s.retention.channels
    simp_all [useInstant, modChannel, setChannels, modNth]
  | succ n =>
    have := mirrorChannels_kept (fun c => { c with sampled := true }) (fun _ => ⟨rfl, rfl⟩) s.lamps.channels n
      s.retention.channels
    simp [useInstant, modChannel, setChannels, modNth, this]

@[simp] theorem restOver_keeps (n : Nat) :
    (restOver n s).power = s.power ∧ (restOver n s).now = s.now ∧ (restOver n s).loader = s.loader ∧
    (restOver n s).seat = s.seat ∧ (restOver n s).roster = s.roster ∧ (restOver n s).phase = s.phase ∧
    (restOver n s).demand = s.demand ∧ (restOver n s).rear = s.rear ∧ (restOver n s).sensor = s.sensor ∧
    (restOver n s).body = s.body ∧ (restOver n s).line = s.line ∧ (restOver n s).faults = s.faults ∧
    (restOver n s).port = s.port ∧ (restOver n s).freeCount = s.freeCount ∧ (restOver n s).pending = s.pending := by
  refine ⟨rfl, rfl, rfl, rfl, rfl, rfl, rfl, rfl, rfl, rfl, rfl, rfl, rfl, rfl, rfl⟩

end Sys2Proof.Machine
end

