-- ==== Sys2Proof/Laws/Queue.lean ====
section
/-! SUPPORT. What offering and withdrawing frames can do: nothing outside the queue and what its owners are told. -/

namespace Sys2Proof.Machine

variable (s : State)

theorem tellLost_unqueued (f : Frame) (id : Nat) : (tellLost f id s).unqueued = s.unqueued := by
  unfold tellLost
  split <;> try rfl
  all_goals split <;> rfl

theorem enterQueue_unqueued (f : Frame) (id : Nat) : (enterQueue f id s).unqueued = s.unqueued := by
  simp only [enterQueue]
  split
  · rfl
  · split
    · rw [tellLost_unqueued]; rfl
    · split <;> · rw [tellLost_unqueued]; rfl

theorem takeFrame_unqueued (f : Frame) (id : Nat) : (takeFrame f id s).unqueued = s.unqueued := by
  simp only [takeFrame]
  split
  · split
    · exact enterQueue_unqueued ..
    · split <;> rfl
  · split
    · exact tellLost_unqueued ..
    · exact enterQueue_unqueued ..

/-- Offering a frame changes nothing outside the queue and what owners are told. -/
theorem offer_unqueued (f : Frame) : (offer f s).unqueued = s.unqueued := by
  simp only [offer]
  split
  · rw [takeFrame_unqueued]; rfl
  · rfl

theorem withdraw_unqueued (p : Frame → Bool) : (withdraw p s).unqueued = s.unqueued := rfl

theorem withdrawId_unqueued (id : Nat) : (withdrawId id s).unqueued = s.unqueued := rfl

/-- What is left on a queue that has been emptied: a frame that completes, or, where SEAT CLAIMs may stay, a pending one. -/
theorem emptyQueue_entries (all : Bool) (e : Entry) (h : e ∈ (emptyQueue all s).line.queue) :
    (e.completing ∧ s.ending = true) ∨ (all = false ∧ e.inFlight = false ∧ e.frame.isSeatClaim = true) := by
  simp only [emptyQueue, State.emptiedLine, List.mem_map, List.mem_filter] at h
  obtain ⟨x, ⟨-, hx⟩, rfl⟩ := h
  cases hf : x.inFlight <;> simp_all

/-- A frame that is cut off leaves six dominant bits to drive. -/
theorem emptyQueue_cutOff (all : Bool) (h : s.inFlight.isSome = true) (he : s.ending = false) :
    (emptyQueue all s).line.cutOff = 6 ∧ (emptyQueue all s).line.reception = none := by
  simp [emptyQueue, State.emptiedLine, h, he, Config.cutOffBits]

/-- A queue with nothing in flight, or with a frame that completes, cuts nothing off. -/
theorem emptyQueue_noCutOff (all : Bool) (h : s.inFlight = none ∨ s.ending = true) :
    (emptyQueue all s).line.cutOff = s.line.cutOff ∧ (emptyQueue all s).line.reception = s.line.reception := by
  rcases h with h | h <;> simp [emptyQueue, State.emptiedLine, h]

variable {s} {t : State}

/-- The blocks and fields that two states agree on when they agree outside the queue. -/
theorem unqueued_fields (h : t.unqueued = s.unqueued) :
    t.power = s.power ∧ t.now = s.now ∧ t.loader = s.loader ∧ t.retention = s.retention ∧ t.seat = s.seat ∧
    t.phase = s.phase ∧ t.demand = s.demand ∧ t.lamps = s.lamps ∧ t.rear = s.rear ∧ t.sensor = s.sensor ∧
    t.faults = s.faults ∧ t.freeCount = s.freeCount ∧ t.pending = s.pending ∧
    t.roster.entries = s.roster.entries ∧ t.roster.reasm = s.roster.reasm ∧ t.roster.due = s.roster.due ∧
    t.body.channels = s.body.channels ∧ t.port.attn = s.port.attn ∧ t.line.mute = s.line.mute := by
  refine ⟨(congrArg State.power h :), (congrArg State.now h :), (congrArg State.loader h :),
    (congrArg State.retention h :), (congrArg State.seat h :), (congrArg State.phase h :),
    (congrArg State.demand h :), (congrArg State.lamps h :), (congrArg State.rear h :),
    (congrArg State.sensor h :), (congrArg State.faults h :), (congrArg State.freeCount h :),
    (congrArg State.pending h :), (congrArg (·.roster.entries) h :), (congrArg (·.roster.reasm) h :),
    (congrArg (·.roster.due) h :), (congrArg (·.body.channels) h :), (congrArg (·.port.attn) h :),
    (congrArg (·.line.mute) h :)⟩

/-- Offering leaves these fields. -/
@[simp] theorem offer_keeps (s : State) (f : Frame) :
    (offer f s).power = s.power ∧ (offer f s).now = s.now ∧ (offer f s).loader = s.loader ∧
    (offer f s).retention = s.retention ∧ (offer f s).seat = s.seat ∧ (offer f s).phase = s.phase ∧
    (offer f s).demand = s.demand ∧ (offer f s).lamps = s.lamps ∧ (offer f s).rear = s.rear ∧
    (offer f s).sensor = s.sensor ∧ (offer f s).faults = s.faults ∧ (offer f s).freeCount = s.freeCount ∧
    (offer f s).pending = s.pending ∧ (offer f s).roster.entries = s.roster.entries ∧
    (offer f s).roster.reasm = s.roster.reasm ∧ (offer f s).roster.due = s.roster.due ∧
    (offer f s).body.channels = s.body.channels ∧ (offer f s).port.attn = s.port.attn ∧
    (offer f s).line.mute = s.line.mute := unqueued_fields (offer_unqueued s f)

end Sys2Proof.Machine
end

