-- ==== Sys2Proof/Laws/Faults.lean ====
section
/-! SUPPORT. What raising and clearing faults can do: the fault list, ATTN, the own entry's fault summary, and the queue with
what its owners are told. -/

namespace Sys2Proof.Machine

variable (s : State)

theorem unfaulted_of_unqueued {s t : State} (h : t.unqueued = s.unqueued) : t.unfaulted = s.unfaulted := by
  simp only [State.unfaulted, h]

/-- Changing an entry twice is changing it once. -/
theorem Table.modify_modify {α : Type} (t : Table α) (p : Nat) (f g : α → α) :
    Table.modify (Table.modify t p f) p g = Table.modify t p (g ∘ f) := by
  simp only [Table.modify, List.map_map]
  congr 1
  funext e
  by_cases h : e.1 = p <;> simp [h]

theorem setFaultList_unfaulted (l : List FaultEntry) : (setFaultList l s).unfaulted = s.unfaulted := by
  unfold setFaultList
  split
  · simp only [State.unfaulted, State.unqueued, Table.modify_modify]
    rfl
  · rfl

theorem queueFault_unqueued (e : FaultEntry) (r : Bool) : (queueFault e r s).unqueued = s.unqueued := by
  unfold queueFault
  split
  · exact offer_unqueued ..
  · rfl

theorem attnForFault_unfaulted (n : Nat) : (attnForFault n s).unfaulted = s.unfaulted := by
  unfold attnForFault
  split <;> rfl

theorem addFault_unfaulted (c : FaultCode) (u n : Nat) : (addFault c u n s).unfaulted = s.unfaulted := by
  simp only [addFault]
  rw [attnForFault_unfaulted, unfaulted_of_unqueued (queueFault_unqueued ..), setFaultList_unfaulted]

theorem removeFault_unfaulted (e : FaultEntry) : (removeFault e s).unfaulted = s.unfaulted := by
  simp only [removeFault]
  rw [unfaulted_of_unqueued (queueFault_unqueued ..), setFaultList_unfaulted]

/-- Raising a fault changes nothing outside the fault list, ATTN, the own summary and the queue. -/
theorem raiseFault_unfaulted (c : FaultCode) (u n : Nat) : (raiseFault c u n s).unfaulted = s.unfaulted := by
  unfold raiseFault
  split
  · rfl
  · split
    · exact addFault_unfaulted ..
    · split
      · exact (addFault_unfaulted ..).trans (removeFault_unfaulted ..)
      · rfl

/-- Clearing a fault changes nothing outside the fault list, the own summary and the queue. -/
theorem clearFault_unfaulted (c : FaultCode) (u : Nat) : (clearFault c u s).unfaulted = s.unfaulted := by
  unfold clearFault
  split
  · rfl
  · split
    · rfl
    · exact removeFault_unfaulted ..

/-- A step of a fold that keeps a view of the state is a fold that keeps it. -/
theorem foldl_keeps {α β γ : Type} (view : β → γ) (f : β → α → β) (h : ∀ b a, view (f b a) = view b) (l : List α)
    (b : β) : view (l.foldl f b) = view b := by
  induction l generalizing b with
  | nil => rfl
  | cons a r ih => exact (ih (f b a)).trans (h b a)

theorem clearPresence_unfaulted : (clearPresence s).unfaulted = s.unfaulted :=
  foldl_keeps State.unfaulted _ (fun _ _ => clearFault_unfaulted ..) _ _

theorem queueListedFaults_unqueued : (queueListedFaults s).unqueued = s.unqueued :=
  foldl_keeps State.unqueued _ (fun _ _ => queueFault_unqueued ..) _ _

/-- The blocks and fields that two states agree on when they agree outside the queue and the fault list. -/
theorem unfaulted_fields {s t : State} (h : t.unfaulted = s.unfaulted) :
    t.power = s.power ∧ t.now = s.now ∧ t.loader = s.loader ∧ t.retention = s.retention ∧ t.seat = s.seat ∧
    t.phase = s.phase ∧ t.demand = s.demand ∧ t.lamps = s.lamps ∧ t.rear = s.rear ∧ t.sensor = s.sensor ∧
    t.freeCount = s.freeCount ∧ t.pending = s.pending ∧
    t.roster.reasm = s.roster.reasm ∧ t.roster.due = s.roster.due ∧
    t.body.channels = s.body.channels ∧ t.line.mute = s.line.mute := by
  refine ⟨(congrArg State.power h :), (congrArg State.now h :), (congrArg State.loader h :),
    (congrArg State.retention h :), (congrArg State.seat h :), (congrArg State.phase h :),
    (congrArg State.demand h :), (congrArg State.lamps h :), (congrArg State.rear h :),
    (congrArg State.sensor h :), (congrArg State.freeCount h :), (congrArg State.pending h :),
    (congrArg (·.roster.reasm) h :), (congrArg (·.roster.due) h :), (congrArg (·.body.channels) h :),
    (congrArg (·.line.mute) h :)⟩

/-- Raising leaves these blocks. -/
@[simp] theorem raiseFault_keeps (c : FaultCode) (u n : Nat) (s : State) :
    let t := raiseFault c u n s
    t.power = s.power ∧ t.now = s.now ∧ t.loader = s.loader ∧ t.retention = s.retention ∧ t.seat = s.seat ∧
    t.phase = s.phase ∧ t.demand = s.demand ∧ t.lamps = s.lamps ∧ t.rear = s.rear ∧ t.sensor = s.sensor ∧
    t.freeCount = s.freeCount ∧ t.pending = s.pending ∧
    t.roster.reasm = s.roster.reasm ∧ t.roster.due = s.roster.due ∧
    t.body.channels = s.body.channels ∧ t.line.mute = s.line.mute := unfaulted_fields (raiseFault_unfaulted s c u n)

/-- Clearing leaves these blocks. -/
@[simp] theorem clearFault_keeps (c : FaultCode) (u : Nat) (s : State) :
    let t := clearFault c u s
    t.power = s.power ∧ t.now = s.now ∧ t.loader = s.loader ∧ t.retention = s.retention ∧ t.seat = s.seat ∧
    t.phase = s.phase ∧ t.demand = s.demand ∧ t.lamps = s.lamps ∧ t.rear = s.rear ∧ t.sensor = s.sensor ∧
    t.freeCount = s.freeCount ∧ t.pending = s.pending ∧
    t.roster.reasm = s.roster.reasm ∧ t.roster.due = s.roster.due ∧
    t.body.channels = s.body.channels ∧ t.line.mute = s.line.mute := unfaulted_fields (clearFault_unfaulted s c u)

end Sys2Proof.Machine
end

