-- ==== Sys2Proof/Laws/Line.lean ====
section
/-! SUPPORT. What counting bits can do to the line: only its runs, its state and its reception change. -/

namespace Sys2Proof.Machine

variable (l : LineUnit)

/-- One bit changes the runs and the state only. -/
theorem LineUnit.count_keeps (b : Bool) :
    { l.count b with state := l.state, recessive := l.recessive, dominant := l.dominant } = l := by
  cases b <;> rfl

@[simp] theorem LineUnit.read_nil : l.read [] = l := rfl

@[simp] theorem LineUnit.read_cons (b : Bool) (bits : List Bool) : l.read (b :: bits) = (l.count b).read bits := rfl

theorem LineUnit.read_append (a b : List Bool) : l.read (a ++ b) = (l.read a).read b := by
  simp [LineUnit.read, List.foldl_append]

/-- Reading bits changes the runs and the state only. -/
theorem LineUnit.read_keeps (bits : List Bool) :
    { l.read bits with state := l.state, recessive := l.recessive, dominant := l.dominant } = l := by
  induction bits generalizing l with
  | nil => rfl
  | cons b bits ih =>
    have h := congrArg
      (fun m : LineUnit => { m with state := l.state, recessive := l.recessive, dominant := l.dominant }) (ih (l.count b))
    exact h.trans (l.count_keeps b)

/-- The bits of a frame another station sends leave the frame on the line as it was. -/
theorem LineUnit.readOther_keeps (bits : List Bool) :
    { l.readOther bits with state := l.state, recessive := l.recessive, dominant := l.dominant } = l := by
  unfold LineUnit.readOther
  split
  · rfl
  · exact l.read_keeps _

/-- A frame heard changes the runs, the state and the reception only. -/
theorem LineUnit.heard_keeps (k p : Nat) (d : List Byte) :
    { l.heard k p d with
      state := l.state, recessive := l.recessive, dominant := l.dominant, reception := l.reception } = l := by
  unfold LineUnit.heard LineUnit.dropHeard
  have h := congrArg (fun m : LineUnit => { m with reception := l.reception }) (l.readOther_keeps (frameBits k p d))
  split <;> exact h

/-- While the station sends, nothing of another frame is heard. -/
theorem LineUnit.heard_sending (h : l.sending = true) (k p : Nat) (d : List Byte) : l.heard k p d = l := by
  simp [LineUnit.heard, LineUnit.readOther, LineUnit.dropHeard, h]

/-- The runs stay at their tops. -/
theorem LineUnit.read_runs (bits : List Bool) (hr : l.recessive ≤ 200) (hd : l.dominant ≤ 20) :
    (l.read bits).recessive ≤ 200 ∧ (l.read bits).dominant ≤ 20 := by
  induction bits generalizing l with
  | nil => exact ⟨hr, hd⟩
  | cons b bits ih =>
    rw [LineUnit.read_cons]
    apply ih
    · cases b <;> simp [LineUnit.count, Config.recessiveTop]
    · cases b <;> simp [LineUnit.count, Config.dominantTop]

end Sys2Proof.Machine
end

