-- ==== Sys2Proof/Laws/Settle.lean ====
section
/-! SUPPORT. What the judgements following an event can change: nothing of `State.primary`. -/

namespace Sys2Proof.Machine

variable (s : State)

theorem primary_of_unfaulted {s t : State} (h : t.unfaulted = s.unfaulted) : t.primary = s.primary := by
  simp only [State.primary, h]

theorem primary_of_unqueued {s t : State} (h : t.unqueued = s.unqueued) : t.primary = s.primary :=
  primary_of_unfaulted (unfaulted_of_unqueued h)

theorem offer_primary (f : Frame) : (offer f s).primary = s.primary := primary_of_unqueued (offer_unqueued ..)

theorem raiseFault_primary (c : FaultCode) (u n : Nat) : (raiseFault c u n s).primary = s.primary :=
  primary_of_unfaulted (raiseFault_unfaulted ..)

theorem clearFault_primary (c : FaultCode) (u : Nat) : (clearFault c u s).primary = s.primary :=
  primary_of_unfaulted (clearFault_unfaulted ..)

theorem withdraw_primary (p : Frame → Bool) : (withdraw p s).primary = s.primary := rfl

theorem judgeView_primary : (judgeView s).primary = s.primary := rfl

theorem sendDemand_primary : (sendDemand s).primary = s.primary := (offer_primary ..).trans rfl

theorem withdrawDemand_primary : (withdrawDemand s).primary = s.primary := (offer_primary ..).trans rfl

theorem sendActive_primary : (sendActive s).primary = s.primary := (sendDemand_primary ..).trans rfl

theorem sendChange_primary : (sendChange s).primary = s.primary := by
  unfold sendChange
  split
  · rfl
  · split
    · exact sendDemand_primary s
    · split
      · split
        · exact withdrawDemand_primary s
        · rfl
      · exact sendActive_primary s

theorem judgeOwn_primary : (judgeOwn s).primary = s.primary := by
  simp only [judgeOwn]
  split
  · rfl
  · rw [sendChange_primary]; rfl

/-- What the judgement of the own contribution does: nothing where neither the hazard part nor the set changes, else the change is
sent (R77, R161). -/
theorem judgeOwn_cases :
    let t := { s with demand := { s.demand with hazard := s.hazardDue } }
    (s.hazardDue = s.demand.hazard ∧ t.contribution = s.demand.own ∧ judgeOwn s = s) ∨
    ((s.hazardDue ≠ s.demand.hazard ∨ t.contribution ≠ s.demand.own) ∧
      judgeOwn s = sendChange { t with demand := { t.demand with own := t.contribution } }) := by
  simp only [judgeOwn]
  split
  · next h => exact .inl ⟨h.1, h.2, rfl⟩
  · next h => exact .inr ⟨Decidable.not_and_iff_not_or_not.mp h, rfl⟩

theorem modNth_map {α β : Type} (l : List α) (n : Nat) (f : α → α) (g : α → β) (h : ∀ a, g (f a) = g a) :
    (modNth l n f).map g = l.map g := by
  cases n with
  | zero => rfl
  | succ n =>
    apply List.ext_getElem?
    intro i
    simp only [modNth, List.getElem?_map, List.getElem?_modify]
    split
    · cases l[i]? <;> simp [h]
    · simp

theorem stopRun_primary (n : Nat) (o : BodyOutcome) : (stopRun n o s).primary = s.primary := by
  unfold stopRun
  rw [judgeOwn_primary]
  simp only [State.primary, State.unfaulted, State.unqueued, modBody]
  rw [modNth_map]
  intro a
  rfl

theorem endRun_primary (o : BodyOutcome) (n : Nat) : (endRun o s n).primary = s.primary := by
  unfold endRun
  split
  · exact (offer_primary ..).trans (stopRun_primary ..)
  · rfl

theorem endRuns_primary (o : BodyOutcome) (p : BodyCfg → Bool) : (endRuns o p s).primary = s.primary :=
  foldl_keeps State.primary _ (fun _ _ => endRun_primary ..) _ _

theorem endWithdrawn_primary : (endWithdrawn s).primary = s.primary := by
  unfold endWithdrawn
  split
  · rfl
  · exact endRuns_primary ..

theorem endMotion_primary : (endMotion s).primary = s.primary := by
  unfold endMotion
  split
  · exact endRuns_primary ..
  · rfl

theorem endPark_primary : (endPark s).primary = s.primary := by
  unfold endPark
  split
  · rfl
  · exact endRuns_primary ..

theorem judgeFallback_primary : (judgeFallback s).primary = s.primary := by
  simp only [judgeFallback]
  split
  · rfl
  · split
    · exact (raiseFault_primary ..).trans rfl
    · exact (clearFault_primary ..).trans rfl

theorem judgeEff_primary : (judgeEff s).primary = s.primary := rfl

theorem judgeGates_primary : (judgeGates s).primary = s.primary := rfl

theorem judge_unjudged (f : LampFn) (b : Bool) (c : Channel) : (c.judge f b).unjudged = c.unjudged := by
  unfold Channel.judge Channel.redrive Channel.setLit
  split
  · dsimp only
    split <;> rfl
  · split <;> rfl

theorem judgeFrom_unjudged (n : Nat) (l : List Channel) :
    (judgeFrom s n l).map Channel.unjudged = l.map Channel.unjudged := by
  induction l generalizing n with
  | nil => rfl
  | cons c r ih => simp only [judgeFrom, List.map_cons, ih, judge_unjudged]

theorem judgeLamps_primary : (judgeLamps s).primary = s.primary := by
  simp only [State.primary, State.unfaulted, State.unqueued, judgeLamps, setChannels, judgeFrom_unjudged]

theorem judgeOffer_primary : (judgeOffer s).primary = s.primary := by
  unfold judgeOffer
  split
  · split
    · rfl
    · exact (show (startOfferTimer (sendOffer s)).primary = (sendOffer s).primary from rfl).trans (offer_primary ..)
  · split <;> rfl

/-- The judgements following an event change nothing of the event's own effect. -/
theorem settle_primary : (settle s).primary = s.primary := by
  unfold settle
  rw [judgeOffer_primary, judgeLamps_primary, judgeGates_primary, judgeEff_primary, judgeOwn_primary, endPark_primary,
    judgeEff_primary, judgeFallback_primary, judgeOwn_primary, endMotion_primary, endWithdrawn_primary,
    judgeView_primary]

/-- The blocks and fields that two states agree on when they agree in what an event's own effect writes. -/
theorem primary_fields {s t : State} (h : t.primary = s.primary) :
    t.power = s.power ∧ t.now = s.now ∧ t.loader = s.loader ∧ t.phase = s.phase ∧ t.rear = s.rear ∧
    t.freeCount = s.freeCount ∧ t.pending = s.pending ∧
    t.seat.stage = s.seat.stage ∧ t.seat.ownSeat = s.seat.ownSeat ∧ t.seat.head = s.seat.head ∧
    t.seat.seatIn = s.seat.seatIn ∧ t.seat.presIn = s.seat.presIn ∧
    t.retention.counts = s.retention.counts ∧ t.retention.seat = s.retention.seat ∧
    t.demand.table = s.demand.table ∧ t.demand.levels = s.demand.levels ∧ t.demand.holds = s.demand.holds ∧
    t.lamps.check = s.lamps.check ∧ t.sensor.table = s.sensor.table ∧ t.sensor.moving = s.sensor.moving ∧
    t.sensor.analogs = s.sensor.analogs ∧ t.roster.reasm = s.roster.reasm ∧ t.roster.due = s.roster.due ∧
    t.line.mute = s.line.mute ∧ t.line.driveFaults = s.line.driveFaults := by
  refine ⟨(congrArg State.power h :), (congrArg State.now h :), (congrArg State.loader h :),
    (congrArg State.phase h :), (congrArg State.rear h :), (congrArg State.freeCount h :),
    (congrArg State.pending h :), (congrArg (·.seat.stage) h :), (congrArg (·.seat.ownSeat) h :),
    (congrArg (·.seat.head) h :), (congrArg (·.seat.seatIn) h :), (congrArg (·.seat.presIn) h :),
    (congrArg (·.retention.counts) h :), (congrArg (·.retention.seat) h :), (congrArg (·.demand.table) h :),
    (congrArg (·.demand.levels) h :), (congrArg (·.demand.holds) h :), (congrArg (·.lamps.check) h :),
    (congrArg (·.sensor.table) h :), (congrArg (·.sensor.moving) h :), (congrArg (·.sensor.analogs) h :),
    (congrArg (·.roster.reasm) h :), (congrArg (·.roster.due) h :), (congrArg (·.line.mute) h :),
    (congrArg (·.line.driveFaults) h :)⟩

/-- The judgements leave these fields. -/
@[simp] theorem settle_keeps (s : State) :
    let t := settle s
    t.power = s.power ∧ t.now = s.now ∧ t.loader = s.loader ∧ t.phase = s.phase ∧ t.rear = s.rear ∧
    t.freeCount = s.freeCount ∧ t.pending = s.pending ∧
    t.seat.stage = s.seat.stage ∧ t.seat.ownSeat = s.seat.ownSeat ∧ t.seat.head = s.seat.head ∧
    t.seat.seatIn = s.seat.seatIn ∧ t.seat.presIn = s.seat.presIn ∧
    t.retention.counts = s.retention.counts ∧ t.retention.seat = s.retention.seat ∧
    t.demand.table = s.demand.table ∧ t.demand.levels = s.demand.levels ∧ t.demand.holds = s.demand.holds ∧
    t.lamps.check = s.lamps.check ∧ t.sensor.table = s.sensor.table ∧ t.sensor.moving = s.sensor.moving ∧
    t.sensor.analogs = s.sensor.analogs ∧ t.roster.reasm = s.roster.reasm ∧ t.roster.due = s.roster.due ∧
    t.line.mute = s.line.mute ∧ t.line.driveFaults = s.line.driveFaults := primary_fields (settle_primary s)

end Sys2Proof.Machine
end

