-- ==== Sys2Proof/Laws/Load.lean ====
section
/-! SUPPORT. What the parts of load done can change. -/

namespace Sys2Proof.Machine

variable (s : State)

theorem loadFaults_unfaulted : (loadFaults s).unfaulted = s.unfaulted := by
  simp only [loadFaults]
  split
  · split
    · rw [raiseFault_unfaulted, raiseFault_unfaulted]
    · rw [raiseFault_unfaulted]
  · split
    · rw [raiseFault_unfaulted]
    · rfl

theorem raiseHealthFault_unfaulted (n : Nat) (h : Health) : (raiseHealthFault n h s).unfaulted = s.unfaulted := by
  unfold raiseHealthFault
  split
  · rfl
  · exact raiseFault_unfaulted ..

theorem clearHealthFault_unfaulted (n : Nat) (h : Health) : (clearHealthFault n h s).unfaulted = s.unfaulted := by
  unfold clearHealthFault
  split
  · rfl
  · exact clearFault_unfaulted ..

theorem restoredFaults_unfaulted : (restoredFaults s).unfaulted = s.unfaulted :=
  foldl_keeps State.unfaulted _ (fun _ _ => raiseHealthFault_unfaulted ..) _ _

/-- The faults raised at load done leave these blocks. -/
theorem loadedFaults_keeps (s : State) :
    let t := restoredFaults (loadFaults s)
    t.power = s.power ∧ t.now = s.now ∧ t.loader = s.loader ∧ t.retention = s.retention ∧ t.seat = s.seat ∧
    t.phase = s.phase ∧ t.demand = s.demand ∧ t.lamps = s.lamps ∧ t.rear = s.rear ∧ t.sensor = s.sensor ∧
    t.freeCount = s.freeCount ∧ t.pending = s.pending ∧
    t.roster.reasm = s.roster.reasm ∧ t.roster.due = s.roster.due ∧
    t.body.channels = s.body.channels ∧ t.line.mute = s.line.mute :=
  unfaulted_fields ((restoredFaults_unfaulted _).trans (loadFaults_unfaulted s))

end Sys2Proof.Machine
end

