-- ==== Sys2Proof/Laws/Outcome.lean ====
section
/-! SUPPORT. What the outcome forms every meaning is written in answer, by the station's power, the unit named and the tests
of a received frame. -/

namespace Sys2Proof.Machine

variable (s : State) (f : State → State)

theorem whenRunning_running (h : s.power = .running) : whenRunning s f = .next (f s) := by simp [whenRunning, h]

theorem whenRunning_stopped (h : s.power ≠ .running) : whenRunning s f = .next s := by simp [whenRunning, h]

theorem whenUnit_known {top n : Nat} (h1 : 1 ≤ n) (h2 : n ≤ top) : whenUnit top n s f = whenRunning s f := by
  simp [whenUnit, h1, h2]

theorem whenUnit_unknown {top n : Nat} (h : ¬(1 ≤ n ∧ n ≤ top)) : whenUnit top n s f = .fault .noSuchUnit := by
  simp only [whenUnit, if_neg h]

@[simp] theorem takeIf_admitted : takeIf true s f = settle (f s) := by unfold takeIf; rw [if_pos rfl]

@[simp] theorem takeIf_excluded : takeIf false s f = s := by unfold takeIf; rw [if_neg Bool.false_ne_true]

theorem receive_valid {k p : Nat} {d : List Byte} (hr : s.power = .running)
    (h : frameValid s.phase.period k p d = true) : receive k p d s f = .next (settle (f (frameHeard k p d s))) := by
  simp [receive, whenRunning, hr, h]

theorem receive_invalid {k p : Nat} {d : List Byte} (hr : s.power = .running)
    (h : frameValid s.phase.period k p d = false) :
    receive k p d s f = .next (countMalformed { s with line := s.line.heard k p d }) := by
  simp [receive, whenRunning, hr, h]

theorem senderOk_iff (isClaim : Bool) (p : Nat) :
    senderOk isClaim p = true ↔ (1 ≤ p ∧ p ≤ 8) ∨ (p = 0 ∧ isClaim = true) := by
  cases isClaim <;> simp [senderOk] <;> omega

/-- Every meaning written with `whenRunning` answers a next state. -/
theorem whenRunning_next : ∃ t, whenRunning s f = .next t := ⟨_, rfl⟩

/-- So does every received frame. -/
theorem receive_next (k p : Nat) (d : List Byte) : ∃ t, receive k p d s f = .next t := ⟨_, rfl⟩

end Sys2Proof.Machine
end

