-- ==== Sys2Proof/Laws/Table.lean ====
section
/-! SUPPORT. What the operations over position tables, numbered units and timers do, once each, and that every table
operation keeps the canonical form. -/

namespace Sys2Proof.Machine

variable {α : Type}

/-! ### Position tables -/

@[simp] theorem Table.get_nil (p : Nat) : Table.get ([] : Table α) p = none := rfl

theorem Table.get_set (t : Table α) (p q : Nat) (v : α) (h : Table.wf t = true) :
    Table.get (Table.set t p v) q = if q = p then some v else Table.get t q := by
  induction t with
  | nil => 
    by_cases e : q = p
    · simp [Table.set, Table.get, e]
    · simp [Table.set, Table.get, e, Ne.symm e]
  | cons x r ih =>
    obtain ⟨k, w⟩ := x
    have hr : Table.wf r = true := by
      cases r with
      | nil => rfl
      | cons y r => simp only [Table.wf, Bool.and_eq_true] at h; exact h.2
    simp only [Table.set]
    split
    · by_cases e : q = p
      · simp [Table.get, e]
      · simp [Table.get, e, Ne.symm e]
    · split
      · rename_i e; subst e
        by_cases e : q = p
        · simp [Table.get, e]
        · simp [Table.get, e, Ne.symm e]
      · rename_i h1 h2
        simp only [Table.get, ih hr]
        by_cases e : k = q
        · subst e; simp [Ne.symm h2]
        · simp [e]

theorem Table.get_erase (t : Table α) (ps : List Nat) (q : Nat) :
    Table.get (Table.erase t ps) q = if q ∈ ps then none else Table.get t q := by
  induction t with
  | nil => simp [Table.erase]
  | cons x r ih =>
    obtain ⟨k, w⟩ := x
    simp only [Table.erase] at ih ⊢
    by_cases hk : k ∈ ps
    · simp only [List.filter_cons, List.contains_eq_mem, hk, decide_true, Bool.not_true, Bool.false_eq_true,
        if_false]
      simp only [List.contains_eq_mem] at ih
      rw [ih]
      by_cases e : k = q
      · subst e; simp [hk]
      · simp [Table.get, e]
    · simp only [List.filter_cons, List.contains_eq_mem, hk, decide_false, Bool.not_false, if_true]
      simp only [List.contains_eq_mem] at ih
      simp only [Table.get, ih]
      by_cases e : k = q
      · subst e; simp [hk]
      · simp [e]

theorem Table.get_modify (t : Table α) (p q : Nat) (f : α → α) :
    Table.get (Table.modify t p f) q = if q = p then (Table.get t q).map f else Table.get t q := by
  induction t with
  | nil => simp [Table.modify]
  | cons x r ih =>
    obtain ⟨k, w⟩ := x
    simp only [Table.modify, List.map_cons] at ih ⊢
    by_cases hk : k = p
    · subst hk
      simp only [if_true, Table.get, ih]
      by_cases e : k = q
      · subst e; simp
      · simp [e]
    · simp only [hk, if_false, Table.get, ih]
      by_cases e : k = q
      · subst e; simp [hk]
      · simp [e]

@[simp] theorem Table.keys_modify (t : Table α) (p : Nat) (f : α → α) :
    (Table.modify t p f).map Prod.fst = t.map Prod.fst := by
  simp only [Table.modify, List.map_map]
  apply List.map_congr_left
  intro e _
  simp only [Function.comp]
  split <;> rfl

/-- The canonical form by the keys: rising, and all in 1..8. -/
theorem Table.wf_iff (t : Table α) :
    Table.wf t = true ↔ (t.map Prod.fst).Pairwise (· < ·) ∧ ∀ k ∈ t.map Prod.fst, 1 ≤ k ∧ k ≤ 8 := by
  induction t with
  | nil => simp [Table.wf]
  | cons x r ih =>
    cases r with
    | nil => simp [Table.wf]
    | cons y r =>
      simp only [Table.wf, Bool.and_eq_true, decide_eq_true_eq, ih, List.map_cons, List.pairwise_cons,
        List.mem_cons, forall_eq_or_imp]
      constructor
      · rintro ⟨⟨h1, h2⟩, ⟨h3, h4⟩, ⟨h5, h6⟩, h7⟩
        exact ⟨⟨⟨h2, fun a ha => lt_trans h2 (h3 a ha)⟩, h3, h4⟩, ⟨h1, le_of_lt (lt_of_lt_of_le h2 h6)⟩, ⟨h5, h6⟩, h7⟩
      · rintro ⟨⟨⟨h2, _⟩, h3, h4⟩, ⟨h1, _⟩, h5, h7⟩
        exact ⟨⟨h1, h2⟩, ⟨h3, h4⟩, h5, h7⟩

theorem Table.keys_set (t : Table α) (p k : Nat) (v : α) :
    k ∈ (Table.set t p v).map Prod.fst ↔ k = p ∨ k ∈ t.map Prod.fst := by
  induction t with
  | nil => simp [Table.set]
  | cons x r ih =>
    obtain ⟨j, w⟩ := x
    simp only [Table.set]
    split
    · simp
    · split
      · rename_i e; subst e; simp
      · simp only [List.map_cons, List.mem_cons, ih]; tauto

theorem Table.wf_set (t : Table α) (p : Nat) (v : α) (h : Table.wf t = true) (h1 : 1 ≤ p) (h8 : p ≤ 8) :
    Table.wf (Table.set t p v) = true := by
  rw [Table.wf_iff] at h ⊢
  refine ⟨?_, fun k hk => ?_⟩
  · induction t with
    | nil => simp [Table.set]
    | cons x r ih =>
      obtain ⟨j, w⟩ := x
      simp only [List.map_cons, List.pairwise_cons, List.mem_cons, forall_eq_or_imp] at h
      simp only [Table.set]
      split
      · rename_i hp
        simp only [List.map_cons, List.pairwise_cons, List.mem_cons, forall_eq_or_imp]
        exact ⟨⟨hp, fun a ha => lt_trans hp (h.1.1 a ha)⟩, h.1.1, h.1.2⟩
      · split
        · rename_i e; subst e
          simp only [List.map_cons, List.pairwise_cons]
          exact ⟨h.1.1, h.1.2⟩
        · rename_i hp he
          simp only [List.map_cons, List.pairwise_cons]
          refine ⟨fun a ha => ?_, ih ⟨h.1.2, h.2.2⟩⟩
          rw [Table.keys_set] at ha
          rcases ha with rfl | ha
          · omega
          · exact h.1.1 a ha
  · rw [Table.keys_set] at hk
    rcases hk with rfl | hk
    · exact ⟨h1, h8⟩
    · exact h.2 k hk

theorem Table.wf_erase (t : Table α) (ps : List Nat) (h : Table.wf t = true) :
    Table.wf (Table.erase t ps) = true := by
  rw [Table.wf_iff] at h ⊢
  have hs : ((Table.erase t ps).map Prod.fst).Sublist (t.map Prod.fst) := List.filter_sublist.map _
  exact ⟨h.1.sublist hs, fun k hk => h.2 k (hs.subset hk)⟩

theorem Table.wf_modify (t : Table α) (p : Nat) (f : α → α) (h : Table.wf t = true) :
    Table.wf (Table.modify t p f) = true := by
  rw [Table.wf_iff] at h ⊢
  rwa [Table.keys_modify]

/-! ### Numbered units -/

@[simp] theorem nth_modNth_same (l : List α) (n : Nat) (f : α → α) : nth (modNth l n f) n = (nth l n).map f := by
  cases n with
  | zero => rfl
  | succ n => simp [nth, modNth]

theorem nth_modNth_other (l : List α) (n m : Nat) (f : α → α) (h : m ≠ n) :
    nth (modNth l n f) m = nth l m := by
  cases n with
  | zero => rfl
  | succ n =>
    cases m with
    | zero => rfl
    | succ m =>
      have hm : n ≠ m := fun e => h (by rw [e])
      simp [nth, modNth, hm]

@[simp] theorem length_modNth (l : List α) (n : Nat) (f : α → α) : (modNth l n f).length = l.length := by
  cases n <;> simp [modNth]

theorem nth_isSome (l : List α) (n : Nat) : (nth l n).isSome = true ↔ 1 ≤ n ∧ n ≤ l.length := by
  cases n with
  | zero => simp [nth]
  | succ n => simp [nth]

/-! ### Timers -/

@[simp] theorem Timer.start_isRunning (n : Nat) : (Timer.start n).isRunning = true := rfl

@[simp] theorem Timer.stopped_isRunning : Timer.stopped.isRunning = false := rfl

@[simp] theorem Timer.tick_isRunning (t : Timer) : t.tick.isRunning = t.isRunning := by cases t <;> rfl

/-! ### Sets kept in rising order -/

theorem mem_insertSorted (p q : Nat) (l : List Nat) : q ∈ insertSorted p l ↔ q = p ∨ q ∈ l := by
  induction l with
  | nil => simp [insertSorted]
  | cons x r ih =>
    simp only [insertSorted]
    split
    · simp
    · split
      · rename_i e; subst e; simp
      · simp only [List.mem_cons, ih]; tauto

end Sys2Proof.Machine
end

