-- ==== Sys2Proof/Tests/Slice0.lean ====
section
/-! SUPPORT. Tests. Expected values come from the rules' own worked tables and sequences, each named beside its test; the
witnesses show, for the statements of Certificates/Slice0/Obligations.lean that have hypotheses, concrete states that meet
them. -/

namespace Sys2Proof.Tests

set_option Elab.async false

open Sys2Proof.Machine

/-! ### Small states -/

/-- A profile with an input of each kind: rate 90, duty 50, report period 1,000 ms, trip levels of 10,000 mA. -/
def profile : Profile :=
  { defaultProfile with
    cls := .semiTrailer
    dins := [.steady .tail, .flasher .turnL, .bodySwitch 1, .unused, .unused, .unused, .unused, .unused]
    analog :=
      { inUse := true, brake := true, offset := -100, gain := 400, onAt := 700, offAt := 600 } ::
        List.replicate 3 { inUse := false, brake := false, offset := 0, gain := 0, onAt := 0, offAt := 0 }
    pulses :=
      [{ role := .wheel, edge := .rising, cascade := false }, { role := .door, edge := .both, cascade := false },
        { role := .general, edge := .falling, cascade := true }, { role := .notInUse, edge := .rising, cascade := false }]
    bodies :=
      [{ kind := 1, motionInhibited := true, parkRequired := false, hazardRaising := true, limit := 120 },
        { kind := 2, motionInhibited := false, parkRequired := true, hazardRaising := false, limit := 255 },
        { kind := 0, motionInhibited := false, parkRequired := false, hazardRaising := false, limit := 1 },
        { kind := 0, motionInhibited := false, parkRequired := false, hazardRaising := false, limit := 1 }] }

/-- An entry of the roster. -/
def entry (i : Identity) : RosterEntry :=
  { identity := i, cls := .semiTrailer, stage := .claimed, rejoin := false, note := .none, profile := none,
    check := none, fault := none }

/-- A station of identity 4660 in the given stage, at seat 2 where the stage is a seated one; its line is IDLE, and an
origin at position 1 asks for nothing. -/
def station (g : Stage) : State :=
  { State.reset with
    loader := { State.reset.loader with attempts := 3, identity := 4660, profile := profile, portAddress := 52 }
    seat := { State.reset.seat with stage := g, ownSeat := if g.seated then 2 else 0 }
    roster := { State.reset.roster with entries := if g.seated then [(2, entry 4660)] else [] }
    line := { State.reset.line with state := .idle }
    demand :=
      { State.reset.demand with
        table := if g.serving then [(1, { set := .empty, origin := true, age := 0 })] else [] } }

/-- An own claim of seat 3 whose window runs. -/
def claimer : State :=
  { station .claiming with
    seat := { (station .claiming).seat with claimed := 3, claim := .window, window := .running 200 200 } }

/-- A joined station with an effective demand kept by an origin at position 1. -/
def asked (d : DemandSet) : State :=
  settle
    { station .joined with
      demand := { (station .joined).demand with table := [(1, { set := d, origin := true, age := 0 })] } }

/-- A joined station whose channel 3, a STOP lamp, is lit. -/
def braking : State := asked (.single .stop)

/-- The state with channel 3 changed. -/
def stopLamp (f : Channel → Channel) (s : State) : State := modChannel 3 f s

/-- What a command leaves of a state, where it answers a next state. -/
def after {α : Type} (c : Instr) (s : State) (f : State → α) : Option α :=
  match exec c s with
  | .next t => some (f t)
  | .fault _ => none
  | .refused _ => none

/-- The frames on the queue. -/
def frames (s : State) : List Frame := s.line.queue.map Entry.frame

/-- A queue entry. -/
def queued (n : Nat) (f : Frame) (inFlight : Bool) : Entry := { id := n, frame := f, inFlight := inFlight, dying := false }

/-- The state with a queue. -/
def withQueue (q : List Entry) (s : State) : State := { s with line := { s.line with queue := q, nextId := 9 } }

/-- The state with its faults. -/
def withFaults (l : List (FaultCode × Nat)) (s : State) : State :=
  { s with
    faults := { s.faults with list := l.map fun e => { code := e.1, subject := e.2, severity := 2, onset := 0 } } }

/-- The state with one block changed. -/
def seatW (f : SeatCtl → SeatCtl) (s : State) : State := { s with seat := f s.seat }
def phaseW (f : PhaseUnit → PhaseUnit) (s : State) : State := { s with phase := f s.phase }
def lineW (f : LineUnit → LineUnit) (s : State) : State := { s with line := f s.line }
def portW (f : Port → Port) (s : State) : State := { s with port := f s.port }
def rosterW (f : RosterBlock → RosterBlock) (s : State) : State := { s with roster := f s.roster }
def demandW (f : Merger → Merger) (s : State) : State := { s with demand := f s.demand }
def sensorW (f : SensorUnit → SensorUnit) (s : State) : State := { s with sensor := f s.sensor }

/-- A frame whose Start was heard at the given phase. -/
def started (phase : Int) : Reception :=
  { instant := 0, phase := phase, receiving := true, before := 30, bits := [false], rest := [] }

/-- A frame of the station's own that still has the given bits to be sent. -/
def leaving (rest : List Bool) : Reception :=
  { instant := 0, phase := 0, receiving := false, before := 30, bits := [false], rest := rest }

/-- A frame in flight. -/
def sending (n : Nat) (f : Frame) (s : State) : State := withQueue [queued n f true] s

/-- The state with its frame in flight on the line, the given number of its bits counted. -/
def onLine (known : Nat) (s : State) : State :=
  lineW
    (fun l => { l with state := .busy, reception := some { leaving (s.ownBits.drop known) with bits := s.ownBits.take known } })
    s

/-! ### The worked tables -/

/-- The quantities of a rate and a duty. -/
def quantities (rate duty : Nat) : List Nat :=
  let p := { State.reset.phase with period := periodOfRate rate, duty := duty }
  [p.period, p.onTime, p.slew, p.abandon, p.burst]

/-- The table of R51. -/
theorem test_phase_quantities :
    quantities 60 50 = [1000, 500, 62, 250, 166] ∧ quantities 75 50 = [800, 400, 50, 200, 133] ∧
    quantities 90 50 = [667, 334, 41, 166, 111] ∧ quantities 100 40 = [600, 240, 37, 150, 80] ∧
    quantities 105 30 = [571, 171, 35, 142, 57] ∧ quantities 120 70 = [500, 350, 31, 125, 116] := by decide

/-- The bounds worked in R60. -/
theorem test_phase_error :
    phaseError 333 0 667 = 333 ∧ phaseError 334 0 667 = -333 ∧ phaseError 300 0 600 = 300 ∧
    phaseError 301 0 600 = -299 ∧ phaseError (-19) 0 667 = -19 := by decide

/-- The table of R107. -/
theorem test_normalised :
    normalised .filament 24000 1620 27600 = 1408 ∧ normalised .filament 24000 810 27600 = 704 ∧
    normalised .filament 24000 2900 27600 = 2521 ∧ normalised .led 24000 220 27600 = 253 ∧
    normalised .filament 12000 2000 13800 = 1739 := by decide

/-- The classes of R107. -/
theorem test_classify :
    let c : LampCfg := { function := .stop, kind := .filament, imin := 1200, imax := 2400 }
    classify c 24000 1620 27600 = .good ∧ classify c 24000 810 27600 = .openCircuit ∧
    classify c 24000 2900 27600 = .overload ∧
    classify { c with kind := .led, imin := 150, imax := 400 } 24000 220 27600 = .good := by decide

/-- The trip levels of R91. -/
theorem test_trip_level : tripLevel 2400 = 6000 ∧ tripLevel 4000 = 10000 ∧ tripLevel 5000 = 10000 := by decide

/-- The table of R135. -/
theorem test_scaled :
    let v := fun (c : Nat) (g o : Int) =>
      scaled { inUse := true, brake := false, offset := o, gain := g, onAt := 0, offAt := 0 } c
    v 512 400 (-100) = 700 ∧ v 300 (-100) 50 = -68 ∧ v 1023 32767 32000 = 32767 ∧ v 921 313 (-124) = 1002 ∧
    v 102 313 (-124) = 0 := by decide

/-- The cycle of section 3.12: the patterns at the ends of their parts. -/
theorem test_patterns :
    let p := fun n => { State.reset.phase with phi := n }
    (p 110).doubleLit = true ∧ (p 111).doubleLit = false ∧ (p 222).doubleLit = true ∧ (p 332).doubleLit = true ∧
    (p 333).doubleLit = false ∧ (p 333).singleLit = true ∧ (p 334).singleLit = false := by decide

/-- The first row of the table of R90: the lit parts of the tell-tale at double rate. -/
theorem test_tell_tale :
    let s := fun n => { asked (.single .turnL) with
      phase := { (station .joined).phase with phi := n }
      roster :=
        { (station .joined).roster with
          entries := [(2, { entry 4660 with fault := some { count := 1, highest := 2, sides := { left := true, right := false } } })] } }
    (s 166).ttPin = true ∧ (s 167).ttPin = false ∧ (s 332).ttPin = false ∧ (s 333).ttPin = true ∧
    (s 499).ttPin = true ∧ (s 500).ttPin = false := by decide +kernel

/-- The segments of R40: a summary of 17 bytes goes as 11 and 6, one of 26 as 11, 11 and 4. -/
theorem test_segments :
    let n := fun k => (List.range (segmentTotal (List.replicate k 0))).map fun i =>
      (segmentData (List.replicate k (0 : Byte)) i).length
    n 17 = [11, 6] ∧ n 26 = [11, 11, 4] := by decide

/-- The bits that begin A's DEMAND in the worked example of section 9.4: a stuff bit follows the Start and Kind 0. -/
theorem test_stuffing : (frameBits 0 1 [0, 0]).take 10 = [false, false, false, false, false, true, false, false, false, true] := by
  decide +kernel

/-- No row of the command table has bits, so no word spells a command. -/
theorem test_decode_none : decodeTableWord 16 65535 = none ∧ decodeTableWord 0 0 = none := by decide

/-! ### WellFormed refuses what the part cannot be given -/

theorem test_refuses_short_image : Instr.wellFormed (.profileReadAttempt (some (List.replicate 170 0))) = false := by
  decide +kernel

theorem test_refuses_load_sample :
    (Instr.loadDone { head := false, adr1 := false, adr0 := false, seatIn := false, presIn := false, din := [], cnt := List.replicate 4 false }).wellFormed = false ∧
    (Instr.loadDone { head := false, adr1 := false, adr0 := false, seatIn := false, presIn := false, din := List.replicate 8 false, cnt := [] }).wellFormed = false := by
  decide

theorem test_refuses_input_nine :
    Instr.wellFormed (.demandInputChange 9 true) = false ∧ Instr.wellFormed (.demandInputChange 0 true) = false ∧
    Instr.wellFormed (.flasherHoldExpiry 9) = false := by decide

theorem test_refuses_position_nine :
    Instr.wellFormed (.demandEntryExpiry 9) = false ∧ Instr.wellFormed (.motionEntryStale 0) = false := by decide

theorem test_refuses_channel_thirteen :
    Instr.wellFormed (.lampTrip 13 0) = false ∧ Instr.wellFormed (.steadySample 0 0 0) = false ∧
    Instr.wellFormed (.flashSample 13 0 0) = false ∧ Instr.wellFormed (.restTimerExpiry 13) = false ∧
    Instr.wellFormed (.provingTimerExpiry 0) = false := by decide

theorem test_refuses_current :
    Instr.wellFormed (.lampTrip 1 10240) = false ∧ Instr.wellFormed (.checkPulseEnd 5 24000) = false := by decide

theorem test_refuses_supply :
    Instr.wellFormed (.checkPulseEnd 0 40050) = false ∧ Instr.wellFormed (.flashSample 1 0 24001) = false := by decide

theorem test_refuses_conversion :
    Instr.wellFormed (.analogConversion []) = false ∧
    Instr.wellFormed (.analogConversion (List.replicate 4 { millivolts := 0, counts := 1024 })) = false := by decide

theorem test_refuses_unit_five :
    Instr.wellFormed (.pulseEdge 5 true) = false ∧ Instr.wellFormed (.runTimerExpiry 5) = false ∧
    Instr.wellFormed (.bodyDriverTrip 0) = false := by decide

theorem test_refuses_bits :
    Instr.wellFormed (.frameDiscarded [true]) = false ∧
    Instr.wellFormed (.frameDiscarded (List.replicate 150 false)) = false := by
  decide +kernel

theorem test_refuses_payloads :
    Instr.wellFormed (.profileSegmentReceived 1 2 []) = false ∧
    Instr.wellFormed (.profileSegmentReceived 1 2 (List.replicate 12 0)) = false ∧
    Instr.wellFormed (.reportCountsReceived 1 0 []) = false ∧ Instr.wellFormed (.reportAnalogReceived 1 0 []) = false ∧
    Instr.wellFormed (.answerReceived 1 2 3 1 0 (List.replicate 9 0)) = false := by decide

/-! ### One step of each command -/

/-- R207: a WARM start of a stopped station, COLD after the supply was lost. -/
theorem test_start :
    after .start { station .joined with power := .stopped } (fun t => (t.power, t.seat.stage, t.loader.cause)) =
      some (.running, .loading, .warm) ∧
    after .start { station .joined with power := .lost } (fun t => t.loader.cause) = some .cold := by decide +kernel

/-- R207: outputs off, the record held. -/
theorem test_brown_out :
    after .brownOut braking (fun t => (t.power, t.lampPin 3, t.seatOut, t.retention == braking.retention)) =
      some (.stopped, false, false, true) := by decide +kernel

/-- R207: below 4.5 V the record is lost. -/
theorem test_supply_lost :
    after .supplyLost { station .joined with retention := { Retention.lost with valid := true } }
      (fun t => (t.power, t.retention.valid)) = some (.lost, false) := by decide +kernel

/-- R202: a failed read counts its attempt, and the next waits 2 ms. -/
theorem test_profile_read :
    after (.profileReadAttempt none) State.reset (fun t => (t.loader.attempts, t.loader.image, t.loader.retry)) =
      some (1, none, .running 0 2) ∧
    after (.profileReadAttempt none)
      { State.reset with loader := { State.reset.loader with attempts := 1, retry := .running 1 2 } }
      (fun t => t.loader.attempts) = some 1 := by decide +kernel

/-- R203, R204, R206: no image in three attempts leaves the default profile and no identity, with both faults. -/
theorem test_load_done :
    after
      (.loadDone
        { head := true, adr1 := true, adr0 := false, seatIn := false, presIn := false, din := List.replicate 8 false,
          cnt := List.replicate 4 false })
      { State.reset with loader := { State.reset.loader with attempts := 3 } }
      (fun t => (t.seat.stage, t.loader.portAddress, t.faults.list.map FaultEntry.code)) =
      some (.listen, 54, [.identityMissing, .profileDefault]) := by decide +kernel

/-- R1: a change taken in LOADING is a change, and load done keeps its level. -/
theorem test_seat_in_change_loading :
    after (.seatInChange true) State.reset (fun t => (t.seat.seatIn, t.seat.seatInSeen)) = some (true, true) ∧
    after
      (.loadDone
        { head := false, adr1 := false, adr0 := false, seatIn := false, presIn := false, din := List.replicate 8 false,
          cnt := List.replicate 4 false })
      { State.reset with
        loader := { State.reset.loader with attempts := 3 }
        seat := { State.reset.seat with seatIn := true, seatInSeen := true } }
      (fun t => (t.seat.stage, t.seat.seatIn)) = some (.listen, true) := by decide +kernel

/-- R25: a seated station that is not the head raises FRONT-LINK-LOST. -/
theorem test_seat_in_change :
    after (.seatInChange false) { station .joined with seat := { (station .joined).seat with seatIn := true } }
      (fun t => t.hasFault .frontLinkLost 0) = some true := by decide +kernel

/-- R12: with a unit coupled behind, the seat behind is offered. -/
theorem test_pres_in_asserted :
    after .presInAsserted (station .joined) (fun t => (frames t, t.seat.offer)) =
      some ([.seatOffer 3], .running 0 500) := by decide +kernel

/-- R26: a departure begins with a PROBE. -/
theorem test_pres_in_deasserted :
    after .presInDeasserted { station .joined with seat := { (station .joined).seat with presIn := true } }
      (fun t => (frames t, t.seat.departure)) = some ([.probe 2], .running 0 1500) := by decide +kernel

/-- R10: the head claims seat 1. -/
theorem test_head_listen_expiry :
    after .headListenExpiry
      { station .listen with seat := { (station .listen).seat with head := true, headListen := .running 300 300 } }
      (fun t => (t.seat.stage, frames t)) = some (.claiming, [.seatClaim 1 4660 .semiTrailer false]) := by decide +kernel

/-- R7: no seat in 5,000 ms. -/
theorem test_unseated_timer_expiry :
    after .unseatedTimerExpiry
      { station .listen with seat := { (station .listen).seat with unseated := .running 5000 5000 } }
      (fun t => (t.seat.stage, t.hasFault .seatUnavailable 0)) = some (.standalone, true) := by decide +kernel

/-- R16: seated at the claimed seat. -/
theorem test_claim_window_expiry :
    after .claimWindowExpiry claimer (fun t => (t.seat.stage, t.seat.ownSeat, t.seatOut)) =
      some (.profiling, 3, true) := by decide +kernel

/-- R12: the offer is repeated. -/
theorem test_offer_timer_expiry :
    after .offerTimerExpiry
      { station .sync with seat := { (station .sync).seat with presIn := true, offer := .running 500 500 } }
      (fun t => (frames t, t.seat.offer)) = some ([.seatOffer 3], .running 0 500) := by decide +kernel

/-- R28: no answer from behind means uncoupled. -/
theorem test_departure_timer_expiry :
    after .departureTimerExpiry
      { station .joined with
        seat := { (station .joined).seat with departure := .running 1500 1500 }
        roster := { (station .joined).roster with entries := [(2, entry 4660), (3, entry 1), (4, entry 2)] } }
      (fun t => ((frames t).head?, t.roster.entries.map Prod.fst, t.rear.status)) =
      some (some (.depart [3, 4] .uncoupled), [2], .holder) := by decide +kernel

/-- R52, R53: φ starts again and a MARK is queued. -/
theorem test_wrap :
    after .wrap { station .joined with phase := { (station .joined).phase with phi := 667 } }
      (fun t => (t.phase.phi, frames t)) = some (0, [.mark 667 50 none]) := by decide +kernel

/-- R59, R65: a MARK taken first in the millisecond of the wrap has wrapped at once, so the WRAP behind it changes nothing. -/
theorem test_wrap_after_mark :
    (after (.markReceived 1 667 50 0)
      (lineW (fun l => { l with reception := some (started 665) }) (phaseW (fun p => { p with phi := 667 }) (station .joined)))
      (fun t => (t.phase.phi, after .wrap t fun u => u.phase.phi))) = some (2, some 2) := by decide +kernel

/-- R55: the MARK still pending at Q is withdrawn. -/
theorem test_mark_stale :
    after .markStale (withQueue [queued 0 (.mark 667 50 none) false] (station .joined)) frames = some [] := by decide +kernel

/-- R66: no MARK in SYNC, so the own phase is kept. -/
theorem test_sync_timer_expiry :
    after .syncTimerExpiry
      { station .sync with phase := { (station .sync).phase with syncTimer := .running 2001 2001 } }
      (fun t => (t.seat.stage, t.phase.lock)) = some (.joined, .own) := by decide +kernel

/-- R69, R87: at T_on the turn lamps go dark. -/
theorem test_lit_part_edge :
    let s := asked (.single .turnL)
    after .litPartEdge
      { s with demand := { s.demand with gateL := .running }, phase := { s.phase with phi := 333 } }
      (fun t => t.lampPin 5) = some true ∧
    after .litPartEdge
      { s with demand := { s.demand with gateL := .running }, phase := { s.phase with phi := 334 } }
      (fun t => t.lampPin 5) = some false := by decide +kernel

/-- R74, R79: an asserted STEADY input is sent. -/
theorem test_demand_input_change :
    after (.demandInputChange 1 true) (station .joined) frames = some [.demand (.single .tail) false false] := by
  decide +kernel

/-- R74: the FLASHER's target leaves the contribution. -/
theorem test_flasher_hold_expiry :
    let s := { station .joined with
      demand := { (station .joined).demand with holds := .stopped :: .running 1200 1200 :: List.replicate 6 .stopped } }
    (settle s).demand.own = .single .turnL ∧
    after (.flasherHoldExpiry 2) (settle s) (fun t => t.demand.own) = some .empty := by decide +kernel

/-- R79: the repeat carries the contribution. -/
theorem test_demand_repeat_expiry :
    let s := { station .sync with
      demand := { (station .sync).demand with levels := true :: List.replicate 7 false, own := .single .tail, active := true
                                              repeatTimer := .running 100 100 } }
    after .demandRepeatExpiry s (fun t => (frames t, t.demand.repeatTimer)) =
      some ([.demand (.single .tail) false false], .running 0 100) := by decide +kernel

/-- R82, R84: the origin's entry expires and fallback begins; one received anew does not expire. -/
theorem test_demand_entry_expiry :
    after (.demandEntryExpiry 1) braking (fun t => t == braking) = some true ∧
    after (.demandEntryExpiry 1)
      (demandW (fun d => { d with table := [(1, { set := .single .stop, origin := true, age := 350 })] }) braking)
      (fun t => (t.demand.table, t.demand.fallback, t.demand.eff, t.hasFault .demandLost 0)) =
      some ([], true, .single .tail, true) := by decide +kernel

/-- A station in CHECKING with a check under way, the current turn having lasted `turn` ms. -/
def checkAt (todo : List Nat) (turn : Nat) (pulse : Bool) : State :=
  settle
    { station .checking with
      lamps := { (station .checking).lamps with check := some { todo := todo, turn := turn, pulse := pulse } } }

/-- A station at the end of a pulse of its check, channel 10 of section 5.8 under test. -/
def checking : State := checkAt [10, 11] 20 true

/-- Section 5.8 at 470 ms: channel 10 is OPEN and dark. -/
theorem test_check_pulse_end :
    checking.lampPin 10 = true ∧
    after (.checkPulseEnd 40 27600) checking
      (fun t => ((t.channel 10).health, t.lampPin 10, t.hasFault .lampOpen 10)) = some (.openCircuit, false, true) := by
  decide +kernel

/-- Section 5.8 at 420 ms: a supply of 17,900 mV leaves the channel UNTESTED, the sample SKIPPED. -/
theorem test_check_pulse_skipped :
    after (.checkPulseEnd 40 17900) checking
      (fun t => ((t.channel 10).health, ((t.channel 10).last.map LastSample.outcome))) =
      some (.untested, some .skipped) := by decide +kernel

/-- R101: no pulse ends before its 20 ms, and the next channel is pulsed at 50 ms. -/
theorem test_check_turn_end :
    after .checkTurnEnd
      { checking with lamps := { checking.lamps with check := some { todo := [10, 11], turn := 50, pulse := false } } }
      (fun t => (t.lampPin 10, t.lampPin 11)) = some (false, true) ∧
    after (.checkPulseEnd 40 27600) (checkAt [10, 11] 19 true) (fun t => t.lampPin 10) = some true := by decide +kernel

/-- Section 5.9 at 0 and at 7,501 ms. -/
theorem test_lamp_trip :
    after (.lampTrip 3 10000) braking
      (fun t => ((t.channel 3).health, (t.channel 3).retry, (t.channel 3).short, t.lampPin 3, t.hasFault .lampShort 3)) =
      some (.short, 0, .resting, false, true) ∧
    after (.lampTrip 3 10000)
      (stopLamp (fun c => { c with retry := 3, health := .short, short := .proving }) (withFaults [(.lampShort, 3)] braking))
      (fun t => ((t.channel 3).health, (t.channel 3).short, t.lampPin 3, t.hasFault .lampShort 3, t.hasFault .lampLocked 3)) =
      some (.locked, .none, false, false, true) := by decide +kernel

/-- Channel 3 with two samples that disagree with its health behind it, at its first sample instant. -/
def atInstant (f : Channel → Channel) : State :=
  stopLamp (fun c => f { c with health := .untested, steady := some 200, run := some (.good, 2) }) braking

/-- The health of channel 3, whether it has no sample run, and its used mark. -/
def sampledRecord (s : State) : Health × Bool × Bool :=
  ((s.channel 3).health, (s.channel 3).run.isNone, (s.channel 3).sampled)

/-- R111: the third agreeing sample moves the health; 2,000 mA lie between the default bounds. R109: an instant already used gives no
sample, and one reached while SHORT is used up with none. -/
theorem test_steady_sample :
    after (.steadySample 3 2000 24000) (atInstant id) sampledRecord = some (.good, true, true) ∧
    after (.steadySample 3 2000 24000) (atInstant fun c => { c with sampled := true }) sampledRecord =
      some (.untested, false, true) ∧
    after (.steadySample 3 2000 24000) (atInstant fun c => { c with health := .short }) sampledRecord =
      some (.short, false, true) := by decide +kernel

/-- R109: the timer's next ms is no longer the instant that was used; a flash channel's mark lasts its cycle (R110). -/
theorem test_instants_come_again :
    ({ Channel.reset with steady := some 200, sampled := true }.tick).sampled = false ∧
    ({ Channel.reset with steady := some 200, sampled := true }.newCycle).sampled = true ∧
    ({ Channel.reset with sampled := true }.tick).sampled = true ∧
    ({ Channel.reset with sampled := true }.newCycle).sampled = false := by decide

/-- R110: the SINGLE pattern is sampled at T_on / 2, once in a cycle. -/
theorem test_flash_sample :
    let s := asked (.single .turnL)
    let r := settle { s with demand := { s.demand with gateL := .running }, phase := { s.phase with phi := 167 } }
    after (.flashSample 5 40 24000) r (fun t => (t.channel 5).run) = some (some (.openCircuit, 1)) ∧
    after (.flashSample 5 40 24000) (modChannel 5 (fun c => { c with sampled := true }) r) (fun t => (t.channel 5).run) =
      some none := by decide +kernel

/-- Section 5.9 at 2,000 ms. -/
theorem test_rest_timer_expiry :
    after (.restTimerExpiry 3)
      (stopLamp (fun c => { c with health := .short, short := .resting, rest := .running 2000 2000, lit := false }) braking)
      (fun t => ((t.channel 3).retry, (t.channel 3).short, t.lampPin 3)) = some (1, .proving, true) := by decide +kernel

/-- Section 5.9: a trial that comes through leaves the channel UNTESTED. -/
theorem test_proving_timer_expiry :
    after (.provingTimerExpiry 3)
      (stopLamp (fun c => { c with health := .short, short := .proving, proving := .running 200 200, retry := 1 })
        (withFaults [(.lampShort, 3)] braking))
      (fun t => ((t.channel 3).health, (t.channel 3).short, t.lampPin 3, t.hasFault .lampShort 3)) =
      some (.untested, .none, true, false) := by decide +kernel

/-- R135, R136, R147: 512 counts scale to 700, at the threshold, which is reported; no conversion before its 20 ms (R134). -/
theorem test_analog_conversion :
    let s := fun n => sensorW (fun u => { u with conversion := .running n 20 }) (station .joined)
    after (.analogConversion (List.replicate 4 { millivolts := 2500, counts := 512 })) (s 20)
      (fun t => (t.sensor.analogs.map fun a => (a.value, a.on), frames t)) =
      some ([(700, true), (0, false), (0, false), (0, false)], [.reportAnalog none]) ∧
    after (.analogConversion (List.replicate 4 { millivolts := 2500, counts := 512 })) (s 19) (fun t => t == s 19) =
      some true := by decide +kernel

/-- R134 and the readings worked in section 7.1: whatever counts the reading brings, 500 mV is 102 and 4,500 mV is 921. -/
theorem test_counts :
    let c := fun (v : Int) (n : Nat) => countsOf { millivolts := v, counts := n }
    c 500 0 = 102 ∧ c 500 1023 = 102 ∧ c 4500 0 = 921 ∧ c 4500 1023 = 921 ∧ c 0 9 = 0 ∧ c 5000 9 = 1023 := by decide

/-- Section 7.8: the second edge is MOVING; a cascaded pair carries (R139). -/
theorem test_pulse_edge :
    after (.pulseEdge 1 true)
      { station .joined with sensor := { (station .joined).sensor with wheel := .running 180 1000 } }
      (fun t => (t.sensor.moving, t.sensor.countsTimer, frames t)) =
      some (true, .running 0 500, [.reportCounts none]) ∧
    after (.pulseEdge 3 false)
      { station .joined with
        sensor := { (station .joined).sensor with levels := [false, false, true, false] }
        retention := { Retention.lost with counts := [0, 0, 65535, 7] } }
      (fun t => t.retention.counts) = some [0, 0, 0, 8] := by decide +kernel

/-- R142: with the wheel timer at 1,000 ms an edge taken first makes the station MOVING and undoes the expiry. -/
theorem test_wheel_edge_before_expiry :
    let s := sensorW (fun u => { u with wheel := .running 1000 1000 }) (station .joined)
    after (.pulseEdge 1 true) s (fun t => after .wheelTimerExpiry t fun u => (u.sensor.moving, u.sensor.wheel)) =
      some (some (true, .running 0 1000)) := by decide +kernel

/-- Section 7.8 at 61,000 ms. -/
theorem test_wheel_timer_expiry :
    after .wheelTimerExpiry
      { station .joined with sensor := { (station .joined).sensor with moving := true, wheel := .running 1000 1000 } }
      (fun t => (t.sensor.moving, t.sensor.countsTimer)) = some (false, .running 0 1000) := by decide +kernel

/-- Section 7.8: the view falls to STILL with the last fresh entry. -/
theorem test_motion_entry_stale :
    after (.motionEntryStale 1)
      (settle
        { station .joined with
          sensor := { (station .joined).sensor with table := [(1, { moving := true, age := 1500, stale := false })] } })
      (fun t => (t.sensor.view, (Table.get t.sensor.table 1).map MotionEntry.stale)) = some (false, some true) := by
  decide +kernel

/-- R146. -/
theorem test_counts_timer_expiry :
    after .countsTimerExpiry
      { station .sync with sensor := { (station .sync).sensor with countsTimer := .running 1000 1000 } }
      (fun t => (frames t, t.sensor.countsTimer)) = some ([.reportCounts none], .running 0 1000) := by decide +kernel

/-- R147. -/
theorem test_analog_timer_expiry :
    after .analogTimerExpiry
      { station .sync with sensor := { (station .sync).sensor with analogTimer := .running 1000 1000 } }
      frames = some [.reportAnalog none] := by decide +kernel

/-- A joined station whose body channel 1 runs for tag 17 (section 8.7). -/
def lifting : State :=
  settle
    { station .joined with
      body :=
        { (station .joined).body with
          channels :=
            { BodyChannel.reset with running := true, timer := .running 0 120000, lastTag := 17, runTag := 17 } ::
              List.replicate 3 .reset }
      demand := { (station .joined).demand with hazard := true, own := .single .hazard, active := true, repeatTimer := .running 0 100 } }

/-- A joined station that is about to have its body channel 1, a hazard-raising one, run or not, while input 1 is a STEADY input
that places HAZARD. -/
def hazardous (runs : Bool) : State :=
  let s := if runs then lifting else station .joined
  { s with
    loader := { s.loader with profile := { profile with dins := .steady .hazard :: List.replicate 7 .unused } }
    demand :=
      { s.demand with
        levels := true :: List.replicate 7 false, own := .single .hazard, active := true
        repeatTimer := .running 60 100 } }

/-- R161: a change of the hazard part is a change of the own contribution, at the start and at the end of a run, though an input
places HAZARD all along. -/
theorem test_hazard_part_change_is_sent :
    after (.bodyRequestReceived 1 2 1 1 17) (hazardous false)
      (fun t => (t.demand.hazard, t.demand.own, t.demand.repeatTimer, (frames t).head?)) =
      some (true, .single .hazard, .running 0 100, some (.demand (.single .hazard) false false)) ∧
    after (.runTimerExpiry 1) (hazardous true)
      (fun t => (t.demand.hazard, t.demand.own, t.demand.repeatTimer, (frames t).head?)) =
      some (false, .single .hazard, .running 0 100, some (.demand (.single .hazard) false false)) := by decide +kernel

/-- R155. -/
theorem test_run_timer_expiry :
    after (.runTimerExpiry 1) lifting (fun t => (t.bodyPin 1, (t.bodyChannel 1).outcome)) = some (false, .timedOut) := by
  decide +kernel

/-- R158. -/
theorem test_body_driver_trip :
    after (.bodyDriverTrip 1) lifting (fun t => (t.bodyPin 1, (t.bodyChannel 1).outcome, t.hasFault .bodyTripped 1)) =
      some (false, .tripped, true) := by decide +kernel

/-- A joined station that relays a START to position 3. -/
def relaying (r : RelayState) : State :=
  withQueue [queued 4 (.bodyRequest 3 1 true 17) false]
    { station .joined with
      body :=
        { (station .joined).body with
          relay := { state := r, target := 3, channel := 1, start := true, tag := 17, reply := none, timer := .running 500 500, frameId := 4 } } }

/-- R164: still pending at 500 ms. -/
theorem test_relay_reply_expiry :
    after .relayReplyExpiry (relaying .waiting) (fun t => (t.body.relay.state, frames t)) = some (.notSent, []) := by
  decide +kernel

/-- R54, R172: the MARK captures its lag as its Start is sent. -/
theorem test_frame_start :
    after .frameStart
      (withQueue [queued 0 (.mark 667 50 none) false]
        { station .joined with phase := { (station .joined).phase with phi := 12 } })
      (fun t => (t.line.state, t.line.queue)) =
      some (.busy, [queued 0 (.mark 667 50 (some 12)) true]) := by decide +kernel

/-- R8: in STANDALONE a station sends nothing. -/
theorem test_frame_start_standalone :
    after .frameStart (withQueue [queued 0 (.seatClaim 2 4660 .semiTrailer false) false] (station .standalone))
      (fun t => (t.line.state, t.line.queue.map Entry.inFlight)) = some (.idle, [false]) := by decide +kernel

/-- R173. -/
theorem test_arbitration_lost :
    after .arbitrationLost (onLine 1 (sending 0 (.mark 667 50 (some 12)) (station .joined))) (fun t => t.line.queue) =
      some [queued 0 (.mark 667 50 none) false] := by decide +kernel

/-- R173, R174: with the Check begun no arbitration is lost. -/
theorem test_arbitration_past_payload :
    after .arbitrationLost (onLine 26 (sending 0 .stageTake (station .joined))) (fun t => t.line.queue) =
      some [queued 0 .stageTake true] := by decide +kernel

/-- R180: the third drive fault in a row mutes. -/
theorem test_drive_fault :
    after .driveFault
      (onLine 5 (sending 0 .stageTake (lineW (fun l => { l with driveFaults := 2 }) (station .joined))))
      (fun t => (t.line.mute, t.line.disable, t.hasFault .lineMute 0)) = some (true, .running 0 100, true) := by
  decide +kernel

/-- R169, R175: a Start read recessive leaves the line IDLE after 30 recessive bits and one more; a later bit leaves the Start counted. In
either case six recessive bits after a Start are a run of 6 on a BUSY line. -/
theorem test_drive_fault_bits :
    let l := (onLine 1 (sending 0 .stageTake (station .joined))).line
    (l.readNoStart.state, l.readNoStart.recessive, l.readNoStart.reception) = (.idle, 31, none) ∧
    ∀ u ∈ [l.goOnReceiving, l.readNoStart],
      let v := u.readOther [false, true, true, true, true, true, true]
      (v.state, v.recessive) = (.busy, 6) := by decide +kernel

/-- R179. -/
theorem test_disable_timer_expiry :
    after .disableTimerExpiry { station .joined with line := { (station .joined).line with disable := .running 100 100 } }
      (fun t => t.line.disable) = some .stopped := by decide +kernel

/-- R15: the window opens when the claim has been sent to its end. -/
theorem test_frame_sent :
    after .frameSent
      (withQueue [queued 7 (.seatClaim 3 4660 .semiTrailer false) true]
        { station .claiming with
          seat := { (station .claiming).seat with claimed := 3, claim := .inFlight, claimId := 7, unseated := .running 40 5000 } })
      (fun t => (t.seat.claim, t.seat.window, t.seat.unseated, frames t)) = some (.window, .running 0 200, .stopped, []) := by
  decide +kernel

/-- R181. -/
theorem test_line_stuck :
    after .lineStuck (station .joined) (fun t => (t.line.state, t.hasFault .lineStuck 0)) = some (.stuck, true) := by
  decide +kernel

/-- R181. -/
theorem test_line_stuck_cleared :
    after .lineStuckCleared
      (withFaults [(.lineStuck, 0)] { station .joined with line := { (station .joined).line with state := .stuck } })
      (fun t => (t.line.state, t.hasFault .lineStuck 0)) = some (.idle, false) := by decide +kernel

/-- R177: six dominant bits are a stuff error. -/
theorem test_frame_discarded :
    after (.frameDiscarded (List.replicate 6 false)) (station .joined) (fun t => t.line.malformed) = some 1 := by
  decide +kernel

/-- R177: the Check is compared at its last bit, where a stuff bit is still awaited: here 31, which is not the frame's. -/
theorem test_check_ends_a_run :
    crc8 (checkedBits 0 1 [0, 85]) ≠ 31 ∧
    hear ((stuff true 0 (false :: (checkedBits 0 1 [0, 85] ++ bitsOf 8 31))).dropLast) = .discarded := by decide +kernel

/-- R175: the phase at the mark instant is kept with the frame. -/
theorem test_mark_instant :
    after .markInstant { station .joined with phase := { (station .joined).phase with phi := 660 } }
      (fun t => (t.line.state, t.line.reception.map Reception.phase)) = some (.busy, some 660) := by decide +kernel

/-- R169. -/
theorem test_line_idle :
    after .lineIdle { station .joined with line := { (station .joined).line with state := .busy } }
      (fun t => t.line.state) = some .idle := by decide +kernel

/-- R81: members TAIL and STOP with the origin flag. -/
theorem test_demand_received :
    after (.demandReceived 1 192 32) (station .joined) (fun t => (Table.get t.demand.table 1, t.demand.eff)) =
      some (some { set := { DemandSet.empty with tail := true, stop := true }, origin := true, age := 0 },
        { DemandSet.empty with tail := true, stop := true }) := by decide +kernel

/-- Section 3.9: station B, 19 ms behind, wraps at once. -/
theorem test_mark_behind :
    after (.markReceived 1 667 50 12)
      { station .joined with
        phase := { (station .joined).phase with phi := 664 }
        line :=
          { (station .joined).line with reception := some (started 660) } }
      (fun t => ([t.phase.phi, t.phase.len, t.phase.slip, t.phase.quiet], t.phase.lock, frames t)) =
      some ([16, 667, 0, 0], .slewing, []) := by decide +kernel

/-- Section 3.11: station N steps onto a period of 500 ms. -/
theorem test_mark_in_sync :
    after (.markReceived 1 500 50 10)
      { station .sync with
        phase :=
          { (station .sync).phase with
            phi := 990, len := 1000, period := 1000, duty := 50, syncTimer := .running 700 3000 }
        line :=
          { (station .sync).line with reception := some (started 986) } }
      (fun t => (t.seat.stage, [t.phase.phi, t.phase.len, t.phase.period, t.phase.quiet], t.phase.lock, t.phase.marked)) =
      some (.joined, [14, 500, 500, 0], .slewing, false) := by decide +kernel

/-- R29, R36: the listed positions leave the roster; one it does not hold keeps its demand table entry, and its reassembly state
becomes IDLE too. -/
theorem test_depart_received :
    after (.departReceived 1 12 0)
      { station .joined with
        roster := { (station .joined).roster with entries := [(2, entry 4660), (3, entry 1), (4, entry 2)] } }
      (fun t => (t.seat.stage, t.roster.entries.map Prod.fst)) = some (.joined, [2]) ∧
    after (.departReceived 3 1 0)
      (rosterW (fun r => { r with reasm := [(1, { total := 3, expected := 1, bytes := [1] })] }) (station .joined))
      (fun t => (t.demand.table.map Prod.fst, t.roster.reasm)) = some ([1], []) := by decide +kernel

/-- R4, R186: a frame cut off ends in six dominant bits; one in its last End bit completes. -/
theorem test_depart_cuts_off :
    let s := fun l => lineW (fun u => { u with reception := some (leaving l) }) (withQueue [queued 0 .stageTake true] (station .joined))
    after (.departReceived 1 2 1) (s [true]) (fun t => (frames t, t.lineBits)) = some ([], List.replicate 6 false) ∧
    after (.departReceived 1 2 1) (s []) (fun t => (frames t, t.line.cutOff)) = some ([.stageTake], 0) := by decide +kernel

/-- R105: the pulsed TAIL lamp goes off as the check is abandoned, and the fallback set lights it anew. -/
theorem test_depart_abandons_check :
    after (.departReceived 1 2 1)
      (stopLamp id
        { station .checking with
          lamps :=
            { channels := { Channel.reset with lit := true, steady := some 20 } :: List.replicate 11 .reset
              check := some { todo := [1, 2], turn := 20, pulse := true } } })
      (fun t => (t.seat.stage, (t.channel 1).lit, (t.channel 1).steady, t.lamps.check)) =
      some (.standalone, true, some 0, none) := by decide +kernel

/-- R30: a DEPART that lists the own seat. -/
theorem test_depart_lists_own_seat :
    after (.departReceived 1 2 1) (station .joined)
      (fun t => (t.seat.stage, t.seat.ownSeat, t.seatOut, t.roster.entries)) = some (.standalone, 0, false, []) := by
  decide +kernel

/-- R14: the offer of the unit in front is taken. -/
theorem test_seat_offer_received :
    let s := { station .listen with seat := { (station .listen).seat with seatIn := true } }
    after (.seatOfferReceived 2 3) s (fun t => (t.seat.stage, frames t)) =
      some (.claiming, [.seatClaim 3 4660 .semiTrailer false]) ∧
    after (.seatOfferReceived 2 4) s (fun t => t.seat.stage) = some .listen := by decide +kernel

/-- R18: a claim without the rejoin flag takes the seat, one with it does not. -/
theorem test_seat_claim_received :
    after (.seatClaimReceived 0 2 99 2) (station .joined)
      (fun t => (t.seat.stage, t.seat.ownSeat, t.hasFault .seatConflict 2)) = some (.conflict, 0, true) ∧
    after (.seatClaimReceived 0 2 99 130) (station .joined) (fun t => (t.seat.stage, t.seat.ownSeat)) =
      some (.joined, 2) := by decide +kernel

/-- R27: a unit behind the prober answers. -/
theorem test_probe_received :
    after (.probeReceived 1 1) (station .joined) frames = some [.probePresent 1] ∧
    after (.probeReceived 2 2) (station .joined) frames = some [] := by decide +kernel

/-- R27: answers are gathered while the departure timer runs. -/
theorem test_probe_present_received :
    after (.probePresentReceived 4 2)
      { station .joined with seat := { (station .joined).seat with departure := .running 5 1500, answered := [3] } }
      (fun t => t.seat.answered) = some [3, 4] := by decide +kernel

/-- A joined station whose roster holds a unit at position 3. -/
def paired : State :=
  { station .joined with roster := { (station .joined).roster with entries := [(2, entry 4660), (3, entry 1)] } }

/-- R37: eight good, three failed, incomplete (section 5.8). -/
theorem test_stage_checked_received :
    after (.stageCheckedReceived 3 8 3 0) paired
      (fun t => (Table.get t.roster.entries 3).map fun e => (e.stage, e.check)) =
      some (some (.checked, some { good := 8, failed := 3, complete := false })) := by decide +kernel

/-- R37. -/
theorem test_stage_joined_received :
    after (.stageJoinedReceived 3 2) paired
      (fun t => (Table.get t.roster.entries 3).map fun e => (e.stage, e.note)) = some (some (.joined, .declined)) := by
  decide +kernel

/-- R125: a take from behind ends the own role. -/
theorem test_stage_take_received :
    after (.stageTakeReceived 3) { paired with rear := { status := .holder, neighbour := none } }
      (fun t => (t.rear.status, t.ownNote)) = some (.none, .yielded) := by decide +kernel

/-- R127: a decline from the unit next behind. -/
theorem test_stage_decline_received :
    after (.stageDeclineReceived 3 2) { paired with rear := { status := .pending, neighbour := none } }
      (fun t => (t.rear.status, t.rear.neighbour)) =
      some (.retained, some { reverse := false, rearFog := true, plate := false }) := by decide +kernel

/-- R127. -/
theorem test_stage_yield_received :
    after (.stageYieldReceived 3) paired (fun t => (Table.get t.roster.entries 3).map RosterEntry.note) =
      some (some .yielded) := by decide +kernel

/-- R38: count 2, highest 3, left. -/
theorem test_fault_received :
    after (.faultReceived 3 1 4 131 45) paired (fun t => (Table.get t.roster.entries 3).map RosterEntry.fault) =
      some (some (some { count := 2, highest := 3, sides := { left := true, right := false } })) := by decide +kernel

/-- Section 8.7 at 3 ms: served, with the DEMAND ahead of the BODY STATUS. -/
theorem test_body_request_received :
    after (.bodyRequestReceived 1 2 1 1 17) (station .joined)
      (fun t => (t.bodyPin 1, (t.bodyChannel 1).timer, frames t)) =
      some (true, .running 0 120000, [.demand (.single .hazard) false false, .bodyStatus 1 true .started 17]) := by
  decide +kernel

/-- Section 8.7 at 12 ms. -/
theorem test_body_status_received :
    after (.bodyStatusReceived 3 1 1 7 17) (relaying .sent) (fun t => (t.body.relay.state, t.body.relay.reply)) =
      some (.answered, some (true, .started)) := by decide +kernel

/-- R43: segment 0 of 2 is kept; one out of its order ends the gathering. -/
theorem test_profile_segment_received :
    after (.profileSegmentReceived 3 2 (List.replicate 11 7)) paired (fun t => t.roster.reasm) =
      some [(3, { total := 2, expected := 1, bytes := List.replicate 11 7 })] ∧
    after (.profileSegmentReceived 3 18 [7]) paired (fun t => t.roster.reasm) = some [] := by decide +kernel

/-- Section 7.8 at 184 ms. -/
theorem test_report_counts_received :
    after (.reportCountsReceived 1 1 [0, 0, 0, 0]) (station .joined) (fun t => (t.sensor.table, t.sensor.view)) =
      some ([(1, { moving := true, age := 0, stale := false })], true) := by decide +kernel

/-- R149: nothing is kept of it. -/
theorem test_report_analog_received :
    after (.reportAnalogReceived 1 1 [0, 0, 0, 0]) (station .joined) (fun t => t.sensor == (station .joined).sensor) =
      some true := by decide +kernel

/-- Section 10.6 at 6 ms and its variant: an item the class lacks is NO-ITEM. -/
theorem test_query_received :
    after (.queryReceived 1 2 3 9 4) (station .joined)
      (fun t => (frames t).map fun f => match f with | .answer r c i o _ => (r, c, i, o) | _ => (0, 0, 0, .busy)) =
      some [(1, 3, 9, .ok)] ∧
    after (.queryReceived 1 2 3 13 1) (station .joined) frames = some [.answer 1 3 13 .noItem []] := by decide +kernel

/-- R192: a BUSY held from before stays while another is queued. -/
theorem test_query_while_answering :
    after (.queryReceived 3 2 3 9 4)
      (portW (fun p =>
          { p with
            answering := some { requester := 1, cls := 3, first := 1, count := 4, next := 2, left := 3, ended := false, retry := false }
            owed := some { requester := 4, cls := 1, index := 1 } }) (station .joined))
      (fun t => (frames t, t.port.owed)) =
      some ([.answer 3 3 9 .busy []], some { requester := 4, cls := 1, index := 1 }) := by decide +kernel

/-- A joined station with the query of section 10.6 outstanding. -/
def asking : State :=
  { station .joined with
    port :=
      { (station .joined).port with
        query :=
          some
            { target := 3, cls := 3, first := 9, count := 4, answers := 3, timer := .running 250 250, sent := true,
              frameId := 0 } } }

/-- Section 10.6 at 12 and at 30 ms. -/
theorem test_answer_received :
    after (.answerReceived 3 2 3 9 0 [1]) asking (fun t => (t.port.store.length, t.port.attn, t.port.queryOutcome)) =
      some (1, true, .none) ∧
    after (.answerReceived 3 2 3 12 0 [0]) asking (fun t => (t.port.query, t.port.queryOutcome)) =
      some (none, .complete) := by decide +kernel

/-- R210: an item class outside 1..7 is taken as the lowest listed, STATION. -/
theorem test_answer_class :
    after (.answerReceived 3 2 9 1 0 [7])
      (portW (fun p => { p with query := p.query.map fun q => { q with cls := 1, first := 1, count := 2 } }) asking)
      (fun t => t.port.store.map StoreEntry.cls) = some [1] := by decide +kernel

/-- R199: an ANSWER taken first in the millisecond of the expiry moves the query on. -/
theorem test_answer_before_reply_expiry :
    after (.answerReceived 3 2 3 10 0 []) asking
      (fun t => after .queryReplyExpiry t fun u => u.port.query.map fun q => (q.answers, q.timer)) =
      some (some (some (4, .running 0 250))) := by decide +kernel

/-- R199. -/
theorem test_query_reply_expiry :
    after .queryReplyExpiry asking (fun t => (t.port.query, t.port.queryOutcome)) = some (none, .timeout) := by
  decide +kernel

/-- R195: the port's own address alone is acknowledged. -/
theorem test_status_port_write :
    after (.statusPortWrite 52 [255]) (station .joined) (fun t => (t.port.addressAck, t.port.byteAcks)) =
      some (true, [false]) ∧
    after (.statusPortWrite 53 [0]) (station .joined) (fun t => (t.port.addressAck, t.port.byteAcks)) =
      some (false, []) := by decide +kernel

/-- R196: the flags are cleared by the first byte. -/
theorem test_station_item_read :
    after .stationItemRead
      { station .joined with port := { (station .joined).port with attn := true, collision := true, pointer := 17 } }
      (fun t => (t.port.attn, t.port.collision, t.port.dataOut.length, t.port.pointer)) = some (false, false, 1, 0) := by
  decide +kernel

/-- A station whose answer store holds one entry. -/
def stored : State :=
  { station .joined with
    port := { (station .joined).port with store := [{ sender := 3, cls := 3, index := 9, status := .ok, data := [1] }] } }

/-- R197: the entry leaves with its last byte. -/
theorem test_answer_store_read : after .answerStoreRead stored (fun t => t.port.store) = some [] := by decide +kernel

/-- R195: a read of every byte clocked out is acknowledged. -/
theorem test_status_port_read :
    after (.statusPortRead 52 5) (station .joined) (fun t => (t.port.addressAck, t.port.dataOut.length)) =
      some (true, 5) := by decide +kernel

/-- R198: the slot takes one request, and a second collides. -/
theorem test_request_body_start :
    after (.requestBodyStart 3 1 17) (station .joined) (fun t => (t.port.slot, t.port.collision)) =
      some (some (.bodyStart 3 1 17), false) := by decide +kernel

theorem test_request_body_stop :
    after (.requestBodyStop 3 1 18) { station .joined with port := { (station .joined).port with slot := some .restart } }
      (fun t => (t.port.slot, t.port.collision)) = some (some .restart, true) := by decide +kernel

theorem test_request_query :
    after (.requestQuery 3 3 9 4) asking (fun t => (t.port.slot, t.port.collision)) = some (none, true) := by decide +kernel

theorem test_request_restart :
    after .requestRestart (station .joined) (fun t => t.port.slot) = some (some .restart) := by decide +kernel

/-- R164 and R200. -/
theorem test_slot_take :
    after .slotTake
      { station .joined with port := { (station .joined).port with slot := some (.bodyStart 3 1 17), slotDue := true } }
      (fun t => (frames t, t.body.relay.state, t.port.slot)) =
      some ([.bodyRequest 3 1 true 17], .waiting, none) ∧
    after .slotTake { station .joined with port := { (station .joined).port with slot := some .restart, slotDue := true } }
      (fun t => (t.seat.stage, t.loader.cause, t.retention.valid)) = some (.loading, .commanded, false) := by
  decide +kernel

/-- A unit the part does not have stops the machine. -/
theorem test_no_such_unit : exec (.lampTrip 13 0) State.reset = .fault .noSuchUnit := rfl

/-! ### Witnesses: states that meet the hypotheses of each statement, at the ends of the ranges its clauses name -/

/-- Seven faults. -/
def seven : List (FaultCode × Nat) := (List.range 7).map fun n => (.lampOpen, n + 1)

/-- A profile block with both counter pairs cascaded, body switches 1 and 4 and an OFF threshold above its ON threshold;
its last two bytes are left out. -/
def block : List Byte :=
  [(0, 1), (81, 3), (82, 4), (83, 3), (84, 1), (97, 1), (104, 5), (106, 9), (137, 3), (138, 128), (141, 3), (142, 128)].foldl
    (fun b e => b.set e.1 e.2) (List.replicate 161 0)

/-- The image of identity 4660 and that block; the checks were worked out outside the model. -/
def ranged : List Byte := identityBytes 4660 ++ bytes2 7638 ++ block ++ bytes2 48799

theorem crc16_split (n : Nat) (l : List Byte) : crc16 l = (l.drop n).foldl crc16Byte (crc16 (l.take n)) := by
  unfold crc16
  rw [← List.foldl_append, List.take_append_drop]

theorem block_crc_40 : crc16 (block.take 40) = 27517 := by decide +kernel

theorem block_crc_80 : crc16 (block.take 80) = 25298 := by
  rw [crc16_split 40, show (block.take 80).take 40 = block.take 40 by decide +kernel, block_crc_40]
  decide +kernel

theorem block_crc_120 : crc16 (block.take 120) = 36539 := by
  rw [crc16_split 80, show (block.take 120).take 80 = block.take 80 by decide +kernel, block_crc_80]
  decide +kernel

theorem block_crc : crc16 block = 48799 := by
  rw [crc16_split 120, block_crc_120]
  decide +kernel

/-- The check over a whole profile block (R202), its value worked out outside the model. -/
theorem test_profile_valid : profileValid ranged = true := by
  simp only [profileValid, show (profileBlock ranged).take 161 = block by decide +kernel, block_crc]
  decide +kernel

theorem witness_StepRunsTheFrontCommand :
    ({ State.reset with pending := [.wrap, .start] } : State).pending = .wrap :: [.start] := rfl

theorem witness_IdleStepLetsTimePass :
    (let s := phaseW (fun p => { p with phi := 667 }) (station .joined)
     s.pending = [] ∧ due s = some .wrap) ∧
    (State.reset.pending = [] ∧ due State.reset = none ∧ State.reset.power = .running) ∧
    (let s := { State.reset with power := .stopped }
     s.pending = [] ∧ due s = none ∧ s.power ≠ .running) ∧
    (let s := checkAt [1, 11] 20 true
     s.pending = [] ∧ due s = none ∧ s.power = .running ∧ s.seat.stage = .checking ∧
     s.lamps.check = some { todo := [1, 11], turn := 20, pulse := true } ∧ [1, 11] ≠ []) ∧
    (let s := checkAt [1, 11] 19 true
     s.pending = [] ∧ due s = none ∧ s.lamps.check = some { todo := [1, 11], turn := 19, pulse := true }) ∧
    ((station .joined).pending = [] ∧ due (station .joined) = none ∧ (station .joined).loaded = true) ∧
    ((station .joined).line.cutOff = 0 ∧ (station .joined).line.reception = none ∧ (station .joined).line.state = .idle ∧
      State.reset.line.state ≠ .idle ∧ (lineW (fun l => { l with cutOff := 6 }) (station .joined)).line.cutOff ≠ 0) ∧
    (started 0).receiving = true ∧ (leaving [true]).receiving = false := by decide +kernel

theorem witness_OnlyUnknownUnitsStop :
    (Instr.lampTrip 12 10230).wellFormed = true ∧ ¬(1 ≤ 13 ∧ 13 ≤ 12) ∧ ¬(1 ≤ 0 ∧ 0 ≤ 12) ∧ ¬(1 ≤ 9 ∧ 9 ≤ 8) ∧
    ¬(1 ≤ 0 ∧ 0 ≤ 8) ∧ ¬(1 ≤ 5 ∧ 5 ≤ 4) ∧ ¬(1 ≤ 0 ∧ 0 ≤ 4) := by decide

theorem witness_StoppedStationTakesNoEvent :
    ({ braking with power := .stopped } : State).power ≠ .running ∧ Instr.wellFormed .wrap = true ∧
    Instr.wrap ≠ .start ∧ Instr.wrap ≠ .supplyLost := by decide +kernel

/-- The n-th channel's lit state agrees with its inputs. -/
def litAgrees (s : State) (n : Nat) : Bool :=
  match nth s.lamps.channels n with
  | none => true
  | some c =>
    c.lit == (s.calledFor n && c.health != .locked && c.short != .resting) &&
      (c.short != .waiting || !s.calledFor n || c.health == .locked)

/-- The three flash gates, each with its asking member and its pattern's lit part. -/
def gates (s : State) : List (Gate × Bool × Bool) :=
  [(s.demand.gateL, s.demand.eff.asks .turnL, s.phase.singleLit), (s.demand.gateR, s.demand.eff.asks .turnR, s.phase.singleLit),
    (s.demand.gateB, s.demand.eff.asks .beacon, s.phase.doubleLit)]

/-- The derived parts of a state, taken one by one, agree with their inputs. -/
abbrev judged (s : State) : Prop :=
  (s.sensor.view = s.viewDue ∧ s.demand.hazard = s.hazardDue ∧ s.demand.own = s.contribution ∧
    s.demand.fallback = s.fallbackDue ∧ s.demand.eff = s.effective ∧ s.seat.offer.isRunning = s.offerDue) ∧
  (∀ g ∈ gates s,
    (s.joined = false → g.1 = .off) ∧ (s.joined = true → g.2.1 = true → g.1 = .armed ∨ g.1 = .running) ∧
      (g.2.1 = false → g.1 = .off ∨ (g.1 = .ending ∧ g.2.2 = true))) ∧
  (s.lamps.channels.length ≤ 12 ∧ ∀ n ∈ List.range 13, litAgrees s n = true) ∧
  (∀ n ∈ bodyNumbers, (s.bodyChannel n).running = true →
    s.joined = true ∧ ((s.bodyCfg n).motionInhibited = true → s.sensor.view = false) ∧
      ((s.bodyCfg n).parkRequired = true → s.demand.eff.park = true))

/-- Such a state is settled. -/
theorem settled_of (s : State) (h : judged s) : Settled s := by
  obtain ⟨⟨h1, h2, h3, h4, h5, h6⟩, hg, hl, hb⟩ := h
  have key : ∀ n c, nth s.lamps.channels n = some c →
      c.lit = (s.calledFor n && c.health != .locked && c.short != .resting) ∧
        (c.short != .waiting || !s.calledFor n || c.health == .locked) = true := by
    intro n c hc
    have hn : n < 13 := by
      match n, hc with
      | 0, _ => decide
      | n + 1, hc =>
        have := (List.getElem?_eq_some_iff.1 hc).1
        omega
    simpa only [litAgrees, hc, Bool.and_eq_true, beq_iff_eq] using hl.2 n (List.mem_range.2 hn)
  exact
    { view := h1, hazard := h2, own := h3, fallback := h4, eff := h5, offer := h6, runs := hb
      gateL := hg _ List.mem_cons_self, gateR := hg _ (List.mem_cons_of_mem _ List.mem_cons_self)
      gateB := hg _ (List.mem_cons_of_mem _ (List.mem_cons_of_mem _ List.mem_cons_self))
      lit := fun n c hc => by rw [(key n c hc).1]; simp [and_assoc]
      waiting := fun n c hc hw hf => by simpa [hw, hf] using (key n c hc).2 }

/-- The same of several states. -/
theorem settled_all (l : List State) (h : ∀ s ∈ l, judged s) : ∀ s ∈ l, Settled s := fun s hs => settled_of s (h s hs)

/-- A joined station whose judgements have all been made. -/
theorem settled_joined : Settled (station .joined) :=
  settled_of _ (by decide +kernel)

/-- A station of one lamp channel, a TAIL lamp, and no body channel, outside JOINED. -/
def single (g : Stage) (c : Channel) : State :=
  { station g with
    lamps := { channels := [c], check := none }, body := { channels := [], relay := .reset } }

/-- A joined station whose TURN-L lamp, channel 5, is lit at the given φ; channel 12 is a BEACON. -/
def flashing (phi : Nat) : State :=
  settle
    (demandW (fun d =>
        { d with table := [(1, { set := { DemandSet.empty with turnL := true, beacon := true }, origin := true, age := 0 })]
                 gateL := .running, gateB := .running })
      (phaseW (fun p => { p with phi := phi })
        { station .joined with
          loader :=
            { (station .joined).loader with
              profile := { profile with lamps := profile.lamps.take 11 ++ [defaultLamp .beacon] } } }))

/-- The channels a state calls for. -/
def called (s : State) : List Nat := (List.range 14).filter s.calledFor

/-- The state with its brake-pressure state ON. -/
def braked (s : State) : State :=
  sensorW (fun u => { u with analogs := u.analogs.map fun a => { a with on := true } }) s

/-- A serving station of the given stage and rear-end status with every steady member asked for. -/
def steadyAsked (g : Stage) (r : RearStatus) : State :=
  { demandW (fun d => { d with eff := { DemandSet.empty with tail := true, stop := true, reverse := true, rearFog := true, work := true } })
      (station g) with
    rear := { status := r, neighbour := none } }

theorem witness_JudgementsAgree :
    (∀ g ∈ [Stage.loading, .listen], (station g).seat.stage = g ∧ called (braked (station g)) = []) ∧
    (∀ g ∈ [Stage.standalone, .conflict], (station g).seat.stage = g ∧ called (station g) = [1, 2, 7, 8] ∧
      (braked (station g)).brakeOn = true ∧ called (braked (station g)) = [1, 2, 3, 4, 7, 8]) ∧
    (∀ g ∈ [Stage.claiming, .profiling], (station g).seat.stage = g ∧ called (station g) = [] ∧
      called (seatW (fun c => { c with fallbackMark := true }) (station g)) = [1, 2, 7, 8]) ∧
    (called (checkAt [1, 11] 20 true) = [1] ∧ called (checkAt [11] 20 false) = [] ∧ called (station .checking) = []) ∧
    (∀ g ∈ [Stage.sync, .joined], (station g).seat.stage = g ∧ called (steadyAsked g .none) = [1, 2, 3, 4, 7, 8] ∧
      called (steadyAsked g .pending) = [1, 2, 3, 4, 7, 8, 9, 10, 11] ∧ called (station g) = []) ∧
    (called (flashing 0) = [5, 12] ∧ called (flashing 110) = [5, 12] ∧ called (flashing 111) = [5] ∧
      called (flashing 221) = [5] ∧ called (flashing 222) = [5, 12] ∧ called (flashing 332) = [5, 12] ∧
      called (flashing 333) = [5] ∧ called (flashing 334) = [] ∧
      called (demandW (fun d => { d with gateL := .armed, gateB := .off }) (flashing 0)) = []) := by decide +kernel

theorem witness_CommandsKeepAgreement :
    Settled (single .listen .reset) ∧
    ∃ t, exec (.presInAsserted) (single .listen .reset) = .next t ∧ t.power = .running :=
  ⟨settled_of _ (by decide +kernel), _, rfl, by decide +kernel⟩

theorem witness_SupplyAndReadEventsTaken :
    (∀ e ∈ [(0, Timer.stopped), (2, .running 2 2), (1, .running 1 2)],
      let s := { State.reset with loader := { State.reset.loader with attempts := e.1, retry := e.2 } }
      s.power = .running ∧ s.seat.stage = .loading ∧ s.loader.image = none ∧ s.loader.attempts < 3) ∧
    (Timer.stopped.isRunning = false ∧ (Timer.running 2 2).isDue = true ∧ 1 < 2) ∧
    (List.replicate 171 (0 : Byte)).length = 171 ∧ (List.replicate 170 (0 : Byte)).length ≠ 171 ∧
    (let s := { State.reset with loader := { State.reset.loader with attempts := 3 } }
     s.power = .running ∧ s.seat.stage = .loading ∧ 3 ≤ s.loader.attempts) ∧
    (let s := { State.reset with loader := { State.reset.loader with image := some ranged } }
     s.power = .running ∧ s.loader.image ≠ none) ∧
    ({ State.reset with power := .stopped } : State).power = .stopped ∧
    ({ State.reset with power := .lost } : State).power = .lost := by decide +kernel

/-- The pins at load done. -/
def pins (head seatIn : Bool) : LoadSample :=
  { head := head, adr1 := false, adr0 := false, seatIn := seatIn, presIn := false, din := List.replicate 8 false,
    cnt := List.replicate 4 false }

theorem witness_LoadDoneHandsOver :
    (let s := { State.reset with loader := { State.reset.loader with attempts := 3 } }
     s.power = .running ∧ s.seat.stage = .loading ∧ (s.loader.image ≠ none ∨ 3 ≤ s.loader.attempts) ∧
     (pins true true).din.length = 8 ∧ (pins true true).cnt.length = 4 ∧ s.faults.list = [] ∧
     s.seat.seatInSeen = false ∧ s.seat.presInSeen = false) ∧
    (let s := seatW (fun c => { c with seatIn := true, seatInSeen := true, presInSeen := true })
        { State.reset with loader := { State.reset.loader with attempts := 3 } }
     s.power = .running ∧ s.seat.stage = .loading ∧ s.seat.seatInSeen = true ∧ s.seat.presInSeen = true) := by
  decide +kernel

/-- A station in LOADING that has read an image at a start of the given kind, with a record of a seat. -/
def loading (k : StartKind) (valid : Bool) (n : Nat) : State :=
  { State.reset with
    loader := { State.reset.loader with cause := k, image := some ranged, attempts := 1, outcome := 1 }
    retention := { Retention.lost with valid := valid, identity := 4660, seat := n } }

theorem loading_ok (k : StartKind) (v : Bool) (n : Nat) : LoadingOk (loading k v n) :=
  { marker := fun _ => rfl, rejoin := fun _ => rfl, headListen := fun _ => rfl
    channels := fun _ _ h => List.eq_of_mem_replicate h }

theorem witness_ColdAndWarmLoad :
    (∀ k v n, LoadingOk (loading k v n)) ∧
    (∀ s ∈ [loading .cold true 1, loading .warm false 1, loading .warm true 0, loading .warm true 9, loading .warm true 1, loading .warm true 8],
      s.power = .running ∧ (s.loader.image ≠ none ∨ 3 ≤ s.loader.attempts) ∧ s.seat.stage = .loading) ∧
    (loading .cold true 1).loader.cause ≠ .warm ∧ (loading .warm false 1).retention.valid = false ∧
    (loading .warm true 0).retention.seat = 0 ∧ 8 < (loading .warm true 9).retention.seat ∧
    (∀ n ∈ [1, 8], let s := loading .warm true n
      s.loader.cause = .warm ∧ s.retention.valid = true ∧ 1 ≤ s.retention.seat ∧ s.retention.seat ≤ 8 ∧
      s.retention.channels.length = 12 ∧ s.line.queue = [] ∧ s.line.mute = false) :=
  ⟨loading_ok, by decide +kernel⟩

theorem ranged_check : (crc16 (ranged.take 6)).toNat = word2 (byteAt ranged 6) (byteAt ranged 7) := by decide +kernel

theorem ranged_bytes : identityOf (ranged.take 6) = 4660 := by decide +kernel

/-- The identity the warm start of that statement compares with the record's, which is 4660. -/
theorem witness_ColdAndWarmLoad_identity : appliedIdentity (some ranged) = 4660 := by
  simp [appliedIdentity, goodIdentity, ranged_check, ranged_bytes]

theorem witness_AppliedProfileInRange :
    let p := appliedProfile (some ranged)
    DinCfg.bodySwitch 4 ∈ p.dins ∧ DinCfg.bodySwitch 1 ∈ p.dins ∧
    p.pulses.map PulseCfg.cascade = [true, false, true, false] ∧
    p.analog.map AnalogCfg.inUse = [true, false, false, false] := by
  rw [show appliedProfile (some ranged) = profileOf (profileBlock ranged) by
    simp only [appliedProfile, test_profile_valid, if_true]]
  decide +kernel

/-- Joined at seat 8 with PRES-IN at the given level. -/
def last (presIn : Bool) : State := seatW (fun c => { c with ownSeat := 8, presIn := presIn }) (station .joined)

theorem witness_CouplingInputsTaken :
    (∀ s ∈
      [seatW (fun c => { c with rejoin := some 8 }) (station .listen), station .joined, loading .cold true 1,
        withFaults seven (seatW (fun c => { c with seatIn := true }) (station .joined)),
        seatW (fun c => { c with departure := .running 0 1500 }) (withFaults seven (last false)),
        { station .listen with rear := { status := .holder, neighbour := none } },
        seatW (fun c => { c with presIn := true }) (station .listen), last true], Settled s) ∧
    (let s := seatW (fun c => { c with rejoin := some 8 }) (station .listen)
     s.power = .running ∧ s.seat.seatIn ≠ true ∧ s.seat.stage = .listen ∧ s.seat.rejoin = some 8 ∧
     s.loader.identity ≠ 0 ∧ s.line.mute = false ∧ s.line.queue = []) ∧
    ((station .joined).seat.stage ≠ .listen ∧ (station .joined).seat.seatIn = false ∧
      ¬((station .joined).seat.stage = .loading)) ∧
    (let s := loading .cold true 1
     s.power = .running ∧ s.seat.stage = .loading ∧ s.seat.seatInSeen = false ∧ s.seat.presInSeen = false ∧
     s.seated = false) ∧
    (let s := withFaults seven (seatW (fun c => { c with seatIn := true }) (station .joined))
     s.seat.seatIn ≠ false ∧ s.seated = true ∧ s.seat.head = false ∧ s.faults.list.length < 8) ∧
    (let s := seatW (fun c => { c with departure := .running 0 1500 }) (withFaults seven (last false))
     s.seat.presIn ≠ true ∧ s.seat.departure.isRunning = true ∧ s.serving = true ∧ s.seat.ownSeat = 8 ∧
     s.faults.list.length < 8) ∧
    (station .listen).serving = false ∧
    (let s := seatW (fun c => { c with presIn := true }) (station .listen)
     s.seat.presIn ≠ false ∧ s.seated = false) ∧
    ((last true).seat.presIn ≠ false ∧ (last true).seated = true) :=
  ⟨settled_all _ (by decide +kernel), by decide +kernel⟩

theorem witness_UnseatedTimersDecide :
    (let s := withFaults seven (seatW (fun c => { c with headListen := .running 300 300, pos1Heard := true }) (station .listen))
     s.power = .running ∧ s.seat.stage = .listen ∧ s.seat.headListen.isRunning = true ∧ s.seat.pos1Heard = true ∧
     s.faults.list.length < 8) ∧
    (let s := seatW (fun c => { c with headListen := .running 300 300 }) (station .listen)
     s.seat.pos1Heard = false ∧ s.loader.identity ≠ 0 ∧ s.line.mute = false ∧ s.line.queue = []) ∧
    (let s := lineW (fun l => { l with mute := true }) (seatW (fun c => { c with headListen := .running 300 300 }) (station .listen))
     s.seat.pos1Heard = false ∧ s.line.mute = true) ∧
    (let s := seatW (fun c => { c with unseated := .running 5000 5000, claim := .pending }) (station .claiming)
     s.seat.unseated.isRunning = true ∧ s.seat.stage = .claiming ∧ s.seat.claim ≠ .inFlight ∧ s.seat.claim = .pending) ∧
    (let s := seatW (fun c => { c with unseated := .running 5000 5000, claim := .inFlight }) (station .claiming)
     s.seat.unseated.isRunning = true ∧ s.seat.claim = .inFlight) := by decide +kernel

/-- The claimer whose channels all have the given health. -/
def claimerOf (h : Health) (rejoin mute : Bool) : State :=
  let s := lineW (fun l => { l with mute := mute }) (seatW (fun c => { c with claimRejoin := rejoin }) claimer)
  { s with lamps := { s.lamps with channels := List.replicate 12 { Channel.reset with health := h } } }

theorem witness_ClaimWindowSeats :
    (claimer.power = .running ∧ claimer.seat.stage = .claiming ∧ claimer.seat.window.isRunning = true ∧
      claimer.hasFault .frontLinkLost 0 = false ∧ claimer.line.mute = false ∧ claimer.seat.head = false ∧
      claimer.seat.seatIn = false ∧ (withFaults seven claimer).faults.list.length < 8 ∧
      (withFaults seven claimer).hasFault .frontLinkLost 0 = false) ∧
    (let tested := fun (s : State) => (s.seat.claimRejoin = true ∨ s.seat.reseat = true) ∧
       ∀ e ∈ s.lampHealth, e.1 = .unassigned ∨ e.2 ≠ .untested
     let nothingToTest := fun (s : State) => ∀ e ∈ s.lampHealth, e.1 = .unassigned ∨ e.2 = .locked
     tested (claimerOf .good true true) ∧ ¬nothingToTest (claimerOf .good true true) ∧
     nothingToTest (claimerOf .locked false true) ∧ ¬tested (claimerOf .locked false true) ∧
     ¬tested (claimerOf .untested true true) ∧ ¬nothingToTest (claimerOf .untested true true)) ∧
    (claimerOf .good true true).line.mute = true ∧ (seatW (fun c => { c with seatIn := true }) claimer).seat.seatIn = true := by
  decide +kernel

theorem witness_OfferConditionActs :
    (let s := seatW (fun c => { c with presIn := true }) (station .joined)
     s.offerDue = true ∧ s.seat.offer.isRunning = false) ∧
    (let s := seatW (fun c => { c with offer := .running 3 500 }) (station .joined)
     s.offerDue = false ∧ s.seat.offer.isRunning = true) ∧
    (let s := withQueue [queued 1 (.seatOffer 3) false]
        (seatW (fun c => { c with presIn := true, offer := .running 500 500 }) (station .sync))
     s.power = .running ∧ s.offerDue = true ∧ s.seat.offer.isRunning = true ∧
     ∃ e ∈ s.line.queue, e.frame.isOffer = true ∧ e.inFlight = false) ∧
    (let s := withQueue [queued 1 (.seatOffer 3) true]
        (seatW (fun c => { c with presIn := true, offer := .running 500 500 }) (station .sync))
     s.offerDue = true ∧ s.seat.offer.isRunning = true ∧ ∀ e ∈ s.line.queue, e.frame.isOffer = true → e.inFlight = true) := by
  decide +kernel

theorem witness_DepartureJudged :
    let s := fun l => seatW (fun c => { c with departure := .running 1500 1500, answered := l }) (station .joined)
    (∀ l ∈ [[3], [4], []], (s l).power = .running ∧ (s l).seated = true ∧ (s l).seat.departure.isRunning = true) ∧
    (s [3]).seat.ownSeat + 1 ∈ (s [3]).seat.answered ∧
    ((s [4]).seat.answered ≠ [] ∧ (s [4]).seat.ownSeat + 1 ∉ (s [4]).seat.answered) ∧ (s []).seat.answered = [] ∧
    (∀ l ∈ [true, false],
      let u := seatW (fun c => { c with presIn := l, departure := .running 1500 1500, answered := [4] })
        { withFaults seven (station .joined) with rear := { status := .retained, neighbour := none } }
      u.power = .running ∧ u.seated = true ∧ u.rear.status = .retained ∧ u.seat.presIn = l ∧ u.rearComplete = false ∧
        u.faults.list.length < 8) ∧
    Table.get (station .joined).roster.entries 3 = none ∧ (Table.get paired.roster.entries 3).isSome = true ∧
    3 ∈ (paired.roster.entries.map Prod.fst).filter fun k => decide (2 < k) := by
  decide +kernel

theorem witness_ReceptionTests :
    State.reset.power = .running ∧
    (frameValid 667 0 1 [0, 0] = true ∧ frameValid 667 0 8 [0, 0] = true ∧
      frameValid 667 3 0 [2, 1, 0, 0, 0, 0, 0, 1, 2] = true) ∧
    (frameValid 667 0 0 [0, 0] = false ∧ frameValid 667 0 9 [0, 0] = false ∧ frameValid 667 0 1 [0] = false ∧
      frameValid 667 3 0 [1, 2] = false) ∧
    ((markBytes 500 30 666 |> frameValid 667 1 1) = true ∧ (markBytes 1000 70 0 |> frameValid 667 1 8) = true) ∧
    ((0 : Nibble).toNat = 0 ∧ 8 < (9 : Nibble).toNat) ∧
    ((499 : Half).toNat < 500 ∧ 1000 < (1001 : Half).toNat ∧ (29 : Byte).toNat < 30 ∧ 70 < (71 : Byte).toNat ∧
      State.reset.phase.period ≤ (667 : Half).toNat) ∧
    11 < (List.replicate 12 (0 : Byte)).length ∧ 8 < (List.replicate 9 (0 : Byte)).length ∧
    (List.replicate 3 (0 : Half)).length ≠ 4 := by decide +kernel

/-- A station whose warm rejoin claim of seat 5 is pending. -/
def rejoiner : State :=
  withQueue [queued 3 (.seatClaim 5 4660 .semiTrailer true) false]
    (seatW
      (fun c =>
        { c with
          seatIn := true, claimed := 5, rejoin := some 5, claimRejoin := true, claim := .pending, claimId := 3 })
      (station .claiming))

theorem witness_SeatOfferTaken :
    let ok := fun (s : State) (n : Nibble) (seat : Byte) => s.seat.head = false ∧ s.seat.seatIn = true ∧
      s.loader.identity ≠ 0 ∧ s.line.mute = false ∧ seat.toNat = n.toNat + 1 ∧ seat.toNat ≤ 8
    (∀ g ∈ [Stage.listen, .standalone], let s := seatW (fun c => { c with seatIn := true }) (station g)
      s.power = .running ∧ ok s 1 2 ∧ ok s 7 8 ∧ s.line.queue = [] ∧ (s.seat.stage = .listen ∨ s.seat.stage = .standalone)) ∧
    (let s := seatW (fun c => { c with seatIn := true, claimed := 5, rejoin := some 5, claimRejoin := true, claim := .pending }) (station .claiming)
     ok s 7 8 ∧ s.seat.stage = .claiming ∧ s.seat.rejoin = some 5 ∧ s.seat.claimRejoin = true ∧ s.seat.claim = .pending ∧
     (8 : Byte).toNat ≠ 5) ∧
    ¬ok (station .listen) 8 9 ∧ ¬ok (station .listen) 1 2 ∧
    ((station .claiming).seat.stage ≠ .listen ∧ (station .claiming).seat.stage ≠ .standalone ∧
      (station .claiming).seat.rejoin = none) ∧
    Settled rejoiner ∧ (∀ e ∈ rejoiner.line.queue, e.id < rejoiner.line.nextId) ∧
    rejoiner.pendingId rejoiner.seat.claimId = true ∧ rejoiner.line.queue.length ≤ 8 :=
  ⟨by decide +kernel, by decide +kernel, by decide +kernel, by decide +kernel, by decide +kernel,
    settled_of _ (by decide +kernel), by decide +kernel⟩

/-- The state with a PROFILE sequence under way and its segment in flight or pending. -/
def segmentOut (inFlight : Bool) (s : State) : State :=
  withQueue [queued 0 (.profile 1 2 []) inFlight]
    (rosterW (fun r => { r with announce := some { purpose := .announce, index := 1, restart := false, reoffer := false } }) s)

theorem witness_SeatClaimsTaken :
    ((0 : Byte).toNat = 0 ∧ 8 < (9 : Byte).toNat) ∧
    ((station .joined).power = .running ∧ (8 : Byte).toNat ≤ 8 ∧ (8 : Byte).toNat ≠ (station .joined).seat.ownSeat) ∧
    ((1 : Byte).toNat ≠ claimer.seat.ownSeat ∧ claimer.seated = false) ∧
    ((withFaults seven claimer).seat.stage = .claiming ∧ (3 : Byte).toNat = claimer.seat.claimed ∧
      (99 : Identity) ≠ claimer.loader.identity ∧ (withFaults seven claimer).faults.list.length < 8) ∧
    ((station .joined).seated = true ∧ (2 : Byte).toNat = (station .joined).seat.ownSeat ∧
      (99 : Identity) ≠ (station .joined).loader.identity ∧ bitOf 2 7 = false ∧ bitOf 130 7 = true ∧
      (withFaults (seven.take 6) (station .joined)).faults.list.length < 7) ∧
    ((station .joined).seat.stage = .joined ∧ (station .joined).line.mute = false ∧ (station .sync).seat.stage ≠ .joined ∧
      (station .joined).roster.due = false ∧ (rosterW (fun r => { r with due := true }) (station .joined)).roster.due = true ∧
      (4660 : Identity) = (station .joined).loader.identity ∧
      (Table.get (station .joined).roster.entries (2 : Byte).toNat).isSome = true ∧ isSeat (2 : Byte).toNat ∧
      Table.get (station .joined).roster.entries (3 : Byte).toNat = none ∧
      Table.get paired.roster.entries (3 : Byte).toNat ≠ none ∧ paired.roster.due = false) ∧
    (lineW (fun l => { l with reception := some (leaving [true]) }) (sending 0 .stageTake (station .checking))).ending = false ∧
    (lineW (fun l => { l with reception := some (leaving []) }) (sending 0 .stageTake (station .checking))).ending = true ∧
    (∃ e ∈ (segmentOut true (station .joined)).line.queue, e.frame.isProfile = true ∧ e.inFlight = true) ∧
    (segmentOut true (station .joined)).roster.announce ≠ none ∧
    (∀ e ∈ (segmentOut false (station .joined)).line.queue, e.frame.isProfile = true → e.inFlight = false) ∧
    (station .joined).roster.announce = none ∧ (lineW (fun l => { l with mute := true }) (station .joined)).line.mute = true := by
  unfold isSeat
  decide +kernel

/-- A joined station at seat 2 that lights for a deficient unit behind it, with PRES-IN at the given level. -/
def retained (presIn : Bool) : State :=
  seatW (fun c => { c with presIn := presIn })
    { withFaults seven paired with
      rear := { status := .retained, neighbour := some { reverse := true, rearFog := false, plate := false } } }

/-- The state with the given query outstanding, a relayed request as said, and a query of another station being answered. -/
def requested (q : Option Query) (r : RelayState) (s : State) : State :=
  { portW (fun p =>
        { p with
          query := q, owed := some { requester := 4, cls := 1, index := 1 }
          answering := some { requester := 1, cls := 3, first := 1, count := 4, next := 2, left := 3, ended := false, retry := false } })
      s with
    body := { s.body with relay := { (relaying r).body.relay with timer := .running 1 500 } } }

/-- A query whose frame has, or has not, been sent. -/
def someQuery (sent : Bool) : Query :=
  { target := 3, cls := 3, first := 9, count := 4, answers := 0, timer := .running 1 250, sent := sent, frameId := 5 }

/-- What ends with a seat is there, or is not there, to end: a query sent, not sent or none, a relayed request that waits or has been sent,
and one whose BODY REQUEST completes. -/
abbrev requestsToEnd (s : State) : Prop :=
  (∀ q ∈ [none, some (someQuery true), some (someQuery false)], ∀ r ∈ [RelayState.waiting, .sent, .none],
    let u := requested q r s
    u.power = .running ∧ u.seat.stage = s.seat.stage ∧ u.port.query = q ∧ u.body.relay.state = r ∧ u.ending = false) ∧
  (let u := lineW (fun l => { l with reception := some (leaving []) })
     (sending 4 (.bodyRequest 3 1 true 17) (requested none .waiting s))
   u.ending = true ∧ u.inFlight = some (queued 4 (.bodyRequest 3 1 true 17) true) ∧ u.body.relay.frameId = 4 ∧
   u.body.relay.state = .waiting)

theorem witness_RequestsEnded :
    requestsToEnd (station .joined) ∧ requestsToEnd claimer ∧
    requestsToEnd (seatW (fun c => { c with headListen := .running 300 300, pos1Heard := true }) (station .listen)) := by
  decide +kernel

theorem witness_DepartApplied :
    (1 ≤ (1 : Nibble).toNat ∧ (8 : Nibble).toNat ≤ 8) ∧
    ((station .joined).power = .running ∧ (station .joined).seated = true ∧
      (station .joined).seat.ownSeat ∈ positionsOf 2) ∧
    ((station .joined).seat.ownSeat ∉ positionsOf 129 ∧ 1 ∈ positionsOf 129 ∧ 8 ∈ positionsOf 129) ∧
    ((station .joined).seat.ownSeat + 1 ∉ positionsOf 129 ∧ (station .joined).seat.ownSeat ∉ positionsOf 4 ∧
      (station .joined).seat.ownSeat + 1 ∈ positionsOf 4) ∧
    (3 ∈ positionsOf 4 ∧ Table.get (station .joined).roster.entries 3 = none ∧
      (Table.get paired.roster.entries 3).isSome = true) ∧
    (∀ l ∈ [true, false],
      (retained l).power = .running ∧ (retained l).seated = true ∧ (retained l).seat.ownSeat = 2 ∧
        (retained l).rear.status = .retained ∧ (retained l).seat.presIn = l ∧ (retained l).rearComplete = false ∧
        (retained l).faults.list.length < 8) ∧
    (∀ l ∈ [[], [true]], let s := lineW (fun u => { u with reception := some (leaving l) }) (sending 0 .stageTake (station .checking))
      s.inFlight.isSome = true ∧ (s.ending = true ↔ l = []) ∧ s.seat.stage = .checking) := by decide +kernel

theorem witness_ProbesAnswered :
    (let s := station .joined
     s.power = .running ∧ s.seated = true ∧ (1 : Byte).toNat < s.seat.ownSeat ∧ s.seat.ownSeat ≤ (2 : Byte).toNat) ∧
    (let s := seatW (fun c => { c with departure := .running 1 1500 }) (station .joined)
     s.seat.departure.isRunning = true ∧ (2 : Byte).toNat = s.seat.ownSeat ∧ s.seat.ownSeat < (3 : Nibble).toNat ∧
     (2 : Nibble).toNat ≤ s.seat.ownSeat) := by decide +kernel

theorem witness_StageAndFaultFramesTaken :
    paired.power = .running ∧ Table.get paired.roster.entries (3 : Nibble).toNat = some (entry 1) ∧
    (3 : Nibble).toNat ≠ paired.seat.ownSeat ∧ paired.seated = true ∧ (2 : Nibble).toNat = paired.seat.ownSeat ∧
    paired.line.queue.length ≤ 6 ∧ (station .standalone).seated = false ∧ Settled paired :=
  ⟨by decide +kernel, by decide +kernel, by decide +kernel, by decide +kernel, by decide +kernel, by decide +kernel,
    by decide +kernel, settled_of _ (by decide +kernel)⟩

theorem witness_SegmentsGathered :
    (paired.power = .running ∧ (3 : Nibble).toNat ≠ paired.seat.ownSeat) ∧
    (fieldOf 2 7 4 < fieldOf 2 3 0 ∧ fieldOf 2 7 4 = 0 ∧ 1 < fieldOf 2 3 0) ∧
    (let s := rosterW (fun r => { r with reasm := [(3, { total := 3, expected := 1, bytes := [1] })] }) paired
     Table.get s.roster.reasm 3 = some { total := 3, expected := fieldOf 19 7 4, bytes := [1] } ∧
     fieldOf 19 7 4 ≠ 0 ∧ fieldOf 19 7 4 + 1 < fieldOf 19 3 0) ∧
    (let s := rosterW (fun r => { r with reasm := [(3, { total := 2, expected := 1, bytes := [1] })] }) paired
     Table.get s.roster.reasm 3 = some { total := 2, expected := fieldOf 18 7 4, bytes := [1] } ∧
     fieldOf 18 7 4 + 1 = fieldOf 18 3 0) ∧
    (fieldOf 1 7 4 = 0 ∧ fieldOf 1 3 0 = 1) ∧
    (¬fieldOf 34 7 4 < fieldOf 34 3 0 ∧ Table.get paired.roster.reasm 3 = none ∧ fieldOf 18 7 4 ≠ 0) := by decide +kernel

/-- The summary of a station's own, with one byte changed. -/
def summaryWith (n : Nat) (b : Byte) : List Byte := (ownSummaryBytes paired.loader).set n b

theorem witness_CompletedSummaryApplied :
    (∀ l ∈ [[], summaryWith 10 5, summaryWith 6 0, summaryWith 6 6, summaryWith 11 0, summaryWith 11 5], parseSummary l = none) ∧
    parseSummary (ownSummaryBytes paired.loader) = some (4660, .semiTrailer, ownSummary paired.loader) ∧
    Table.get paired.roster.entries 2 = some (entry 4660) ∧ (entry 4660).identity = 4660 ∧ (entry 1).identity ≠ 4660 ∧
    Table.get paired.roster.entries 5 = none := by decide +kernel

theorem witness_SummarySurvivesTheLine :
    ∀ image ∈ [none, some ranged],
      ({ State.reset.loader with profile := appliedProfile image } : Loader).profile = appliedProfile image :=
  fun _ _ => rfl

theorem witness_PhaseQuantities :
    (60 ≤ 60 ∧ 60 ≤ 120 ∧ 120 ≤ 120) ∧
    (∀ e ∈ [(500, 30), (500, 70), (1000, 30), (1000, 70)],
      let p := { State.reset.phase with period := e.1, duty := e.2 }
      500 ≤ p.period ∧ p.period ≤ 1000 ∧ 30 ≤ p.duty ∧ p.duty ≤ 70 ∧ 0 < p.period) ∧
    (let p := { State.reset.phase with adoption := some (600, 40) }
     p.adoption = some (600, 40) ∧ p.period = State.reset.phase.period ∧ p.duty = State.reset.phase.duty) := by decide +kernel

/-- A joined station with the gate of TURN-L and of BEACON ARMED. -/
def armed : State := asked { DemandSet.empty with turnL := true, beacon := true }

/-- A joined station at a wrap, its last MARK 167 ms ago, with the given queue. -/
def wrapping (q : List Entry) : State :=
  withQueue q (phaseW (fun p => { p with phi := 667, lastMark := some 0 }) { armed with now := 167 })

theorem witness_WrapTaken :
    (let s := phaseW (fun p => { p with phi := 667, adoption := some (500, 30) }) (station .listen)
     s.power = .running ∧ s.seat.stage ≠ .loading ∧ s.phase.phi = s.phase.len ∧ s.phase.adoption = some (500, 30)) ∧
    (let s := phaseW (fun p => { p with phi := 667 }) (station .joined)
     s.phase.phi = s.phase.len ∧ s.phase.adoption = none) ∧
    ((station .sync).seat.stage ≠ .joined ∧ (station .joined).phase.phi < (station .joined).phase.len ∧
      (station .loading).seat.stage = .loading) ∧
    (let s := phaseW (fun p => { p with lastMark := some 0 }) { station .joined with now := 166 }
     s.seat.stage = .joined ∧ s.phase.lastMark = some 0 ∧ s.now - 0 ≤ 166) ∧
    (let s := phaseW (fun p => { p with lastMark := some 0 }) { station .joined with now := 167 }
     s.seat.stage = .joined ∧ s.phase.lastMark = some 0 ∧ 166 < s.now - 0) ∧
    Settled (phaseW (fun p => { p with phi := 667 }) armed) ∧ armed.power = .running ∧ armed.seat.stage = .joined ∧
    (armed.demand.gateL = .armed ∧ armed.demand.gateR = .off ∧ armed.demand.gateB = .armed) ∧
    (∀ s ∈ [wrapping [], wrapping [queued 0 (.mark 667 50 none) false], wrapping [queued 0 (.mark 667 50 (some 0)) true]],
      Settled s) ∧
    (∀ q ∈ [[], [queued 0 (.mark 667 50 none) false], [queued 0 (.mark 667 50 (some 0)) true]],
      let s := wrapping q
      s.power = .running ∧ s.seat.stage = .joined ∧ s.phase.phi = s.phase.len ∧ s.phase.lastMark = some 0 ∧
        s.phase.abandon < s.now - 0 ∧ (s.line.queue.find? fun e => e.frame.isMark) = q.head? ∧ s.line.queue.length < 8) :=
  ⟨by decide +kernel, by decide +kernel, by decide +kernel, by decide +kernel, by decide +kernel, settled_of _ (by decide +kernel),
    by decide +kernel, by decide +kernel, by decide +kernel, settled_all _ (by decide +kernel), by decide +kernel⟩

theorem witness_MarkHeardAnywhere :
    ((station .listen).power = .running ∧ 500 ≤ (500 : Half).toNat ∧ (1000 : Half).toNat ≤ 1000 ∧ 30 ≤ (30 : Byte).toNat ∧
      (70 : Byte).toNat ≤ 70 ∧ (666 : Half).toNat < (station .listen).phase.period ∧
      (station .listen).seat.stage ≠ .sync ∧ (station .listen).seat.stage ≠ .joined) ∧
    (phaseW (fun p => { p with marked := true }) (station .joined)).phase.marked = true ∧
    (withQueue [queued 0 (.mark 667 50 none) false] (station .joined)).markPending = true ∧
    (let s := phaseW (fun p => { p with syncTimer := .running 2001 2001 }) (station .sync)
     s.seat.stage = .sync ∧ s.phase.syncTimer.isRunning = true) ∧
    (station .joined).seat.stage ≠ .loading := by decide +kernel

theorem witness_MarkCorrectsPhase :
    (let s := lineW (fun l => { l with reception := some (started 110) })
        (phaseW (fun p => { p with phi := 114 }) (station .joined))
     s.power = .running ∧ s.phase.marked = false ∧ (666 : Half).toNat < s.phase.period ∧ s.seat.stage = .joined ∧
     (s.phase.phi : Int) < (s.phase.period : Int) +
       max (-(s.phase.slew : Int)) (min (s.phase.slew : Int) (phaseError 110 10 s.phase.period))) ∧
    (let s := lineW (fun l => { l with reception := some (started 660) })
        (phaseW (fun p => { p with phi := 664 }) (station .joined))
     s.power = .running ∧ s.phase.marked = false ∧ (12 : Half).toNat < s.phase.period ∧ s.seat.stage = .joined ∧
     (s.phase.period : Int) +
       max (-(s.phase.slew : Int)) (min (s.phase.slew : Int) (phaseError 660 12 s.phase.period)) ≤ (s.phase.phi : Int)) ∧
    (let s := phaseW (fun p => { p with phi := 990, len := 1000, period := 1000 }) (station .sync)
     s.phase.marked = false ∧ s.seat.stage = .sync ∧ ¬(s.phase.phi : Int) < 500 + phaseError 986 10 500 ∧
     500 + phaseError 986 10 500 ≤ (s.phase.phi : Int)) ∧
    (let s := phaseW (fun p => { p with phi := 10 }) (station .sync)
     (s.phase.phi : Int) < 500 + phaseError 986 10 500) := by decide +kernel

theorem witness_DemandEventsTaken :
    (let s := station .joined
     s.power = .running ∧ s.seat.stage ≠ .loading ∧ s.dinLevel 1 ≠ true ∧ s.dinLevel 8 ≠ true ∧
     s.dinCfg 1 = .steady .tail ∧ s.dinCfg 2 = .flasher .turnL ∧ s.dinCfg 3 = .bodySwitch 1 ∧ s.dinCfg 8 = .unused) ∧
    (demandW (fun d => { d with holds := List.replicate 8 (.running 1200 1200) }) (station .joined)).holdRuns 8 = true ∧
    (∀ m ∈ [349, 350], let s := demandW (fun d => { d with table := [(1, { set := .empty, origin := true, age := m })] }) (station .joined)
      Table.get s.demand.table 1 = some { set := .empty, origin := true, age := m }) ∧
    Table.get (station .joined).demand.table 8 = none ∧
    (let s := demandW (fun d => { d with repeatTimer := .running 100 100 }) (station .sync)
     s.serving = true ∧ s.demand.repeatTimer.isRunning = true) ∧
    bitOf 16 4 = true ∧ bitOf 32 4 = false := by decide +kernel

/-- A joined station whose profile is an origin's. -/
def originStation : State :=
  { station .joined with
    loader := { (station .joined).loader with profile := { profile with origin := true } } }

theorem witness_DemandsMerged :
    (station .listen).serving = false ∧ (originStation.serving = true ∧ originStation.loader.profile.origin = true) ∧
    (let s := demandW (fun d => { d with own := .single .tail }) (station .sync)
     s.serving = true ∧ s.loader.profile.origin = false ∧ s.demand.own ≠ .empty) ∧
    (let s := demandW (fun d => { d with active := true }) (station .joined)
     s.serving = true ∧ s.loader.profile.origin = false ∧ s.demand.own = .empty ∧ s.demand.active = true) ∧
    ((station .joined).serving = true ∧ (station .joined).demand.own = .empty ∧ (station .joined).demand.active = false) ∧
    ({ station .joined with demand := { (station .joined).demand with hazard := (station .joined).hazardDue } } : State).contribution =
      (station .joined).demand.own ∧
    (let s := demandW (fun d => { d with levels := true :: List.replicate 7 false }) (station .joined)
     ({ s with demand := { s.demand with hazard := s.hazardDue } } : State).contribution ≠ s.demand.own) ∧
    (let s := hazardous false
     let h := { s with demand := { s.demand with hazard := s.hazardDue } }
     s.hazardDue = s.demand.hazard ∧ h.contribution = s.demand.own) ∧
    (let s := hazardous true
     ({ s with demand := { s.demand with hazard := s.hazardDue } } : State).contribution = s.demand.own ∧
     (demandW (fun d => { d with hazard := false }) s).hazardDue ≠ (demandW (fun d => { d with hazard := false }) s).demand.hazard) ∧
    (station .sync).seat.stage ≠ .joined ∧
    (∀ g ∈ [Gate.off, .armed, .running, .ending], (demandW (fun d => { d with gateL := g }) (station .joined)).seat.stage = .joined ∧
      (demandW (fun d => { d with gateL := g }) (station .joined)).demand.gateL = g) := by
  decide +kernel

/-- A station whose rear group lacks the REVERSE lamp, channel 11, in the given health. -/
def reversing (h : Health) : State :=
  { station .joined with
    lamps :=
      { (station .joined).lamps with
        channels := (List.replicate 12 { Channel.reset with health := .good }).set 10 { Channel.reset with health := h } } }

theorem witness_SamplesTaken :
    (0 < 24000 ∧ (profile.lamps.map fun c => decide (c.imin ≤ c.imax)) = List.replicate 12 true) ∧
    (∀ m ∈ [200, 300], let s := stopLamp (fun c => { c with steady := some m }) braking
      s.power = .running ∧ (s.functionOf 3).isFlash = false ∧ (s.channel 3).lit = true ∧ (s.channel 3).sampled = false ∧
      s.seat.stage ≠ .checking ∧ (s.channel 3).steady = some m ∧ 200 ≤ m ∧ m % 100 = 0) ∧
    ((flashing 167).seat.stage = .joined ∧ ((flashing 167).channel 5).lit = true ∧
      ((flashing 167).channel 5).sampled = false ∧ (flashing 167).functionOf 5 = .turnL ∧
      (flashing 167).phase.phi = (flashing 167).phase.onTime / 2) ∧
    (((flashing 55).channel 12).lit = true ∧ (flashing 55).functionOf 12 = .beacon ∧
      (flashing 55).phase.phi = (flashing 55).phase.burst / 2) ∧
    (braking.channel 4).lit = true ∧ (braking.channel 12).lit = false ∧
    ((stopLamp (fun c => { c with sampled := true }) braking).channel 3).sampled = true ∧
    (∀ m ∈ [0, 199, 201, 250], let s := stopLamp (fun c => { c with steady := some m }) braking
      (s.channel 3).lit = true ∧ (s.channel 3).sampled = false ∧ (s.channel 3).steady = some m ∧ (m < 200 ∨ m % 100 ≠ 0)) ∧
    (((checkAt [1, 11] 20 true).channel 1).lit = true ∧ ((checkAt [1, 11] 20 true).channel 1).sampled = false ∧
      (checkAt [1, 11] 20 true).seat.stage = .checking) ∧
    (((flashing 168).functionOf 5).isFlash = true ∧ ((flashing 168).channel 5).lit = true ∧
      (flashing 168).phase.phi ≠ (flashing 168).phase.onTime / 2 ∧ ((flashing 56).channel 12).lit = true ∧
      (flashing 56).functionOf 12 = .beacon ∧ (flashing 56).phase.phi ≠ (flashing 56).phase.burst / 2) ∧
    ((braking.functionOf 3).isFlash = false ∧
      (seatW (fun c => { c with stage := .sync }) (flashing 167)).seat.stage ≠ .joined ∧
      ((seatW (fun c => { c with stage := .sync }) (flashing 167)).channel 5).lit = true) ∧
    (∀ h ∈ [Health.untested, .good, .openCircuit, .overload, .short, .locked], ∀ g ∈ [Health.untested, .good, .openCircuit, .overload, .short, .locked],
      let s := stopLamp (fun c => { c with health := h }) (withFaults seven braking)
      nth s.lamps.channels 3 = some (s.channel 3) ∧ (s.channel 3).health = h ∧ (g = (s.channel 3).health ↔ g = h) ∧
      s.faults.list.length < 8) ∧
    ((reversing .openCircuit).rearComplete = false ∧
      (modChannel 11 (fun c => { c with health := .good, run := none }) (reversing .openCircuit)).rearComplete = true ∧
      (modChannel 11 (fun c => { c with health := .short, run := none }) (reversing .openCircuit)).rearComplete = false ∧
      (reversing .good).rearComplete = true ∧ ((reversing .openCircuit).channel 11).health = .openCircuit) ∧
    (∀ r ∈ [none, some (SampleClass.good, 1), some (.good, 2), some (.openCircuit, 2)],
      let s := stopLamp (fun c => { c with run := r }) braking
      nth s.lamps.channels 3 = some (s.channel 3) ∧ SampleClass.good.health ≠ (s.channel 3).health) := by decide +kernel

theorem witness_TripsTakenInService :
    (∀ k ∈ [0, 2, 3], let s := stopLamp (fun c => { c with retry := k }) (withFaults seven braking)
      s.power = .running ∧ s.seat.stage ≠ .checking ∧ nth s.lamps.channels 3 = some (s.channel 3) ∧
      (s.channel 3).lit = true ∧ (s.channel 3).retry = k ∧ tripLevel (s.lampCfg 3).imax ≤ 10000 ∧
      s.faults.list.length < 8 ∧ (s.channel 3).health ≠ .locked) ∧
    9990 < tripLevel (braking.lampCfg 3).imax ∧
    (∀ s ∈ [station .joined, checkAt [1, 11] 20 true],
      (s.channel 3).lit = false ∧ nth s.lamps.channels 3 = some (s.channel 3)) := by decide +kernel

/-- A short channel of a STANDALONE station, whose fallback set calls for it, and of a listening one. -/
def shorted (c : Channel) : Channel := { c with health := .short, retry := 2 }

theorem witness_RestAndTrialEnd :
    (let c := { shorted .reset with short := .resting, rest := .running 2000 2000 }
     Settled (single .standalone c) ∧ (single .standalone c).power = .running ∧
     nth (single .standalone c).lamps.channels 1 = some c ∧ c.health ≠ .locked ∧ c.short = .resting ∧
     c.rest.isRunning = true ∧ (single .standalone c).calledFor 1 = true) ∧
    (let c := { shorted .reset with short := .resting, rest := .running 2000 2000 }
     Settled (single .listen c) ∧ nth (single .listen c).lamps.channels 1 = some c ∧ c.short = .resting ∧
     (single .listen c).calledFor 1 = false) ∧
    (let c := { shorted .reset with short := .proving, proving := .running 200 200, lit := true, steady := some 200 }
     Settled (single .standalone c) ∧ nth (single .standalone c).lamps.channels 1 = some c ∧ c.short = .proving ∧
     c.proving.isRunning = true ∧ c.health = .short) :=
  ⟨⟨settled_of _ (by decide +kernel), rfl, rfl, by decide, rfl, rfl, by decide +kernel⟩,
    ⟨settled_of _ (by decide +kernel), rfl, rfl, by decide +kernel⟩,
    settled_of _ (by decide +kernel), rfl, rfl, rfl, rfl⟩

/-- A station with no analog input in use. -/
def analogless (g : Stage) : State :=
  { station g with
    loader :=
      { (station g).loader with
        profile := { profile with analog := List.replicate 4 { inUse := false, brake := false, offset := 0, gain := 0, onAt := 0, offAt := 0 } } } }

theorem witness_CheckRuns :
    (let s := withFaults seven (checkAt [1, 11] 20 true)
     s.power = .running ∧ s.seat.stage = .checking ∧ s.lamps.check = some { todo := [1, 11], turn := 20, pulse := true } ∧
     nth s.lamps.channels 1 = some (s.channel 1) ∧ (s.channel 1).lit = true ∧
     supplyInWindow s.loader.profile.vn 18000 = true ∧ supplyInWindow s.loader.profile.vn 17950 = false ∧
     tripLevel (s.lampCfg 1).imax ≤ 10000 ∧ 9990 < tripLevel (s.lampCfg 1).imax ∧ s.faults.list.length < 8) ∧
    (let s := checkAt [11] 49 false
     s.lamps.check = some { todo := [11], turn := 49, pulse := false } ∧ (s.channel 11).lit = false ∧
     nth s.lamps.channels 11 = some (s.channel 11)) ∧
    ((checkAt [1] 19 true).lamps.check = some { todo := [1], turn := 19, pulse := true } ∧
      (checkAt [1] 49 false).lamps.check = some { todo := [1], turn := 49, pulse := false }) ∧
    ((checkAt [1, 11] 50 false).lamps.check = some { todo := [1, 11], turn := 50, pulse := false } ∧ [11] ≠ []) ∧
    ((checkAt [11] 50 false).lamps.check = some { todo := [11], turn := 50, pulse := false } ∧
      nth (checkAt [11] 50 false).lamps.channels 11 = some ((checkAt [11] 50 false).channel 11) ∧
      (Table.get (checkAt [11] 50 false).roster.entries (checkAt [11] 50 false).seat.ownSeat).isSome = true) ∧
    (originStation.loader.profile.origin = true ∧ (station .sync).loader.profile.origin = false ∧
      (station .sync).demand.own = .empty ∧ lifting.demand.own ≠ .empty ∧ lifting.loader.profile.origin = false) ∧
    ((station .sync).serving = true ∧ (∃ a ∈ (station .sync).loader.profile.analog, a.inUse = true) ∧
      (∀ a ∈ (analogless .sync).loader.profile.analog, a.inUse = false) ∧ (analogless .sync).serving = true ∧
      (last true).seat.ownSeat = 8 ∧ (last true).seat.presIn = true ∧ (last true).serving = true ∧
      (last false).seat.presIn = false ∧ (station .sync).seat.ownSeat ≠ 8) := by decide +kernel

theorem witness_CheckResultsCount :
    (station .joined).loader.profile.lamps.length = (station .joined).lamps.channels.length ∧
    ∀ c ∈ (station .joined).lamps.channels, c.health ≠ .overload := by decide +kernel

/-- A station with every lamp channel GOOD, at the given seat. -/
def complete (n : Nat) : State :=
  rosterW (fun r => { r with entries := [(n, entry 4660)] })
    (seatW (fun c => { c with ownSeat := n })
      { station .joined with
        lamps :=
          { (station .joined).lamps with channels := List.replicate 12 { Channel.reset with health := .good } } })

theorem witness_RearEndDecides :
    ((complete 1).seated = true ∧ (Table.get (complete 1).roster.entries 1).isSome = true ∧ (complete 1).seat.ownSeat = 1) ∧
    ((complete 2).seat.ownSeat ≠ 1 ∧ (complete 2).rearComplete = true ∧ (complete 2).seat.presIn = false) ∧
    ((station .joined).seat.ownSeat ≠ 1 ∧ (station .joined).rearComplete = false ∧ (station .joined).seat.presIn = false ∧
      (withFaults seven (station .joined)).faults.list.length < 8) ∧
    ((seatW (fun c => { c with presIn := true }) (station .joined)).seat.presIn = true ∧
      (2 : Nibble).toNat = (station .joined).seat.ownSeat ∧ (station .joined).rear.status = .none) ∧
    (let s := { paired with rear := { status := .holder, neighbour := none } }
     s.power = .running ∧ s.seated = true ∧ s.seat.ownSeat < (8 : Nibble).toNat ∧ (1 : Nibble).toNat < s.seat.ownSeat ∧
     (3 : Nibble).toNat = s.seat.ownSeat + 1 ∧ s.rear.status ≠ .none ∧ s.seat.stage = .joined ∧
     (Table.get s.roster.entries s.seat.ownSeat).isSome = true) ∧
    (station .listen).seated = false ∧
    (let s := reversing .openCircuit
     s.deficiency = { reverse := true, rearFog := false, plate := false } ∧
     (reversing .good).deficiency = { reverse := false, rearFog := false, plate := false } ∧
     nth s.loader.profile.lamps 11 = some (s.lampCfg 11) ∧ (s.lampCfg 11).function = .reverse) := by decide +kernel

theorem witness_ConversionTaken :
    (let s := sensorW (fun u => { u with conversion := .running 20 20 }) (station .joined)
     s.power = .running ∧ s.seat.stage ≠ .loading ∧ s.sensor.conversion.isDue = true ∧ s.loader.profile.analog.length = 4 ∧
     s.sensor.analogs.length = 4 ∧ s.serving = true ∧ s.analogInUse = true) ∧
    (sensorW (fun u => { u with conversion := .running 19 20 }) (station .joined)).sensor.conversion.isDue = false ∧
    State.reset.seat.stage = .loading ∧
    (List.replicate 4 ({ millivolts := 5000, counts := 1023 } : AnalogSample)).length = 4 ∧
    ((0 : Int) ≤ 0 ∧ (5000 : Int) ≤ 5000 ∧ (0 : Int) < 1 ∧ (4999 : Int) < 5000) ∧
    (let s := sensorW (fun u => { u with analogTimer := .running 1000 1000 }) (station .sync)
     s.serving = true ∧ s.sensor.analogTimer.isRunning = true ∧ s.analogInUse = true) ∧
    (∀ a ∈ profile.analog, a.offAt ≤ a.onAt) := by decide +kernel

theorem witness_PulseEdgesCounted :
    (let s := { station .joined with retention := { Retention.lost with counts := [0, 9, 65535, 65535] } }
     s.power = .running ∧ s.seat.stage ≠ .loading ∧ s.sensor.levels.length = 4 ∧
     (∀ n ∈ [1, 2, 3, 4], s.cntLevel n ≠ true) ∧ nth s.retention.counts 1 = some 0 ∧
     nth s.retention.counts 3 = some 65535 ∧ nth s.retention.counts 4 = some 65535 ∧
     (s.pulseCfg 1).role = .wheel ∧ (s.pulseCfg 1).edge = .rising ∧ (s.pulseCfg 3).cascade = true ∧
     (s.pulseCfg 3).edge = .falling ∧ (s.pulseCfg 4).role = .notInUse) ∧
    (sensorW (fun u => { u with levels := [true, true, true, true] }) (station .joined)).cntLevel 3 ≠ false ∧
    (∀ g ∈ [Stage.joined, .listen], ∀ b ∈ [true, false],
      let s := sensorW (fun u => { u with wheel := .running 999 1000, moving := b }) (station g)
      s.power = .running ∧ s.cntLevel 1 ≠ true ∧ s.sensor.wheel.isRunning = true ∧ s.sensor.moving = b ∧
        (s.serving = true ↔ g = .joined) ∧ nth s.retention.counts 1 = some 0) := by
  decide +kernel

theorem witness_MotionEventsTaken :
    (let s := sensorW (fun u =>
        { u with wheel := .running 1000 1000, countsTimer := .running 1000 1000
                 table := [(1, { moving := true, age := 1500, stale := false })] }) (station .joined)
     s.power = .running ∧ s.sensor.wheel = .running 1000 1000 ∧ s.serving = true ∧ s.sensor.countsTimer.isRunning = true ∧
     Table.get s.sensor.table 1 = some { moving := true, age := 1500, stale := false } ∧ Table.get s.sensor.table 8 = none) ∧
    Table.get (sensorW (fun u => { u with table := [(1, { moving := true, age := 1499, stale := false })] }) (station .joined)).sensor.table 1 =
      some { moving := true, age := 1499, stale := false } ∧
    (sensorW (fun u => { u with wheel := .running 999 1000 }) (station .joined)).sensor.wheel = .running 999 1000 ∧
    (station .joined).sensor.wheel = .stopped ∧
    (∀ g ∈ [Stage.sync, .joined, .listen], ∀ b ∈ [true, false],
      let s := sensorW (fun u => { u with wheel := .running 1000 1000, moving := b }) (station g)
      s.sensor.wheel = .running 1000 1000 ∧ s.sensor.moving = b ∧ (s.serving = true ↔ g ≠ .listen)) ∧
    (1 ≤ (1 : Nibble).toNat ∧ (8 : Nibble).toNat ≤ 8) := by decide +kernel

theorem witness_BodyRequestsJudged :
    (station .sync).seat.stage ≠ .joined ∧
    (let s := station .joined
     s.seat.stage = .joined ∧ (s.bodyCfg 3).kind = 0 ∧ (s.bodyCfg 5).kind = 0 ∧ (s.bodyCfg 1).kind ≠ 0 ∧
     (s.bodyChannel 1).running = false ∧ (s.bodyCfg 2).parkRequired = true ∧ s.demand.eff.park = false ∧
     s.startRefusal 2 = some .interlock ∧ s.startRefusal 1 = none ∧ nth s.body.channels 1 = some .reset) ∧
    (lifting.seat.stage = .joined ∧ (lifting.bodyChannel 1).running = true ∧
      nth lifting.body.channels 1 = some (lifting.bodyChannel 1)) ∧
    (let s := sensorW (fun u => { u with view := true }) (station .joined)
     (s.bodyCfg 1).motionInhibited = true ∧ s.sensor.view = true) := by decide +kernel

theorem witness_BodyEventsTaken :
    (lifting.power = .running ∧ nth lifting.body.channels 1 = some (lifting.bodyChannel 1) ∧
      (lifting.bodyChannel 1).running = true ∧ (withFaults (seven.take 6) lifting).faults.list.length < 7 ∧
      nth lifting.body.channels 4 = some (lifting.bodyChannel 4) ∧ (lifting.bodyChannel 4).running = false) ∧
    (lifting.seat.stage = .joined ∧ lifting.line.queue = [] ∧ lifting.sensor.view = false ∧
      lifting.demand.eff.park = false ∧ (lifting.bodyCfg 1).motionInhibited = true ∧
      (lifting.bodyCfg 1).parkRequired = false ∧ (settle lifting).sensor.view = false) ∧
    (let s := sensorW (fun u => { u with moving := true, view := true }) lifting
     s.sensor.view = true ∧ (settle s).sensor.view = true) ∧
    (let s := modBody 2 (fun c => { c with running := true, timer := .running 1 1000 }) lifting
     (s.bodyChannel 2).running = true ∧ (s.bodyCfg 2).motionInhibited = false ∧ (s.bodyCfg 2).parkRequired = true ∧
     (settle s).demand.eff.park = false ∧ s.line.queue = []) ∧
    (demandW (fun d => { d with eff := { d.eff with park := true } }) lifting).demand.eff.park = true ∧
    (let s := seatW (fun c => { c with stage := .standalone, ownSeat := 0 }) lifting
     s.seat.stage ≠ .joined ∧ s.seated = false ∧ (s.bodyChannel 1).running = true) ∧
    (lifting.seated = true ∧ (2 : Byte).toNat = lifting.seat.ownSeat ∧ (3 : Byte).toNat ≠ lifting.seat.ownSeat ∧
      (3 : Byte) ≠ 1 ∧ (3 : Byte) ≠ 2) ∧
    (let r := (relaying .sent).body.relay
     r.state = .sent ∧ (3 : Nibble).toNat = r.target ∧ (1 : Byte).toNat = r.channel ∧ (17 : Byte).toNat = r.tag ∧
     (16 : Byte).toNat ≠ r.tag) ∧
    ((relaying .waiting).body.relay.timer.isRunning = true ∧ (relaying .waiting).body.relay.state = .waiting ∧
      (relaying .waiting).pendingId (relaying .waiting).body.relay.frameId = true) ∧
    ((relaying .sent).body.relay.timer.isRunning = true ∧ (relaying .sent).body.relay.state ≠ .waiting) := by decide +kernel

theorem witness_FramesBegin :
    (let x := queued 0 (.mark 667 50 none) false
     let s := withQueue [x] (station .joined)
     s.power = .running ∧ s.line.queue.head? = some x ∧ s.line.state = .idle ∧ s.line.disable = .stopped ∧
     s.line.mute = false ∧ (∀ e ∈ s.line.queue, e.inFlight = false) ∧ s.seat.stage ≠ .standalone) ∧
    (station .standalone).seat.stage = .standalone ∧ (sending 0 .stageTake (station .joined)).inFlight.isSome = true ∧
    (station .joined).line.queue = [] ∧ (lineW (fun l => { l with state := .busy }) (station .joined)).line.state = .busy ∧
    Frame.stageTake.kind ≠ 1 ∧ Frame.stageTake.kind ≠ 9 := by decide +kernel

/-- A sequence that has sent its segment of the given index. -/
def announcing (p : Purpose) (i : Nat) (again : Bool) (g : Stage) : State :=
  sending 1 (.profile i 2 []) (rosterW (fun r => { r with announce := some { purpose := p, index := i, restart := again, reoffer := false } }) (station g))

/-- A joined station that sends a STAGE TAKE while its PROFILE segment 1 awaits a new offer. -/
def reoffering : State :=
  sending 1 .stageTake
    (rosterW
      (fun r => { r with announce := some { purpose := .announce, index := 1, restart := false, reoffer := true } })
      (station .joined))

theorem witness_FrameSentIsTold :
    (let s := sending 7 (.seatClaim 3 4660 .semiTrailer false)
        (seatW (fun c => { c with claimed := 3, claim := .inFlight, claimId := 7 }) (station .claiming))
     s.power = .running ∧ s.inFlight = some (queued 7 (.seatClaim 3 4660 .semiTrailer false) true) ∧
     (∀ e ∈ s.line.queue, e.id = 7 → e.inFlight = true) ∧ s.seat.claim = .inFlight ∧ 7 = s.seat.claimId) ∧
    (let s := announcing .initial 0 false .profiling
     s.inFlight = some (queued 1 (.profile 0 2 []) true) ∧ 0 + 1 < segmentTotal (ownSummaryBytes s.loader)) ∧
    (let s := announcing .initial 1 false .profiling
     segmentTotal (ownSummaryBytes s.loader) ≤ 1 + 1) ∧
    (∀ e ∈ [(Health.good, true), (.locked, false), (.untested, false)], let s := claimerOf e.1 e.2 false
      ((s.seat.claimRejoin = true ∧ ∀ x ∈ s.lampHealth, x.1 = .unassigned ∨ x.2 ≠ .untested) ↔ e.1 = .good) ∧
      ((∀ x ∈ s.lampHealth, x.1 = .unassigned ∨ x.2 = .locked) ↔ e.1 = .locked)) ∧
    (∀ p ∈ [Purpose.announce, .defence], (announcing p 1 false .joined).roster.announce =
      some { purpose := p, index := 1, restart := false, reoffer := false }) ∧
    (announcing .announce 0 true .joined).roster.announce =
      some { purpose := .announce, index := 0, restart := true, reoffer := false } ∧
    (let s := sending 4 (.bodyRequest 3 1 true 17) (relaying .waiting)
     s.body.relay.state = .waiting ∧ s.body.relay.frameId = 4) ∧
    (let s := sending 0 (.query 3 3 9 4) asking
     s.inFlight = some (queued 0 (.query 3 3 9 4) true) ∧ s.port.query.map Query.frameId = some 0) ∧
    (let s := portW (fun p => { p with answering := some { requester := 1, cls := 3, first := 9, count := 1, next := 10, left := 0, ended := true, retry := false } })
        (sending 2 (.answer 1 3 9 .ok []) (station .joined))
     s.port.answering.map Answering.ended = some true ∧ s.inFlight = some (queued 2 (.answer 1 3 9 .ok []) true) ∧
     AnswerStatus.ok ≠ .busy) ∧
    Settled reoffering ∧
    (reoffering.power = .running ∧ reoffering.seated = true ∧ reoffering.line.queue = [queued 1 .stageTake true] ∧
      reoffering.line.followOn = [] ∧ reoffering.roster.announce.map Sending.reoffer = some true) :=
  ⟨by decide +kernel, by decide +kernel, by decide +kernel, by decide +kernel, by decide +kernel, by decide +kernel,
    by decide +kernel, by decide +kernel, by decide +kernel, settled_of _ (by decide +kernel), by decide +kernel⟩

theorem witness_FramesReturn :
    (lineW (fun l => { l with disable := .running 100 100 }) (station .joined)).line.disable.isRunning = true ∧
    (station .joined).line.disable = .stopped ∧
    (∀ k ∈ [0, 1, 2, 3],
      let s := onLine 1 (withFaults (seven.take 5) (lineW (fun l => { l with driveFaults := k })
        (withQueue [queued 1 (.mark 667 50 none) false, queued 0 .stageTake true, queued 2 (.bodyStatus 1 true .started 0) false]
          (station .joined))))
      s.power = .running ∧ s.line.reception.map Reception.receiving = some false ∧ s.line.known = 1 ∧
      s.line.queue = [queued 1 (.mark 667 50 none) false] ++ queued 0 .stageTake true :: [queued 2 (.bodyStatus 1 true .started 0) false] ∧
      s.line.followOn = [] ∧ s.seat.claim ≠ .inFlight ∧ s.seat.claim ≠ .pending ∧ s.faults.list.length < 6) ∧
    (lineW (fun l => { l with queue := l.queue.map fun e => { e with dying := true }, followOn := [.mark 600 40 none] })
      (sending 0 (.mark 667 50 (some 3)) (station .joined))).line.followOn ≠ [] ∧
    (∀ h ∈ [false, true],
      let s := sending 7 (.seatClaim 3 4660 .semiTrailer false)
        (seatW (fun c => { c with claimed := 3, claim := .inFlight, claimId := 7, expiryHeld := h }) (station .claiming))
      s.seat.claim = .inFlight ∧ s.line.queue = [queued 7 (.seatClaim 3 4660 .semiTrailer false) true] ∧
      s.seat.claimId = 7 ∧ s.seat.expiryHeld = h ∧ s.faults.list.length < 8 ∧
      (onLine 1 s).line.reception.map Reception.receiving = some false ∧ s.comparedOwn.head? = some false) ∧
    (let c := comparedBits 5 2 [3]
     (∀ n ∈ [1, 2, 5, 15, 19], true ∈ c.drop n ∧ false ∈ c.drop n) ∧ c.length = 22 ∧ ∀ b, b ∉ c.drop 22) ∧
    (station .joined).inFlight = none ∧ (station .joined).line.reception = none ∧ (started 0).receiving = true := by
  decide +kernel

theorem witness_LineStuckAndDiscards :
    (let s := lineW (fun l => { l with state := .busy, malformed := 65534, reception := some (started 0) })
        (withFaults seven (station .joined))
     s.power = .running ∧ s.line.state ≠ .stuck ∧ s.faults.list.length < 8 ∧
     s.line.reception = some (started 0) ∧ (started 0).receiving = true ∧ s.line.malformed < 65535 ∧
     (started 0).bits <+: [false, true] ∧ ¬(started 0).bits <+: [true]) ∧
    (station .joined).line.reception = none ∧ (leaving []).receiving = false ∧
    (lineW (fun l => { l with state := .stuck }) (station .joined)).line.state = .stuck ∧
    hear (List.replicate 6 false) = .discarded ∧ hear [false, true] = .incomplete ∧ hear [true] = .incomplete ∧
    (hear (frameBits 0 0 [0, 0]) = .frame 0 0 [0, 0] ∧ frameValid 667 0 0 [0, 0] = false) ∧
    (hear (frameBits 0 1 [0, 0]) = .frame 0 1 [0, 0] ∧ frameValid 667 0 1 [0, 0] = true) := by decide +kernel

/-- Eight pending frames of kind 7. -/
def fullQueue : State := withQueue ((List.range 8).map fun n => queued n (.bodyStatus n false .stopped 0) false) (station .joined)

theorem witness_QueueTakesFrames :
    (station .listen).queueTakes .stageTake = false ∧
    ((station .joined).queueTakes .stageTake = true ∧ Frame.stageTake.replaceClass = none ∧ Frame.stageTake.kind ≠ 8 ∧
      Frame.stageTake.kind ≠ 11 ∧ (station .joined).line.queue.length < 8) ∧
    ((Frame.mark 667 50 none).replaceClass ≠ none ∧
      ∀ e ∈ (station .joined).line.queue, e.frame.replaceClass ≠ (Frame.mark 667 50 none).replaceClass) ∧
    (8 ≤ fullQueue.line.queue.length ∧ lastPending fullQueue.line.queue = some (queued 7 (.bodyStatus 7 false .stopped 0) false) ∧
      Frame.stageTake.kind < (Frame.bodyStatus 7 false .stopped 0).kind ∧
      (Frame.bodyStatus 7 false .stopped 0).kind ≤ (Frame.query 3 3 9 4).kind) ∧
    (∀ b ∈ [true, false], let s := withQueue [queued 0 (.mark 667 50 none) b] (station .joined)
      (s.line.queue.find? fun e => e.frame.replaceClass == (Frame.mark 600 40 none).replaceClass) =
        some (queued 0 (.mark 667 50 none) b)) ∧
    (let s := withQueue [queued 0 (.answer 1 3 9 .ok []) false] (station .joined)
     (Frame.answer 1 3 10 .ok []).kind = 11 ∧ ∃ e ∈ s.line.queue, e.frame.kind = (Frame.answer 1 3 10 .ok []).kind) ∧
    ((relaying .waiting).body.relay.state = .waiting ∧ (relaying .sent).body.relay.state ≠ .waiting ∧
      asking.port.query.map Query.frameId = some 0 ∧ (station .joined).port.query = none ∧
      (station .joined).port.owed = none ∧
      (portW (fun p => { p with owed := some { requester := 4, cls := 1, index := 1 } }) (station .joined)).port.owed ≠ none ∧
      AnswerStatus.ok ≠ .busy) ∧
    (Frame.stageTake.kind ≤ 6 ∧ (Frame.reportCounts none).kind = 9) := by
  decide +kernel

theorem witness_FaultsRaisedAndCleared :
    (withFaults [(.lampOpen, 3)] (station .joined)).hasFault .lampOpen 3 = true ∧
    ((withFaults seven (station .joined)).hasFault .lampOpen 12 = false ∧
      (withFaults seven (station .joined)).faults.list.length < 8 ∧ (station .joined).serving = true ∧
      (station .checking).serving = false) ∧
    (let s := withFaults ((.lampShort, 1) :: seven) (station .joined)
     s.hasFault .lineMute 0 = false ∧ 8 ≤ s.faults.list.length ∧ (∀ x ∈ s.faults.list, x.code.latched = true ∨ 2 ≤ x.severity) ∧
     s.faults.list = [] ++ { code := .lampShort, subject := 1, severity := 2, onset := 0 } :: (withFaults seven s).faults.list ∧
     FaultCode.lampShort.latched = false ∧ 2 < 3 ∧ ∀ y ∈ (withFaults seven s).faults.list, 2 ≤ y.severity) ∧
    (let older : FaultEntry := { code := .lampOpen, subject := 1, severity := 3, onset := 0 }
     let x : FaultEntry := { code := .lampOpen, subject := 2, severity := 1, onset := 0 }
     FaultCode.lampOpen.latched = false ∧ x.severity < older.severity) ∧
    FaultCode.lineMute.latched = true ∧ FaultCode.lampOpen.latched = false ∧
    (let s := withFaults ((.lampShort, 5) :: seven) (station .joined)
     s.faults.list ≠ [] ∧ s.functionOf 5 = .turnL ∧ s.functionOf 6 = .turnR ∧
     summaryOf s s.faults.list = { count := 8, highest := 2, sides := { left := true, right := true } } ∧
     summaryOf s [] = { count := 0, highest := 0, sides := { left := false, right := false } }) ∧
    Table.get (station .joined).roster.entries (station .joined).seat.ownSeat = some (entry 4660) := by decide +kernel

/-- A station that answers a query. -/
def answering : State :=
  portW (fun p => { p with answering := some { requester := 1, cls := 3, first := 1, count := 4, next := 2, left := 3, ended := false, retry := false } })
    (station .joined)

/-- The answering station with its ANSWER in flight and, where given, a BUSY owed. -/
def answeringOut (owed : Option OwedBusy) : State :=
  portW (fun p => { p with owed := owed }) (sending 0 (.answer 1 3 1 .ok []) answering)

theorem witness_QueriesAnswered :
    ((station .joined).power = .running ∧ (station .joined).seated = true ∧ (2 : Byte).toNat = (station .joined).seat.ownSeat ∧
      (3 : Byte).toNat ≠ (station .joined).seat.ownSeat ∧ (station .joined).port.answering = none ∧
      (answerItem (station .joined) 3 12).isSome = true ∧ answerItem (station .joined) 3 13 = none) ∧
    (1 ≤ (1 : Byte).toNat ∧ (7 : Byte).toNat ≤ 7 ∧ (1 : Byte).toNat ≠ 0 ∧ 1 ≤ (1 : Byte).toNat ∧ (4 : Byte).toNat ≤ 4) ∧
    (answering.port.answering ≠ none ∧ (∀ e ∈ answering.line.queue, e.frame.isAnswer = false) ∧
      answering.line.queue.length < 8 ∧ ∃ e ∈ (answeringOut none).line.queue, e.frame.isAnswer = true) ∧
    (∀ b ∈ [none, some { requester := 4, cls := 1, index := 1 }], Settled (answeringOut b)) ∧
    (∀ b ∈ [none, some { requester := 4, cls := 1, index := 1 }], let s := answeringOut b
      s.seated = true ∧ s.line.followOn = [] ∧ s.roster.announce = none ∧ s.hasFault .lineDrive 0 = false ∧
      s.line.queue = [queued 0 (.answer 1 3 1 .ok []) true] ∧ s.port.owed = b ∧
      s.port.answering.map Answering.ended = some false) ∧
    (let s := answeringOut none
     (answerItem { s with line := { s.line with state := (s.line.read []).state } } 3 2).isSome = true ∧
     1 ≤ 3 ∧ 3 ≤ 7 ∧ (1 : Nat) ≠ 0 ∧ 1 ≤ 4 ∧ 4 ≤ 4) ∧
    (let s := portW (fun p => { p with answering := p.answering.map fun a => { a with next := 13 } }) (answeringOut none)
     answerItem { s with line := { s.line with state := (s.line.read []).state } } 3 13 = none) ∧
    (let s := portW (fun p => { p with answering := p.answering.map fun a => { a with retry := true } }) (sending 0 .stageTake answering)
     Settled s ∧ s.seated = true ∧ s.line.queue = [queued 0 .stageTake true] ∧ s.port.answering.map Answering.retry = some true) ∧
    Settled asking ∧
    (asking.port.query.map Query.target = some (3 : Nibble).toNat ∧ asking.seated = true ∧
      (2 : Byte).toNat = asking.seat.ownSeat ∧ asking.port.query.map Query.cls = some (3 : Byte).toNat ∧
      asking.port.query.map Query.first = some (9 : Byte).toNat ∧
      asking.port.query.map (fun q => q.first + q.count) = some ((12 : Byte).toNat + 1) ∧
      asking.port.store.length < 8 ∧ asking.port.query.map (fun q => q.timer.isDue) = some true ∧
      (Timer.running 249 250).isDue = false) ∧
    (∀ b ∈ [true, false], let s := withQueue [queued 0 (.query 3 3 9 4) b] asking
      s.port.query.map (fun q => s.pendingId q.frameId) = some (!b)) ∧
    (station .joined).port.query = none ∧
    8 ≤ (portW (fun p => { p with store := List.replicate 8 { sender := 3, cls := 3, index := 9, status := .ok, data := [] } }) asking).port.store.length :=
  ⟨by decide +kernel, by decide +kernel, by decide +kernel,
    fun b hb => settled_all [answeringOut none, answeringOut (some { requester := 4, cls := 1, index := 1 })] (by decide +kernel) _
      (List.mem_map_of_mem (f := answeringOut) hb),
    by decide +kernel, by decide +kernel, by decide +kernel, ⟨settled_of _ (by decide +kernel), by decide +kernel⟩,
    settled_of _ (by decide +kernel), by decide +kernel⟩

/-- A station whose roster, fault list and answer store hold something at the ends of their ranges. -/
def listing : State :=
  withFaults seven
    (rosterW
      (fun r =>
        { r with
          entries :=
            [(1, entry 1),
              (8,
                { entry 2 with
                  profile := some (ownSummary (station .joined).loader)
                  check := some { good := 12, failed := 0, complete := true }
                  fault := some { count := 1, highest := 3, sides := { left := true, right := false } } })] })
      stored)

/-- Each item's parts present and absent, for QueriesAnswered and PortTransactionsTaken. -/
theorem witness_ItemsListed :
    ((Table.get listing.roster.entries 1).isSome = true ∧ (Table.get listing.roster.entries 8).isSome = true ∧
      Table.get listing.roster.entries 2 = none ∧
      (Table.get listing.roster.entries 8).map (fun e => (e.profile.isSome, e.check.isSome, e.fault.isSome)) =
        some (true, true, true) ∧
      (Table.get listing.roster.entries 1).map (fun e => (e.profile.isSome, e.check.isSome, e.fault.isSome)) =
        some (false, false, false) ∧
      (ownSummary (station .joined).loader).bodies.length = 2) ∧
    ((nth listing.faults.list 1).isSome = true ∧ (nth listing.faults.list 7).isSome = true ∧
      nth listing.faults.list 8 = none ∧ listing.faults.list.length < 8 ∧
      (nth listing.port.store 1).isSome = true ∧ nth listing.port.store 2 = none) ∧
    (∀ n ∈ [1, 4], (nth listing.loader.profile.analog n).isSome = true ∧ (nth listing.sensor.analogs n).isSome = true) ∧
    (listing.loader.record.outcome ≤ 3 ∧ listing.body.relay.reply = none ∧ listing.body.relay = Relay.reset ∧
      listing.rear.neighbour = none ∧ (listing.channel 1).last = none ∧
      ((recordSample 1 1620 27600 .good listing).channel 1).last =
        some { current := 1620, supply := 27600, outcome := .good }) ∧
    ((lifting.bodyChannel 1).running = true ∧ (lifting.bodyChannel 1).timer = .running 0 120000 ∧
      (lifting.bodyChannel 2).running = false ∧ (listing.pulseCfg 3).cascade = true ∧
      (listing.pulseCfg 1).cascade = false) :=
  ⟨by decide +kernel, by decide +kernel, by decide +kernel, ⟨by decide +kernel, by decide +kernel, rfl, by decide +kernel⟩,
    by decide +kernel⟩

theorem witness_PortTransactionsTaken :
    (State.reset.power = .running ∧ State.reset.seat.stage = .loading) ∧
    ((station .joined).seat.stage ≠ .loading ∧ (53 : BitVec 7).toNat ≠ (station .joined).loader.portAddress ∧
      (52 : BitVec 7).toNat = (station .joined).loader.portAddress ∧ (station .joined).loader.portAddress < 128) ∧
    ((0 : Byte) ≠ 96 ∧ pointerExists (station .joined) 0 = true ∧ pointerExists (station .joined) 255 = false) ∧
    (let s := portW (fun p => { p with pointer := 16 }) (station .joined)
     s.port.pointer ≠ 0 ∧ ((pointerBytes s s.port.pointer).map fun b => decide (1 < b.length)) = some true) ∧
    (pointerExists (station .joined) 2 = true ∧ nextItem (station .joined) 3 = some 16 ∧
      pointerExists (station .joined) 1 = false ∧ nextItem (station .joined) 1 = some 2 ∧
      pointerExists (station .joined) 80 = false ∧ nextItem (station .joined) 80 = none ∧
      pointerExists (station .joined) 67 = true ∧ nextItem (station .joined) 68 = none ∧
      pointerExists (station .joined) 96 = true ∧ pointerExists stored 80 = true) ∧
    (let s := { retained true with
       port := { asking.port with store := [] }
       body := { asking.body with relay := { asking.body.relay with state := .answered, reply := some (true, .motion) } } }
     s.rear.neighbour ≠ none ∧ (summaryOf s s.faults.list).highest < 4 ∧ s.port.store.length ≤ 8 ∧ s.port.query ≠ none ∧
       s.body.relay.reply = some (true, .motion)) ∧
    stored.port.store.head? = some { sender := 3, cls := 3, index := 9, status := .ok, data := [1] } ∧
    (station .joined).port.slot = none ∧ (station .joined).port.query = none ∧ asking.port.query ≠ none ∧
    (portW (fun p => { p with slot := some .restart }) (station .joined)).port.slot ≠ none ∧
    ((5 : Byte) ∉ [(1 : Byte), 2, 3, 4] ∧ (0 : Byte) ∉ [(1 : Byte), 2, 3, 4] ∧ [(7 : Byte), 1].length < 3 ∧
      3 ≤ [(7 : Byte), 1, 17].length ∧ 3 < [(7 : Byte), 1, 17, 9].length ∧ 0 ≤ ([] : List Byte).length) := by decide +kernel

/-- A station with a request in its slot. -/
def requesting (r : Request) (g : Stage) : State := portW (fun p => { p with slot := some r, slotDue := true }) (station g)

theorem witness_RequestsTakenFromSlot :
    (requesting .restart .joined).power = .running ∧ (requesting .restart .joined).port.slot = some .restart ∧
    (requesting (.bodyStart 2 1 17) .joined).seat.ownSeat = 2 ∧ (requesting (.bodyStop 0 1 17) .joined).seat.ownSeat ≠ 0 ∧
    (requesting (.bodyStart 3 1 17) .joined).seat.ownSeat ≠ 3 ∧ (requesting (.bodyStop 3 1 17) .joined).seated = true ∧
    (requesting (.bodyStop 3 1 17) .listen).seated = false ∧
    ((requesting (.query 8 3 9 4) .joined).seat.ownSeat ≠ 8 ∧ (requesting (.query 8 3 9 4) .joined).seated = true ∧
      (requesting (.query 9 3 9 4) .joined).port.slot = some (.query 9 3 9 4) ∧ 8 < 9 ∧
      (requesting (.query 1 3 9 4) .listen).seat.ownSeat ≠ 1 ∧ (requesting (.query 1 3 9 4) .listen).seated = false) := by
  decide +kernel

/-- A joined station at seat 2 whose own entry is up to date, with a frame on its queue, a lit STOP lamp and a latched fault;
the command waiting is a STAGE YIELD from position 3. -/
def busy : State :=
  let s := withFaults [(.lineMute, 0), (.lampOpen, 1)] (withQueue [queued 0 .stageTake false] braking)
  { rosterW (fun r => { r with entries := [(2, { entry 4660 with fault := some (summaryOf s s.faults.list) }), (3, entry 1)] }) s with
    pending := [.stageYieldReceived 3] }

theorem busy_steps : ∃ t, step busy = .next t := ⟨_, rfl⟩

theorem busy_progress : ProgressOk busy :=
  { claim := by decide +kernel, held := by decide +kernel, window := by decide +kernel
    initial := fun a h => absurd h (by have : busy.roster.announce = none := by decide +kernel
                                       rw [this]; exact nofun)
    check := by decide +kernel }

theorem witness_QueueKept : (∃ t, step busy = .next t) ∧ QueueOk busy ∧ ProgressOk busy ∧ SilenceOk busy ∧ LineOk busy :=
  ⟨busy_steps,
    { size := by decide +kernel, order := by decide +kernel, oneInFlight := by decide +kernel
      classes := fun _ => (List.length_filter_le _ _).trans (by decide +kernel)
      profile := by decide +kernel, answer := by decide +kernel, onLine := by decide +kernel
      distinct := by decide +kernel, fresh := by decide +kernel },
    busy_progress,
    { unseated := by decide +kernel, loading := by decide +kernel, conflict := by decide +kernel },
    { recessive := by decide +kernel, dominant := by decide +kernel, cutOff := by decide +kernel
      malformed := by decide +kernel, overflow := by decide +kernel, driveFaults := by decide +kernel
      mute := by decide +kernel }⟩

theorem busy_seats : SeatsOk busy :=
  { seated := by unfold isSeat; decide +kernel
    unseated := by decide +kernel
    claiming := by unfold isSeat; decide +kernel
    rejoin := fun p h => absurd h (by have : busy.seat.rejoin = none := by decide +kernel
                                      rw [this]; exact nofun) }

theorem witness_RosterKept :
    (∃ t, step busy = .next t) ∧ ProgressOk busy ∧ SeatsOk busy ∧ TablesOk busy ∧ OwnEntryOk busy ∧ OwnSummaryOk busy ∧
    LoadingOk (loading .warm true 1) ∧ (loading .warm true 1).seat.stage = .loading :=
  ⟨busy_steps, busy_progress, busy_seats,
    { roster := by decide +kernel, reasm := by decide +kernel, demand := by decide +kernel, motion := by decide +kernel },
    by unfold OwnEntryOk; decide +kernel, by unfold OwnSummaryOk; decide +kernel, loading_ok _ _ _, rfl⟩

theorem witness_PhaseKept : (∃ t, step busy = .next t) ∧ PhaseOk busy :=
  ⟨busy_steps,
    { own := by unfold inRange; decide +kernel, cycle := by decide +kernel, phi := by decide +kernel
      quiet := by decide +kernel, slip := by decide +kernel
      adoption := fun p d h => absurd h (by have : busy.phase.adoption = none := by decide +kernel
                                            rw [this]; exact nofun)
      profile := by decide +kernel }⟩

/-- A check in its 19th ms meets its invariant. -/
theorem checkAt_ok : CheckOk (checkAt [1, 11] 19 true) := by
  have h : (checkAt [1, 11] 19 true).lamps.check = some { todo := [1, 11], turn := 19, pulse := true } := by decide +kernel
  rintro k hk
  rw [h] at hk
  cases hk
  exact ⟨by decide, by decide +kernel, by decide, by decide⟩

/-- The busy station with a retention record that holds what stands. -/
def recorded : State :=
  { busy with
    retention :=
      { Retention.lost with
        valid := true, identity := 4660, seat := 2, channels := busy.lamps.channels.map fun c => (c.health, c.retry) } }

theorem recorded_progress : ProgressOk recorded :=
  { claim := by decide +kernel, held := by decide +kernel, window := by decide +kernel
    initial := fun a h => absurd h (by have : recorded.roster.announce = none := by decide +kernel
                                       rw [this]; exact nofun)
    check := by decide +kernel }

/-- The n-th channel's part of the record, where that channel is assigned. -/
def kept (s : State) (n : Nat) : Bool :=
  match nth s.lamps.channels n with
  | none => true
  | some c => s.functionOf n == .unassigned || nth s.retention.channels n == some (c.health, c.retry)

theorem recorded_retained : RetainedOk recorded :=
  { valid := by decide +kernel, identity := by decide +kernel, seat := by decide +kernel
    channels := fun _ _ n c h ha => by
      have hl : recorded.lamps.channels.length = 12 := by decide +kernel
      have key : ∀ n ∈ List.range 13, kept recorded n = true := by decide +kernel
      have hn : n < 13 := by
        match n, h with
        | 0, _ => decide
        | n + 1, h =>
          have := (List.getElem?_eq_some_iff.1 h).1
          omega
      simpa [kept, h, ha] using key n (List.mem_range.2 hn) }

theorem witness_RetentionKept :
    (∃ t, step recorded = .next t) ∧ ProgressOk recorded ∧ LoadingOk recorded ∧ RetainedOk recorded ∧
    recorded.power ≠ .lost ∧ recorded.loaded = true ∧ recorded.seated = true ∧ (nth recorded.lamps.channels 12).isSome = true ∧
    recorded.functionOf 12 = .unassigned ∧ recorded.functionOf 1 ≠ .unassigned :=
  ⟨⟨_, rfl⟩, recorded_progress,
    { marker := by decide +kernel, rejoin := by decide +kernel, headListen := by decide +kernel
      channels := fun h => absurd h (by decide +kernel) },
    recorded_retained, by decide +kernel⟩

theorem witness_OutputsKept :
    CheckOk (checkAt [1, 11] 19 true) ∧ (∃ t, step busy = .next t) ∧ ChannelsOk busy ∧ BodiesOk busy ∧ ProgressOk busy ∧ CheckOk busy ∧ LampGateOk busy ∧
    busy.lampPin 3 = true ∧ BodiesOk lifting ∧ lifting.bodyPin 1 = true :=
  ⟨checkAt_ok, busy_steps,
    { channels := by unfold Channel.ok; decide +kernel, retained := by decide +kernel },
    by unfold BodiesOk; decide +kernel, busy_progress,
    fun k h => absurd h (by have : busy.lamps.check = none := by decide +kernel
                            rw [this]; exact nofun),
    by unfold LampGateOk; decide +kernel, by decide +kernel, by unfold BodiesOk; decide +kernel, by decide +kernel⟩

theorem witness_FaultListKept :
    (∃ t, step busy = .next t) ∧ FaultsOk busy ∧ ProgressOk (station .listen) ∧ FrontLinkOk (station .listen) ∧ (station .listen).seated = false ∧
    busy.taken = some (.stageYieldReceived 3) ∧ restarts (.stageYieldReceived 3) busy = false ∧
    ∃ e ∈ busy.faults.list, e.code.latched = true :=
  ⟨busy_steps,
    { size := by decide +kernel, distinct := by decide +kernel, order := by decide +kernel, past := by decide +kernel },
    { claim := by decide +kernel, held := by decide +kernel, window := by decide +kernel
      initial := nofun, check := by decide +kernel },
    fun _ => by decide +kernel, by decide +kernel, by decide +kernel, by decide +kernel, by decide +kernel⟩

theorem witness_StagesMoveByRule : (∃ t, exec (.stageYieldReceived 3) busy = .next t) ∧ ProgressOk busy :=
  ⟨⟨_, rfl⟩, busy_progress⟩

theorem witness_WhatPersists :
    (∃ t, exec .lineIdle (lineW (fun l => { l with mute := true }) busy) = .next t) ∧ busy.seat.stage ≠ .loading ∧
    restarts .lineIdle (lineW (fun l => { l with mute := true }) busy) = false ∧ (lineW (fun l => { l with mute := true }) busy).line.mute = true ∧
    Instr.lineIdle ≠ .supplyLost :=
  ⟨⟨_, rfl⟩, by decide +kernel, by decide +kernel, by decide +kernel, by decide⟩

theorem witness_FrameHeardAsSent :
    15 < 16 ∧ 0 < 16 ∧ (List.replicate 12 (0 : Byte)).length ≤ 12 ∧ ([] : List Byte).length ≤ 12 ∧
    ({ started 0 with bits := frameBits 0 1 [0, 0] } : Reception).bits = frameBits 0 1 [0, 0] ∧ [(0 : Byte), 0][1]? = some 0 := by
  decide +kernel

end Sys2Proof.Tests
end

section
/-! SUPPORT. What the judgements of an event leave: which fields each keeps, that each makes its part of the state agree
with its inputs, and that a state in agreement is left as it is. -/

namespace Sys2Proof.Machine

variable (s : State)

/-! ### What the own contribution and the runs leave -/

/-- The demand without what judging the own contribution and sending DEMAND write. -/
def Merger.unsent (d : Merger) : Merger :=
  { d with own := .empty, hazard := false, active := false, repeatTimer := .stopped }

/-- Two states agree in all that judging the own contribution and ending runs leave as it is. -/
structure SameBut (s t : State) : Prop where
  power : t.power = s.power
  now : t.now = s.now
  loader : t.loader = s.loader
  retention : t.retention = s.retention
  seat : t.seat = s.seat
  phase : t.phase = s.phase
  lamps : t.lamps = s.lamps
  rear : t.rear = s.rear
  sensor : t.sensor = s.sensor
  faults : t.faults = s.faults
  entries : t.roster.entries = s.roster.entries
  demand : t.demand.unsent = s.demand.unsent

theorem SameBut.refl : SameBut s s := by constructor <;> rfl

variable {s} in
theorem SameBut.trans {t u : State} (h : SameBut s t) (k : SameBut t u) : SameBut s u where
  power := k.power.trans h.power
  now := k.now.trans h.now
  loader := k.loader.trans h.loader
  retention := k.retention.trans h.retention
  seat := k.seat.trans h.seat
  phase := k.phase.trans h.phase
  lamps := k.lamps.trans h.lamps
  rear := k.rear.trans h.rear
  sensor := k.sensor.trans h.sensor
  faults := k.faults.trans h.faults
  entries := k.entries.trans h.entries
  demand := k.demand.trans h.demand

variable {s} in
/-- The fields of the demand that such states share. -/
theorem SameBut.demand_fields {t : State} (h : SameBut s t) :
    t.demand.levels = s.demand.levels ∧ t.demand.holds = s.demand.holds ∧ t.demand.table = s.demand.table ∧
    t.demand.eff = s.demand.eff ∧ t.demand.fallback = s.demand.fallback ∧ t.demand.gateL = s.demand.gateL ∧
    t.demand.gateR = s.demand.gateR ∧ t.demand.gateB = s.demand.gateB := by
  have h := h.demand
  exact ⟨(congrArg Merger.levels h :), (congrArg Merger.holds h :), (congrArg Merger.table h :),
    (congrArg Merger.eff h :), (congrArg Merger.fallback h :), (congrArg Merger.gateL h :),
    (congrArg Merger.gateR h :), (congrArg Merger.gateB h :)⟩

theorem offer_same (f : Frame) : SameBut s (offer f s) := by constructor <;> simp

/-! ### The own contribution (R77, R161) -/

/-- Sending a change of the own contribution touches the sending state and the queue only. -/
theorem sendChange_keeps :
    SameBut s (sendChange s) ∧ (sendChange s).body.channels = s.body.channels ∧
    (sendChange s).demand.own = s.demand.own ∧ (sendChange s).demand.hazard = s.demand.hazard := by
  have h (f : Frame) (u : State) (hu : SameBut s u) (hb : u.body.channels = s.body.channels)
      (ho : u.demand.own = s.demand.own) (hz : u.demand.hazard = s.demand.hazard) :
      SameBut s (offer f u) ∧ (offer f u).body.channels = s.body.channels ∧
      (offer f u).demand.own = s.demand.own ∧ (offer f u).demand.hazard = s.demand.hazard :=
    ⟨hu.trans (offer_same u f), by simp [hb], by simp [ho], by simp [hz]⟩
  simp only [sendChange, sendActive, sendDemand, withdrawDemand]
  split
  · exact ⟨.refl s, rfl, rfl, rfl⟩
  · split
    · exact h _ _ (by constructor <;> rfl) rfl rfl rfl
    · split
      · split
        · exact h _ _ (by constructor <;> rfl) rfl rfl rfl
        · exact ⟨.refl s, rfl, rfl, rfl⟩
      · exact h _ _ (by constructor <;> rfl) rfl rfl rfl

/-- The hazard part and the own contribution are what their inputs make of them. -/
structure OwnAgrees (s : State) : Prop where
  hazard : s.demand.hazard = s.hazardDue
  own : s.demand.own = s.contribution

variable {s} in
/-- The agreement of the own contribution looks at these inputs only. -/
theorem OwnAgrees.congr {t : State} (h : OwnAgrees s) (hl : t.loader = s.loader) (hb : t.body.channels = s.body.channels)
    (hv : t.demand.levels = s.demand.levels) (ho : t.demand.holds = s.demand.holds)
    (hz : t.demand.hazard = s.demand.hazard) (hw : t.demand.own = s.demand.own) : OwnAgrees t where
  hazard := by rw [hz, h.hazard]; simp only [State.hazardDue, hl, hb]
  own := by rw [hw, h.own]; simp only [State.contribution, hl, hv, ho, hz]

/-- Judging the own contribution touches it, the hazard part, the sending state and the queue only, and makes both agree
with their inputs. -/
theorem judgeOwn_keeps :
    SameBut s (judgeOwn s) ∧ (judgeOwn s).body.channels = s.body.channels ∧ OwnAgrees (judgeOwn s) := by
  obtain ⟨hz, hw, h⟩ | ⟨-, h⟩ := judgeOwn_cases s
  · rw [h]
    exact ⟨.refl s, rfl, hz.symm, hw.symm.trans (by simp only [State.contribution, hz])⟩
  · rw [h]
    generalize hu : ({ s with demand := { s.demand with hazard := s.hazardDue, own :=
        { s with demand := { s.demand with hazard := s.hazardDue } : State }.contribution } } : State) = u
    have hs : SameBut s u := by subst hu; constructor <;> rfl
    have hb : u.body.channels = s.body.channels := by subst hu; rfl
    have ha : OwnAgrees u := by subst hu; exact ⟨rfl, rfl⟩
    obtain ⟨h1, h2, h3, h4⟩ := sendChange_keeps u
    obtain ⟨hv, ho, -⟩ := h1.demand_fields
    exact ⟨hs.trans h1, h2.trans hb, ha.congr h1.loader h2 hv ho h4 h3⟩

/-! ### The ends of runs (R156, R157, R159) -/

theorem stopRun_keeps (n : Nat) (o : BodyOutcome) :
    SameBut s (stopRun n o s) ∧ (stopRun n o s).body.channels =
      modNth s.body.channels n fun c => { c with running := false, timer := .stopped, outcome := o } := by
  obtain ⟨h, hb, -⟩ := judgeOwn_keeps (modBody n (fun c => { c with running := false, timer := .stopped, outcome := o }) s)
  exact ⟨.trans (by constructor <;> rfl) h, hb⟩

theorem endRun_same (o : BodyOutcome) (n : Nat) : SameBut s (endRun o s n) := by
  simp only [endRun]
  split
  · exact (stopRun_keeps s n o).1.trans (offer_same ..)
  · exact .refl s

theorem foldl_same {α : Type} (f : State → α → State) (h : ∀ u a, SameBut u (f u a)) (l : List α) :
    SameBut s (l.foldl f s) := by
  induction l generalizing s with
  | nil => exact .refl s
  | cons a l ih => exact (h s a).trans (ih (f s a))

theorem endRuns_same (o : BodyOutcome) (p : BodyCfg → Bool) : SameBut s (endRuns o p s) :=
  foldl_same s _ (fun u n => endRun_same u o n) _

/-- The ending of a run stops that channel and no other. -/
theorem endRun_running (o : BodyOutcome) (n m : Nat) :
    ((endRun o s n).bodyChannel m).running = ((s.bodyChannel m).running && decide (m ≠ n)) := by
  simp only [endRun]
  split
  · simp only [queueStatus, State.bodyChannel, (offer_keeps _ _), (stopRun_keeps s n o).2]
    by_cases h : m = n
    · subst h
      rw [nth_modNth_same]
      cases nth s.body.channels m <;> simp [BodyChannel.reset]
    · simp [h, nth_modNth_other]
  · next hr =>
    by_cases h : m = n
    · subst h; simpa using hr
    · simp [h]

theorem foldl_endRun_running (o : BodyOutcome) (l : List Nat) (m : Nat) :
    ((l.foldl (endRun o) s).bodyChannel m).running = ((s.bodyChannel m).running && decide (m ∉ l)) := by
  induction l generalizing s with
  | nil => simp
  | cons n l ih =>
    rw [List.foldl_cons, ih, endRun_running]
    by_cases h : m = n <;> simp [h]

/-- Which runs go on when those of the channels of a test end. -/
theorem endRuns_running (o : BodyOutcome) (p : BodyCfg → Bool) (m : Nat) (hm : m ∈ bodyNumbers) :
    ((endRuns o p s).bodyChannel m).running = ((s.bodyChannel m).running && !p (s.bodyCfg m)) := by
  rw [endRuns, foldl_endRun_running]
  simp [hm]

/-- Where none of the channels of a test runs, nothing changes. -/
theorem endRuns_none (o : BodyOutcome) (p : BodyCfg → Bool)
    (h : ∀ n ∈ bodyNumbers, p (s.bodyCfg n) = true → (s.bodyChannel n).running = false) : endRuns o p s = s := by
  simp only [endRuns]
  have hl : ∀ n ∈ bodyNumbers.filter (fun n => p (s.bodyCfg n)), (s.bodyChannel n).running = false := by
    simpa using h
  generalize bodyNumbers.filter (fun n => p (s.bodyCfg n)) = l at hl
  induction l with
  | nil => rfl
  | cons n l ih =>
    have hn : endRun o s n = s := by simp [endRun, hl n (List.mem_cons_self ..)]
    rw [List.foldl_cons, hn]
    exact ih fun k hk => hl k (List.mem_cons_of_mem _ hk)

/-- The three endings that follow an event leave what the runs do not touch, and end exactly the runs they name. -/
theorem endWithdrawn_keeps :
    SameBut s (endWithdrawn s) ∧ ∀ n ∈ bodyNumbers,
      ((endWithdrawn s).bodyChannel n).running = ((s.bodyChannel n).running && s.joined) := by
  unfold endWithdrawn
  split
  · next h => exact ⟨.refl s, by simp [h]⟩
  · next h => exact ⟨endRuns_same .., fun n hn => by rw [endRuns_running _ _ _ _ hn]; simp [h]⟩

theorem endMotion_keeps :
    SameBut s (endMotion s) ∧ ∀ n ∈ bodyNumbers, ((endMotion s).bodyChannel n).running =
      ((s.bodyChannel n).running && !(s.sensor.view && (s.bodyCfg n).motionInhibited)) := by
  unfold endMotion
  split
  · next h => exact ⟨endRuns_same .., fun n hn => by rw [endRuns_running _ _ _ _ hn]; simp [h]⟩
  · next h => exact ⟨.refl s, by simp [h]⟩

theorem endPark_keeps :
    SameBut s (endPark s) ∧ ∀ n ∈ bodyNumbers, ((endPark s).bodyChannel n).running =
      ((s.bodyChannel n).running && !(!s.demand.eff.park && (s.bodyCfg n).parkRequired)) := by
  unfold endPark
  split
  · next h => exact ⟨.refl s, by simp [h]⟩
  · next h => exact ⟨endRuns_same .., fun n hn => by rw [endRuns_running _ _ _ _ hn]; simp [h]⟩

/-! ### Fallback and the effective demand (R83, R84) -/

/-- Judging fallback touches its flag, the fault list and the queue only. -/
theorem judgeFallback_keeps :
    (judgeFallback s).unfaulted = State.unfaulted { s with demand := { s.demand with fallback := s.fallbackDue } } := by
  simp only [judgeFallback]
  split
  · next h => rw [h]
  · split
    · exact raiseFault_unfaulted ..
    · exact clearFault_unfaulted ..

/-- The hazard part places no PARK, so PARK stands in the contribution as the inputs place it. -/
theorem contribution_park {s t : State} (hl : t.loader = s.loader) (hv : t.demand.levels = s.demand.levels)
    (ho : t.demand.holds = s.demand.holds) : t.contribution.park = s.contribution.park := by
  have h (b : Bool) : (hazardShare b).park = false := by cases b <;> rfl
  simp [State.contribution, DemandSet.union, h, hl, hv, ho]

/-- PARK stands in the effective demand as the inputs and the table place it. -/
theorem SameBut.effective_park {s t : State} (h : SameBut s t) (hs : OwnAgrees s) (ht : OwnAgrees t) :
    t.effective.park = s.effective.park := by
  obtain ⟨hv, ho, hta, -, hf, -⟩ := h.demand_fields
  have hc : t.contribution.park = s.contribution.park := contribution_park h.loader hv ho
  have hshare : t.fallbackShare = s.fallbackShare := by
    simp only [State.fallbackShare, State.brakeOn, hf, h.loader, h.sensor]
    rfl
  simp only [State.effective, DemandSet.union, hshare, hta, ht.own, hs.own, hc]

/-! ### The gates (R86, R87) -/

theorem Gate.judge_agrees (joined asked lit : Bool) (g : Gate) : (g.judge joined asked lit).agrees joined asked lit := by
  cases g <;> cases joined <;> cases asked <;> cases lit <;> simp [Gate.judge, Gate.agrees]

/-- A gate in agreement stays. -/
theorem Gate.judge_of_agrees {joined asked lit : Bool} {g : Gate} (h : g.agrees joined asked lit) :
    g.judge joined asked lit = g := by
  obtain ⟨hj, ha, hn⟩ := h
  cases joined <;> cases asked <;> cases g <;> simp_all [Gate.judge]

/-! ### The lit states (R93 to R99) -/

/-- The judged channels, one by one. -/
theorem nth_judgeFrom (k : Nat) (l : List Channel) (n : Nat) :
    nth (judgeFrom s k l) n = (nth l n).map (Channel.judge (s.functionOf (k + n - 1)) (s.calledFor (k + n - 1))) := by
  induction l generalizing k n with
  | nil => cases n <;> simp [judgeFrom, nth]
  | cons c r ih =>
    match n with
    | 0 => rfl
    | 1 => simp [judgeFrom, nth]
    | n + 2 =>
      have := ih (k + 1) (n + 1)
      simp only [nth, judgeFrom, List.getElem?_cons_succ] at this ⊢
      rw [this]
      congr 2 <;> congr 1 <;> omega

@[simp] theorem Channel.setLit_keeps (f : LampFn) (b : Bool) (c : Channel) :
    (c.setLit f b).lit = b ∧ (c.setLit f b).health = c.health ∧ (c.setLit f b).short = c.short ∧
    (c.setLit f b).retry = c.retry ∧ (c.setLit f b).rest = c.rest ∧ (c.setLit f b).proving = c.proving := by
  unfold Channel.setLit
  split
  · next h => exact ⟨h, rfl, rfl, rfl, rfl, rfl⟩
  · exact ⟨rfl, rfl, rfl, rfl, rfl, rfl⟩

@[simp] theorem Channel.redrive_keeps (f : LampFn) (c : Channel) :
    (c.redrive f).lit = true ∧ (c.redrive f).health = c.health ∧ (c.redrive f).short = .proving ∧
    (c.redrive f).retry = (if c.retry < 3 then c.retry + 1 else c.retry) := by
  simp [Channel.redrive]
  rfl

/-- A channel judged is lit exactly where it is called for, not LOCKED and not resting; no short of a channel called for waits. -/
theorem Channel.judge_lit (f : LampFn) (called : Bool) (c : Channel) :
    ((c.judge f called).lit = true ↔
      called = true ∧ (c.judge f called).health ≠ .locked ∧ (c.judge f called).short ≠ .resting) ∧
    ((c.judge f called).short = .waiting → called = true → (c.judge f called).health = .locked) := by
  unfold Channel.judge
  split
  · next h => simp_all
  · next h => simp_all [and_assoc]

/-- A channel in agreement stays. -/
theorem Channel.judge_of_agrees {f : LampFn} {called : Bool} {c : Channel}
    (hl : c.lit = true ↔ called = true ∧ c.health ≠ .locked ∧ c.short ≠ .resting)
    (hw : c.short = .waiting → called = true → c.health = .locked) : c.judge f called = c := by
  unfold Channel.judge
  rw [if_neg (by simp; tauto), Channel.setLit, if_pos]
  rw [Bool.eq_iff_iff]
  simpa [and_assoc] using hl

/-- What is called for stands on these inputs. -/
theorem calledFor_congr {s t : State} (hl : t.loader.profile = s.loader.profile) (hs : t.seat.stage = s.seat.stage)
    (hm : t.seat.fallbackMark = s.seat.fallbackMark) (hp : t.phase = s.phase)
    (he : t.demand.eff = s.demand.eff) (hgl : t.demand.gateL = s.demand.gateL) (hgr : t.demand.gateR = s.demand.gateR)
    (hgb : t.demand.gateB = s.demand.gateB) (hc : t.lamps.check = s.lamps.check) (hr : t.rear.status = s.rear.status)
    (ha : t.sensor.analogs = s.sensor.analogs) (n : Nat) : t.calledFor n = s.calledFor n := by
  have hb : t.brakeOn = s.brakeOn := by simp only [State.brakeOn, hl, ha]
  have hf : t.functionOf n = s.functionOf n := by simp only [State.functionOf, hl]
  have hfb (f : LampFn) : t.fallbackCalls f = s.fallbackCalls f := by cases f <;> simp [State.fallbackCalls, hb]
  have hsc (f : LampFn) : t.steadyCalls f = s.steadyCalls f := by simp only [State.steadyCalls, he, hr]
  have hfc (f : LampFn) : t.flashCalls f = s.flashCalls f := by cases f <;> simp [State.flashCalls, hgl, hgr, hgb, hp]
  have hpu : t.pulsed n = s.pulsed n := by simp only [State.pulsed, hc]
  simp only [State.calledFor, hs, hm, hf, hfb, hsc, hfc, hpu]

/-! ### All judgements -/

/-- Whether the roster holds an entry stands untouched by faults and frames. -/
theorem holds_of_unfaulted {s t : State} (h : t.unfaulted = s.unfaulted) (q : Nat) :
    Table.holds t.roster.entries q = Table.holds s.roster.entries q := by
  have he : Table.modify t.roster.entries t.seat.ownSeat (fun e => { e with fault := none }) =
    Table.modify s.roster.entries s.seat.ownSeat (fun e => { e with fault := none }) := (congrArg (·.roster.entries) h :)
  have hg := congrArg (fun l => (Table.get l q).isSome) he
  simp only [Table.get_modify] at hg
  simp only [Table.holds]
  split at hg <;> split at hg <;> simpa using hg

/-- Two states agree in all that the judgements other than the lamps' read and write. -/
structure SameInputs (s t : State) : Prop where
  profile : t.loader.profile = s.loader.profile
  stage : t.seat.stage = s.seat.stage
  ownSeat : t.seat.ownSeat = s.seat.ownSeat
  presIn : t.seat.presIn = s.seat.presIn
  offer : t.seat.offer.isRunning = s.seat.offer.isRunning
  entries : ∀ q, Table.holds t.roster.entries q = Table.holds s.roster.entries q
  phase : t.phase = s.phase
  demand : { t.demand with active := false, repeatTimer := .stopped } = { s.demand with active := false, repeatTimer := .stopped }
  analogs : t.sensor.analogs = s.sensor.analogs
  moving : t.sensor.moving = s.sensor.moving
  motion : t.sensor.table = s.sensor.table
  view : t.sensor.view = s.sensor.view
  bodies : t.body.channels = s.body.channels

/-- Two states agree in all that the judgements read and write. -/
structure SameJudged (s t : State) : Prop extends SameInputs s t where
  marker : t.seat.fallbackMark = s.seat.fallbackMark
  lamps : t.lamps = s.lamps
  rear : t.rear = s.rear

/-- All that is derived but the lit states agrees with its inputs. -/
structure SetsSettled (s : State) : Prop where
  view : s.sensor.view = s.viewDue
  hazard : s.demand.hazard = s.hazardDue
  own : s.demand.own = s.contribution
  fallback : s.demand.fallback = s.fallbackDue
  eff : s.demand.eff = s.effective
  gateL : s.demand.gateL.agrees s.joined (s.demand.eff.asks .turnL) s.phase.singleLit
  gateR : s.demand.gateR.agrees s.joined (s.demand.eff.asks .turnR) s.phase.singleLit
  gateB : s.demand.gateB.agrees s.joined (s.demand.eff.asks .beacon) s.phase.doubleLit
  offer : s.seat.offer.isRunning = s.offerDue
  runs : ∀ n ∈ bodyNumbers, (s.bodyChannel n).running = true →
    s.joined = true ∧ ((s.bodyCfg n).motionInhibited = true → s.sensor.view = false) ∧
      ((s.bodyCfg n).parkRequired = true → s.demand.eff.park = true)

variable {s} in
theorem Settled.sets (h : Settled s) : SetsSettled s :=
  ⟨h.view, h.hazard, h.own, h.fallback, h.eff, h.gateL, h.gateR, h.gateB, h.offer, h.runs⟩

variable {s} in
theorem SetsSettled.congr {t : State} (h : SetsSettled s) (k : SameInputs s t) : SetsSettled t := by
  have hd := k.demand
  have hown : t.demand.own = s.demand.own := (congrArg Merger.own hd :)
  have hhaz : t.demand.hazard = s.demand.hazard := (congrArg Merger.hazard hd :)
  have heff : t.demand.eff = s.demand.eff := (congrArg Merger.eff hd :)
  have hfb : t.demand.fallback = s.demand.fallback := (congrArg Merger.fallback hd :)
  have hgl : t.demand.gateL = s.demand.gateL := (congrArg Merger.gateL hd :)
  have hgr : t.demand.gateR = s.demand.gateR := (congrArg Merger.gateR hd :)
  have hgb : t.demand.gateB = s.demand.gateB := (congrArg Merger.gateB hd :)
  have hlev : t.demand.levels = s.demand.levels := (congrArg Merger.levels hd :)
  have hhol : t.demand.holds = s.demand.holds := (congrArg Merger.holds hd :)
  have htab : t.demand.table = s.demand.table := (congrArg Merger.table hd :)
  have hj : t.joined = s.joined := by simp only [State.joined, k.stage]
  have hv : t.serving = s.serving := by simp only [State.serving, k.stage]
  have hbr : t.brakeOn = s.brakeOn := by simp only [State.brakeOn, k.profile, k.analogs]
  exact
    { view := by rw [k.view, h.view]; simp only [State.viewDue, k.moving, k.motion]
      hazard := by rw [hhaz, h.hazard]; simp only [State.hazardDue, k.profile, k.bodies]
      own := by rw [hown, h.own]; simp only [State.contribution, k.profile, hlev, hhol, hhaz]
      fallback := by rw [hfb, h.fallback]; simp only [State.fallbackDue, hv, k.profile, htab]
      eff := by rw [heff, h.eff]; simp only [State.effective, State.fallbackShare, hown, htab, hfb, hbr]
      gateL := by rw [hgl, hj, heff, k.phase]; exact h.gateL
      gateR := by rw [hgr, hj, heff, k.phase]; exact h.gateR
      gateB := by rw [hgb, hj, heff, k.phase]; exact h.gateB
      offer := by rw [k.offer, h.offer]; simp only [State.offerDue, hv, k.presIn, k.ownSeat, k.entries]
      runs := fun n hn => by
        have hb : t.bodyChannel n = s.bodyChannel n := by simp only [State.bodyChannel, k.bodies]
        have hc : t.bodyCfg n = s.bodyCfg n := by simp only [State.bodyCfg, k.profile]
        rw [hb, hc, hj, k.view, heff]
        exact h.runs n hn }

variable {s} in
/-- Agreement looks at nothing else. -/
theorem Settled.congr {t : State} (h : Settled s) (k : SameJudged s t) : Settled t := by
  have hd := k.demand
  have hcall (n : Nat) : t.calledFor n = s.calledFor n :=
    calledFor_congr k.profile k.stage k.marker k.phase (congrArg Merger.eff hd :) (congrArg Merger.gateL hd :)
      (congrArg Merger.gateR hd :) (congrArg Merger.gateB hd :) (by rw [k.lamps]) (by rw [k.rear]) k.analogs n
  obtain ⟨h1, h2, h3, h4, h5, h6, h7, h8, h9, h10⟩ := h.sets.congr k.toSameInputs
  exact ⟨h1, h2, h3, h4, h5, h6, h7, h8, fun n c hc => by rw [hcall]; exact h.lit n c (by rw [← k.lamps]; exact hc),
    fun n c hc => by rw [hcall]; exact h.waiting n c (by rw [← k.lamps]; exact hc), h9, h10⟩

/-- What holds before the effective demand is worked out for good: the view, the own contribution, fallback and the runs agree. -/
structure OwnJudged (s : State) : Prop extends OwnAgrees s where
  view : s.sensor.view = s.viewDue
  fallback : s.demand.fallback = s.fallbackDue
  runs : ∀ n ∈ bodyNumbers, (s.bodyChannel n).running = true →
    s.joined = true ∧ ((s.bodyCfg n).motionInhibited = true → s.sensor.view = false) ∧
      ((s.bodyCfg n).parkRequired = true → s.effective.park = true)

/-- The judgements up to the second one of the own contribution. -/
def judgeSets (s : State) : State :=
  judgeOwn <| endPark <| judgeEff <| judgeFallback <| judgeOwn <| endMotion <| endWithdrawn <| judgeView s

theorem judgeSets_judged : OwnJudged (judgeSets s) ∧
    (judgeSets s).sensor = (judgeView s).sensor ∧ (judgeSets s).lamps = s.lamps ∧ (judgeSets s).seat = s.seat := by
  unfold judgeSets
  generalize hu0 : judgeView s = u0
  obtain ⟨k1, r1⟩ := endWithdrawn_keeps u0
  obtain ⟨k2, r2⟩ := endMotion_keeps (endWithdrawn u0)
  generalize endMotion (endWithdrawn u0) = u3 at k2 r2 ⊢
  obtain ⟨k4, b4, a4⟩ := judgeOwn_keeps u3
  generalize judgeOwn u3 = u4 at k4 b4 a4 ⊢
  have k5 := unfaulted_fields (judgeFallback_keeps u4)
  generalize judgeFallback u4 = u5 at k5 ⊢
  obtain ⟨-, -, l5, -, s5, -, d5, p5, -, e5, -, -, -, -, b5, -⟩ := k5
  obtain ⟨k7, r7⟩ := endPark_keeps (judgeEff u5)
  generalize endPark (judgeEff u5) = u7 at k7 r7 ⊢
  obtain ⟨k8, b8, a8⟩ := judgeOwn_keeps u7
  generalize judgeOwn u7 = u8 at k8 b8 a8 ⊢
  have k03 := (k1.trans k2).trans k4
  have k58 := k7.trans k8
  obtain ⟨hv, ho, ht, he, hf, -⟩ := k58.demand_fields
  have hl : u8.loader = u5.loader := k58.loader
  have hs : u8.seat = u0.seat := k58.seat.trans (s5.trans k03.seat)
  have hsen : u8.sensor = u0.sensor := k58.sensor.trans (e5.trans k03.sensor)
  have hl0 : u5.loader = u0.loader := l5.trans k03.loader
  have a5 : OwnAgrees u5 := a4.congr l5 b5 (by rw [d5]) (by rw [d5]) (by rw [d5]) (by rw [d5])
  have hfd5 : u5.demand.fallback = u5.fallbackDue := by
    rw [d5]; simp only [State.fallbackDue, State.serving, l5, s5, d5]
  have hpark : u8.effective.park = u5.effective.park :=
    k58.effective_park (a5.congr rfl rfl rfl rfl rfl rfl) a8
  refine ⟨{ toOwnAgrees := a8, view := ?_, fallback := ?_, runs := ?_ }, hsen, ?_, ?_⟩
  · simp only [State.viewDue, hsen]
    subst hu0; rfl
  · rw [hf]
    simp only [State.fallbackDue, State.serving, hl, ht, show u8.seat = u5.seat from k58.seat]
    exact hfd5
  · intro n hn hr
    have hb8 : u8.bodyChannel n = u7.bodyChannel n := by simp only [State.bodyChannel, b8]
    have hc (v : State) (h : v.loader = u0.loader) : v.bodyCfg n = u0.bodyCfg n := by simp only [State.bodyCfg, h]
    have hb65 : (judgeEff u5).bodyChannel n = u5.bodyChannel n := rfl
    have hb53 : u5.bodyChannel n = u3.bodyChannel n := by simp only [State.bodyChannel, b5, b4]
    rw [hb8, r7 n hn, hb65, hb53, r2 n hn, r1 n hn, hc _ (k1.loader), hc (judgeEff u5) hl0, k1.sensor] at hr
    simp only [Bool.and_eq_true, Bool.not_eq_true', Bool.and_eq_false_iff] at hr
    obtain ⟨⟨⟨-, hj⟩, hm⟩, hp⟩ := hr
    rw [hc u8 (hl.trans hl0), hsen, hpark]
    refine ⟨?_, fun h => ?_, fun h => ?_⟩
    · simpa only [State.joined, hs] using hj
    · rcases hm with hm | hm
      · exact hm
      · rw [h] at hm; cases hm
    · rcases hp with hp | hp
      · simpa [judgeEff] using hp
      · rw [h] at hp; cases hp
  · exact k58.lamps.trans (p5.trans (k03.lamps.trans (by subst hu0; rfl)))
  · exact hs.trans (by subst hu0; rfl)

/-- The judgement of the offer touches its timer and the queue only, and makes the timer run exactly while the condition holds (R12). -/
theorem judgeOffer_keeps :
    (judgeOffer s).unqueued = State.unqueued { s with seat := { s.seat with offer := (judgeOffer s).seat.offer } } ∧
    (judgeOffer s).seat.offer.isRunning = s.offerDue := by
  unfold judgeOffer
  split
  · next h =>
    split
    · next hr => exact ⟨rfl, hr.trans h.symm⟩
    · refine ⟨?_, h.symm⟩
      have := offer_unqueued s (.seatOffer (s.seat.ownSeat + 1))
      exact congrArg (fun t : State => { t with seat := { t.seat with offer := Timer.start Config.offerMs } }) this
  · next h =>
    split
    · exact ⟨rfl, by simpa using (Bool.eq_false_iff.mpr h).symm⟩
    · next hr => exact ⟨rfl, (Bool.eq_false_iff.mpr hr).trans (Bool.eq_false_iff.mpr h).symm⟩

theorem settle_eq : settle s = (judgeOffer <| judgeLamps <| judgeGates <| judgeEff <| judgeSets s) := rfl

/-- Once its judgements have been made all derived state agrees with its inputs. -/
theorem settle_settled : Settled (settle s) := by
  rw [settle_eq]
  obtain ⟨h8, -⟩ := judgeSets_judged s
  generalize judgeSets s = u8 at h8 ⊢
  generalize hu9 : judgeEff u8 = u9
  have heff : u9.demand.eff = u9.effective := by subst hu9; rfl
  generalize hu10 : judgeGates u9 = u10
  generalize hu11 : judgeLamps u10 = u11
  obtain ⟨hq, ho⟩ := judgeOffer_keeps u11
  obtain ⟨-, -, l, -, st, ph, d, la, re, se, -, -, -, ent, -, -, bo, -⟩ := unqueued_fields hq
  refine Settled.congr (s := { u11 with seat := { u11.seat with offer := (judgeOffer u11).seat.offer } }) ?_
    ⟨⟨by rw [l], by rw [st], by rw [st], by rw [st], by rw [st], by rw [ent]; exact fun _ => rfl, ph, by rw [d],
      by rw [se], by rw [se], by rw [se], by rw [se], bo⟩, by rw [st], la, re⟩
  have hcall (n : Nat) : u11.calledFor n = u10.calledFor n := by
    subst hu11; exact calledFor_congr rfl rfl rfl rfl rfl rfl rfl rfl rfl rfl rfl n
  have hjudged (n : Nat) (c : Channel) (hc : nth u11.lamps.channels n = some c) :
      ∃ c' : Channel, c = c'.judge (u10.functionOf n) (u10.calledFor n) := by
    subst hu11
    simp only [judgeLamps, setChannels, nth_judgeFrom, Option.map_eq_some_iff] at hc
    obtain ⟨c', -, rfl⟩ := hc
    exact ⟨c', by simp⟩
  have hsame : SameBut u8 u8 := .refl u8
  exact
    { view := by subst hu11 hu10 hu9; exact h8.view
      hazard := by subst hu11 hu10 hu9; exact h8.hazard
      own := by subst hu11 hu10 hu9; exact h8.own
      fallback := by subst hu11 hu10 hu9; exact h8.fallback
      eff := by subst hu11 hu10; exact heff
      gateL := by subst hu11 hu10; exact Gate.judge_agrees ..
      gateR := by subst hu11 hu10; exact Gate.judge_agrees ..
      gateB := by subst hu11 hu10; exact Gate.judge_agrees ..
      lit := fun n c hc => by
        obtain ⟨c', rfl⟩ := hjudged n c hc
        exact (hcall n).symm ▸ (Channel.judge_lit ..).1
      waiting := fun n c hc => by
        obtain ⟨c', rfl⟩ := hjudged n c hc
        exact (hcall n).symm ▸ (Channel.judge_lit ..).2
      offer := ho
      runs := fun n hn hr => by subst hu11 hu10 hu9; exact h8.runs n hn hr }

/-! ### A state in agreement -/

/-- Judging channels that agree leaves them. -/
theorem judgeFrom_of_agrees (k : Nat) (l : List Channel)
    (h : ∀ n c, nth l n = some c → c.judge (s.functionOf (k + n - 1)) (s.calledFor (k + n - 1)) = c) :
    judgeFrom s k l = l := by
  apply List.ext_getElem?
  intro n
  have hn := nth_judgeFrom s k l (n + 1)
  simp only [nth] at hn
  rw [hn]
  cases hl : l[n]? with
  | none => rfl
  | some c => simpa using h (n + 1) c hl

/-- Writing the channels' records back as they are leaves the retention record. -/
theorem mirrorChannels_self (l : List Channel) (r : List (Health × Nat)) : mirrorChannels l l r = r := by
  induction l generalizing r with
  | nil => simp [mirrorChannels]
  | cons c l ih => cases r <;> simp [mirrorChannels, ih]

variable {s}

/-- Where all but the lit states agrees with its inputs, the judgements come to those of the lamps. -/
theorem settle_of_sets (h : SetsSettled s) : settle s = judgeLamps s := by
  have hview : judgeView s = s := by
    have hv : s.viewDue = s.sensor.view := h.view.symm
    rw [State.viewDue] at hv
    simp only [judgeView, hv]
  have hwith : endWithdrawn s = s := by
    unfold endWithdrawn
    split
    · rfl
    · next hj => exact endRuns_none s _ _ fun n hn _ => by simpa using fun hr => hj (h.runs n hn hr).1
  have hmotion : endMotion s = s := by
    unfold endMotion
    split
    · next hv =>
      refine endRuns_none s _ _ fun n hn hm => ?_
      by_contra hr
      have := (h.runs n hn (by simpa using hr)).2.1 hm
      simp [hv] at this
    · rfl
  have hown : judgeOwn s = s := by
    simp only [judgeOwn]
    rw [if_pos]
    refine ⟨h.hazard.symm, ?_⟩
    rw [← h.hazard]
    exact h.own.symm
  have hfall : judgeFallback s = s := by
    simp only [judgeFallback]
    rw [if_pos h.fallback.symm]
  have heff : judgeEff s = s := by simp only [judgeEff, ← h.eff]
  have hpark : endPark s = s := by
    unfold endPark
    split
    · rfl
    · next hp =>
      refine endRuns_none s _ _ fun n hn hm => ?_
      by_contra hr
      exact hp ((h.runs n hn (by simpa using hr)).2.2 hm)
  have hgates : judgeGates s = s := by
    simp only [judgeGates, Gate.judge_of_agrees h.gateL, Gate.judge_of_agrees h.gateR, Gate.judge_of_agrees h.gateB]
  have hoffer : judgeOffer (judgeLamps s) = judgeLamps s := by
    have hs : (judgeLamps s).seat.offer.isRunning = (judgeLamps s).offerDue := h.offer
    unfold judgeOffer
    rw [← hs]
    cases (judgeLamps s).seat.offer.isRunning <;> simp
  unfold settle
  rw [hview, hwith, hmotion, hown, hfall, heff, hpark, hown, heff, hgates, hoffer]

/-- A state in agreement is left as it is by every judgement. -/
theorem settle_of_settled (h : Settled s) : settle s = s := by
  rw [settle_of_sets h.sets]
  have hl : judgeFrom s 1 s.lamps.channels = s.lamps.channels := judgeFrom_of_agrees s 1 _ fun n c hc => by
    have := Channel.judge_of_agrees (f := s.functionOf n) (h.lit n c hc) (h.waiting n c hc)
    simpa using this
  simp only [judgeLamps, hl, setChannels, mirrorChannels_self]

end Sys2Proof.Machine
end

section
/-! SUPPORT. What is called for, by stage and function (section 5.2), and the agreement that every command keeps. -/

namespace Sys2Proof.Machine

variable (s : State)

/-! ### Called for -/

theorem brakeOn_iff : s.brakeOn = true ↔ ∃ m cfg a, nth s.loader.profile.analog m = some cfg ∧
    nth s.sensor.analogs m = some a ∧ cfg.inUse = true ∧ cfg.brake = true ∧ a.on = true := by
  simp only [State.brakeOn, List.any_eq_true, Bool.and_eq_true]
  constructor
  · rintro ⟨⟨cfg, a⟩, hm, ⟨hu, hb⟩, ho⟩
    obtain ⟨i, hi⟩ := List.mem_iff_getElem?.mp hm
    rw [List.getElem?_zip_eq_some] at hi
    exact ⟨i + 1, cfg, a, hi.1, hi.2, hu, hb, ho⟩
  · rintro ⟨m, cfg, a, hc, ha, hu, hb, ho⟩
    match m with
    | 0 => cases hc
    | i + 1 => exact ⟨(cfg, a), List.mem_iff_getElem?.mpr ⟨i, List.getElem?_zip_eq_some.mpr ⟨hc, ha⟩⟩, ⟨hu, hb⟩, ho⟩

/-- The fallback set (R96, R137). -/
theorem fallbackCalls_iff (f : LampFn) :
    s.fallbackCalls f = true ↔ f = .tail ∨ f = .marker ∨ (f = .stop ∧ s.brakeOn = true) := by
  cases f <;> simp [State.fallbackCalls]

/-- The steady functions asked for (R94, R97). -/
theorem steadyCalls_iff (f : LampFn) :
    s.steadyCalls f = true ↔
      ((f = .tail ∨ f = .plate ∨ f = .marker) ∧ s.demand.eff.tail = true ∨ f = .stop ∧ s.demand.eff.stop = true ∨
        f = .reverse ∧ s.demand.eff.reverse = true ∨ f = .rearFog ∧ s.demand.eff.rearFog = true ∨
        f = .work ∧ s.demand.eff.work = true) ∧
      (f = .reverse ∨ f = .rearFog ∨ f = .plate → s.rear.status ≠ .none) := by
  have hl : s.rear.status.lighting = true ↔ s.rear.status ≠ .none := by cases s.rear.status <;> simp [RearStatus.lighting]
  cases f <;> simp [State.steadyCalls, LampFn.isFlash, LampFn.isRear, DemandSet.asks, hl]

theorem Gate.open_iff (g : Gate) : g.open = true ↔ g = .running ∨ g = .ending := by cases g <;> simp [Gate.open]

/-- The flash functions in a lit part of their pattern (R95). -/
theorem flashCalls_iff (f : LampFn) :
    s.flashCalls f = true ↔
      ((f = .turnL ∧ (s.demand.gateL = .running ∨ s.demand.gateL = .ending) ∨
          f = .turnR ∧ (s.demand.gateR = .running ∨ s.demand.gateR = .ending)) ∧ s.phase.phi < s.phase.onTime) ∨
      (f = .beacon ∧ (s.demand.gateB = .running ∨ s.demand.gateB = .ending) ∧
        (s.phase.phi < s.phase.burst ∨ (2 * s.phase.burst ≤ s.phase.phi ∧ s.phase.phi < 3 * s.phase.burst))) := by
  cases f <;> simp [State.flashCalls, PhaseUnit.singleLit, PhaseUnit.doubleLit, Gate.open_iff]

theorem pulsed_iff (n : Nat) :
    s.pulsed n = true ↔ ∃ k, s.lamps.check = some k ∧ k.pulse = true ∧ k.todo.head? = some n := by
  unfold State.pulsed
  cases s.lamps.check <;> simp

/-! ### The agreement that commands keep -/

/-- A state with the port's own part and the overflow flag put to fixed values. -/
def State.unported (s : State) : State :=
  { s with port := State.reset.port, faults := { s.faults with overflow := false } }

theorem startItem_unported (p : Nat) : (startItem p s).unported = s.unported := by
  unfold startItem
  split <;> rfl

theorem readItems_unported (fuel n : Nat) : (readItems fuel n s).2.unported = s.unported := by
  induction fuel generalizing s n with
  | zero => rfl
  | succ fuel ih =>
    simp only [readItems]
    split
    · rfl
    · split
      · rfl
      · split
        · exact startItem_unported s _
        · split
          · rw [ih]; exact startItem_unported s _
          · split
            · exact startItem_unported s _
            · rw [ih]; exact startItem_unported s _

theorem portRead_unported (a : BitVec 7) (n : Nat) : (portRead a n s).unported = s.unported := by
  unfold portRead
  split
  · exact readItems_unported s n n
  · rfl

theorem writeRequest_unported (l : List Byte) : (writeRequest l s).unported = s.unported := by
  unfold writeRequest
  split
  · rfl
  · split
    · rfl
    · split
      · rfl
      · split <;> rfl

theorem portWrite_unported (a : BitVec 7) (l : List Byte) : (portWrite a l s).unported = s.unported := by
  unfold portWrite
  split
  · split
    · rfl
    · split
      · exact writeRequest_unported ..
      · split <;> rfl
  · rfl

theorem readAnswer_unported : (readAnswer s).unported = s.unported := by
  unfold readAnswer
  split <;> rfl

/-- A port transaction leaves every other block, and the fault list. -/
theorem unported_fields {s t : State} (h : t.unported = s.unported) :
    t.power = s.power ∧ t.now = s.now ∧ t.loader = s.loader ∧ t.retention = s.retention ∧ t.seat = s.seat ∧
    t.roster = s.roster ∧ t.phase = s.phase ∧ t.demand = s.demand ∧ t.lamps = s.lamps ∧ t.rear = s.rear ∧
    t.sensor = s.sensor ∧ t.body = s.body ∧ t.line = s.line ∧ t.faults.list = s.faults.list :=
  ⟨(congrArg State.power h :), (congrArg State.now h :), (congrArg State.loader h :),
    (congrArg State.retention h :), (congrArg State.seat h :), (congrArg State.roster h :),
    (congrArg State.phase h :), (congrArg State.demand h :), (congrArg State.lamps h :),
    (congrArg State.rear h :), (congrArg State.sensor h :), (congrArg State.body h :), (congrArg State.line h :),
    (congrArg (·.faults.list) h :)⟩

variable {s} {t : State}

theorem Settled.of_unported (h : Settled s) (k : t.unported = s.unported) : Settled t := by
  obtain ⟨-, -, hl, -, hs, hro, hp, hd, hla, hre, hse, hb, -⟩ := unported_fields k
  exact h.congr ⟨⟨by rw [hl], by rw [hs], by rw [hs], by rw [hs], by rw [hs], by rw [hro]; exact fun _ => rfl,
    hp, by rw [hd], by rw [hse], by rw [hse], by rw [hse], by rw [hse], by rw [hb]⟩, by rw [hs], hla, hre⟩

/-- A change outside what the judgements read and write keeps the agreement. -/
theorem Settled.of_line (h : Settled s) (l : LineUnit) : Settled { s with line := l } :=
  h.congr ⟨⟨rfl, rfl, rfl, rfl, rfl, fun _ => rfl, rfl, rfl, rfl, rfl, rfl, rfl, rfl⟩, rfl, rfl, rfl⟩

/-- Every start leaves derived state in agreement. -/
theorem startUp_settled (k : StartKind) (r : Retention) (p : List Instr) (n : Nat) :
    Settled { State.atStart k r with pending := p, freeCount := n } := by
  have hc (n : Nat) (c : Channel) (h : nth (List.replicate 12 Channel.reset) n = some c) : c = Channel.reset := by
    match n with
    | 0 => cases h
    | n + 1 => exact List.eq_of_mem_replicate (List.mem_of_getElem? h)
  have hb (n : Nat) : (State.bodyChannel { State.atStart k r with pending := p, freeCount := n } n).running = false := by
    simp only [State.bodyChannel, State.atStart]
    match n with
    | 0 => rfl
    | n + 1 =>
      simp only [nth]
      cases h : (List.replicate 4 BodyChannel.reset)[n]? with
      | none => rfl
      | some c => rw [List.eq_of_mem_replicate (List.mem_of_getElem? h)]; rfl
  exact
    { view := rfl, hazard := rfl, own := rfl, fallback := rfl, eff := rfl
      gateL := by simp [Gate.agrees, State.atStart, State.joined]
      gateR := by simp [Gate.agrees, State.atStart, State.joined]
      gateB := by simp [Gate.agrees, State.atStart, State.joined]
      lit := fun n c h => by rw [hc n c h]; simp [Channel.reset, State.calledFor, State.atStart]
      waiting := fun n c h => by rw [hc n c h]; simp [Channel.reset]
      offer := rfl
      runs := fun n hn h => by
        have : (State.bodyChannel { State.atStart k r with pending := p, freeCount := n } n).running = true := h
        rw [hb] at this; cases this }

end Sys2Proof.Machine
end

section
/-! SUPPORT. What a command can do, said once: its effect with the guard that admits it, or the few changes that no judgement
follows. -/

namespace Sys2Proof.Machine

/-- Which kind, sender position, payload and effect each command of a received frame stands for; `s` is the state before. -/
inductive ReceivedAs (s : State) : Instr → Nat → Nat → List Byte → (State → State) → Prop where
  | demand {p m f} : ReceivedAs s (.demandReceived p m f) 0 p.toNat [m, f] (takeDemand p.toNat m f)
  | mark {p t d l} : ReceivedAs s (.markReceived p t d l) 1 p.toNat (markBytes t d l)
      fun u => takeMark t.toNat d.toNat l.toNat s.phaseHeard (countFree s.line.reception.isSome u)
  | depart {p l r} : ReceivedAs s (.departReceived p l r) 2 p.toNat [l, r] (takeDepart (positionsOf l))
  | seatOffer {p n} : ReceivedAs s (.seatOfferReceived p n) 3 p.toNat [1, n]
      fun u => if u.mayAccept p.toNat n.toNat then acceptOffer n.toNat u else u
  | seatClaim {p n i b} : ReceivedAs s (.seatClaimReceived p n i b) 3 p.toNat ([2, n] ++ identityBytes i ++ [b])
      fun u =>
        if 1 ≤ n.toNat ∧ n.toNat ≤ 8 then
          takeClaim n.toNat i ((UnitClass.ofCode? (fieldOf b 2 0)).getD .primeMover) (bitOf b 7) (hearClaim n.toNat u)
        else u
  | probe {p n} : ReceivedAs s (.probeReceived p n) 4 p.toNat [1, n]
      fun u => if u.seated && decide (n.toNat < u.seat.ownSeat) then offer (.probePresent n.toNat) u else u
  | probePresent {p n} : ReceivedAs s (.probePresentReceived p n) 4 p.toNat [2, n]
      fun u =>
        if u.seat.departure.isRunning && n.toNat == u.seat.ownSeat && decide (u.seat.ownSeat < p.toNat) then
          takePresent p.toNat u
        else u
  | stageChecked {p g f b} : ReceivedAs s (.stageCheckedReceived p g f b) 5 p.toNat [1, g, f, b]
      (modEntry p.toNat fun e =>
        { e with
          check := some { good := g.toNat, failed := f.toNat, complete := bitOf b 0 }
          stage := if e.stage = .joined then .joined else .checked })
  | stageJoined {p n} : ReceivedAs s (.stageJoinedReceived p n) 5 p.toNat [2, n]
      (modEntry p.toNat fun e => { e with stage := .joined, note := .ofCode n.toNat })
  | stageTake {p} : ReceivedAs s (.stageTakeReceived p) 5 p.toNat [3]
      fun u => rearTake p.toNat (noteEntry p.toNat .taken u)
  | stageDecline {p d} : ReceivedAs s (.stageDeclineReceived p d) 5 p.toNat [4, d]
      fun u => rearDecline p.toNat (.ofByte d) (noteEntry p.toNat .declined u)
  | stageYield {p} : ReceivedAs s (.stageYieldReceived p) 5 p.toNat [5] (noteEntry p.toNat .yielded)
  | fault {p c n v b} : ReceivedAs s (.faultReceived p c n v b) 6 p.toNat [c, n, v, b]
      (modEntry p.toNat fun e => { e with fault := some (faultSummaryOf b) })
  | bodyRequest {p t c a g} : ReceivedAs s (.bodyRequestReceived p t c a g) 7 p.toNat [1, t, c, a, g]
      fun u =>
        if u.seated && t.toNat == u.seat.ownSeat then
          if a = 1 then ownRequest c.toNat true g.toNat u
          else if a = 2 then ownRequest c.toNat false g.toNat u
          else u
        else u
  | bodyStatus {p c r o g} : ReceivedAs s (.bodyStatusReceived p c r o g) 7 p.toNat [2, c, r, o, g]
      fun u =>
        if u.body.relay.takes p.toNat c.toNat g.toNat then relayReply (r == 1) (.ofCode o.toNat) u else u
  | profileSegment {p h d} : ReceivedAs s (.profileSegmentReceived p h d) 8 p.toNat (h :: d)
      fun u =>
        if u.seated && p.toNat == u.seat.ownSeat then u
        else takeSegment p.toNat (fieldOf h 7 4) (fieldOf h 3 0) d u
  | reportCounts {p m l} : ReceivedAs s (.reportCountsReceived p m l) 9 p.toNat ([1, m] ++ l.flatMap fun c => bytes2 c.toNat)
      (takeCounts p.toNat (bitOf m 0))
  | reportAnalog {p t l} : ReceivedAs s (.reportAnalogReceived p t l) 9 p.toNat ([2, t] ++ l.flatMap fun v => bytes2 v.toNat) id
  | query {p t c f n} : ReceivedAs s (.queryReceived p t c f n) 10 p.toNat [t, c, f, n]
      fun u =>
        if u.seated && t.toNat == u.seat.ownSeat then takeQuery p.toNat c.toNat f.toNat n.toNat u else u
  | answer {p r c i v d} : ReceivedAs s (.answerReceived p r c i v d) 11 p.toNat ([r, c, i, v] ++ d)
      (takeAnswer p.toNat r.toNat (listedClass c.toNat) i.toNat (.ofCode v.toNat) d)

theorem exec_of_receivedAs {s : State} {c : Instr} {k p : Nat} {d : List Byte} {f : State → State}
    (h : ReceivedAs s c k p d f) : exec c s = receive k p d s f := by
  cases h <;> rfl

/-! ### What a command can do -/

/-- The effect of a command that a running station takes, before the judgements that follow it: the guard that admits it and the
state it makes. -/
inductive Effect : Instr → State → State → Prop where
  | loadDone {s p} : s.readOver = true → Effect (.loadDone p) s (Machine.loadDone p s)
  | seatInRises {s} : Effect (.seatInChange true) s (Machine.seatInRises s)
  | seatInFalls {s} : Effect (.seatInChange false) s (Machine.seatInFalls s)
  | presInRises {s} : Effect .presInAsserted s (Machine.presInRises s)
  | presInFalls {s} : Effect .presInDeasserted s (Machine.presInFalls s)
  | headListenOver {s} : s.seat.headListen.isRunning = true → s.seat.stage = .listen →
      Effect .headListenExpiry s (Machine.headListenOver s)
  | unseatedOver {s} : s.seat.stage = .listen ∨ s.seat.stage = .claiming →
      Effect .unseatedTimerExpiry s (Machine.unseatedOver s)
  | becomeSeated {s} : s.seat.window.isRunning = true → s.seat.stage = .claiming →
      Effect .claimWindowExpiry s (Machine.becomeSeated s)
  | offerOver {s} : s.offerDue = true → Effect .offerTimerExpiry s (Machine.offerOver s)
  | judgeDeparture {s} : s.seated = true → Effect .departureTimerExpiry s (Machine.judgeDeparture s)
  | takeWrap {s} : s.wrapDue = true → Effect .wrap s (Machine.takeWrap s)
  | withdrawMark {s} : Effect .markStale s (Machine.withdrawMark s)
  | syncOver {s} : s.seat.stage = .sync → Effect .syncTimerExpiry s (Machine.syncOver s)
  | litPartEdge {s} : Effect .litPartEdge s s
  | inputChange {s n l} : s.loaded = true → Effect (.demandInputChange n l) s (Machine.inputChange n l s)
  | holdOver {s n} : Effect (.flasherHoldExpiry n) s (setHold n .stopped s)
  | sendDemand {s} : s.serving = true → Effect .demandRepeatExpiry s (Machine.sendDemand s)
  | dropDemand {s p} : Effect (.demandEntryExpiry p) s (Machine.dropDemand p s)
  | pulseEnd {s i v n} : s.pulsedChannel = some n → Effect (.checkPulseEnd i v) s (Machine.pulseEnd n i v s)
  | turnEnd {s} : s.turnDue = true → Effect .checkTurnEnd s (Machine.turnEnd s)
  | checkTrip {s n i} : s.tripDue n i = true → s.seat.stage = .checking → Effect (.lampTrip n i) s (Machine.checkTrip n s)
  | serviceTrip {s n i} : s.tripDue n i = true → s.seat.stage ≠ .checking →
      Effect (.lampTrip n i) s (Machine.serviceTrip n s)
  | steadySample {s n i v} : s.steadyDue n = true → Effect (.steadySample n i v) s (sampleAt n i v s)
  | flashSample {s n i v} : s.flashDue n = true → Effect (.flashSample n i v) s (sampleAt n i v s)
  | restOver {s n} : (s.channel n).short = .resting → Effect (.restTimerExpiry n) s (Machine.restOver n s)
  | provingOver {s n} : (s.channel n).short = .proving → Effect (.provingTimerExpiry n) s (Machine.provingOver n s)
  | conversion {s l} : s.loaded = true → Effect (.analogConversion l) s (Machine.conversion l s)
  | edge {s n l} : s.loaded = true → Effect (.pulseEdge n l) s (Machine.edge n l s)
  | wheelOver {s} : Effect .wheelTimerExpiry s (Machine.wheelOver s)
  | staleEntry {s p} : Effect (.motionEntryStale p) s (Machine.staleEntry p s)
  | queueCounts {s} : s.serving = true → Effect .countsTimerExpiry s (Machine.queueCounts s)
  | queueAnalog {s} : s.serving = true → Effect .analogTimerExpiry s (Machine.queueAnalog s)
  | runOver {s n} : Effect (.runTimerExpiry n) s (endRun .timedOut s n)
  | bodyTrip {s n} : Effect (.bodyDriverTrip n) s (Machine.bodyTrip n s)
  | relayExpiry {s} : Effect .relayReplyExpiry s (Machine.relayExpiry s)
  | frameStart {s} : s.mayStart = true → Effect .frameStart s (noteStart false (startHead s))
  | loseArbitration {s} : s.mayDiffer true = true → Effect .arbitrationLost s (Machine.loseArbitration s)
  | driveFault {s} : s.mayDiffer false = true → Effect .driveFault s (Machine.driveFault s)
  | enableDriver {s} : Effect .disableTimerExpiry s (Machine.enableDriver s)
  | frameSent {s x} : s.inFlight = some x → Effect .frameSent s (sendEnd x s)
  | lineStuck {s} : Effect .lineStuck s (Machine.lineStuck s)
  | lineFreed {s} : s.line.state = .stuck → Effect .lineStuckCleared s (Machine.lineFreed s)
  | frameDiscarded {s bits} : Effect (.frameDiscarded bits) s (countMalformed { s with line := s.line.readOther bits })
  | received {s c k p d} {f : State → State} : frameValid s.phase.period k p d = true → ReceivedAs s c k p d f →
      Effect c s (f (frameHeard k p d s))
  | queryExpiry {s q} : s.port.query = some q → Effect .queryReplyExpiry s (Machine.queryExpiry q s)
  | slotTake {s r} : s.port.slot = some r → Effect .slotTake s (takeRequest r (emptySlot s))
  | markInstant {s} : s.inFlight = none → Effect .markInstant s (noteStart true s)
  | lineIdle {s} : s.inFlight = none → Effect .lineIdle s (lineQuiet s)

/-- What a command changes that no judgement follows: the supply's events, a read attempt, a frame discarded or read so far, and the
port's transactions. -/
inductive Unjudged : Instr → State → State → Prop where
  | startUp {s} (k : StartKind) : s.power ≠ .running → Unjudged .start s (Machine.startUp k s)
  | stopStation {s} : s.power = .running → Unjudged .brownOut s (Machine.stopStation s)
  | supplyLost {s} : s.power = .running → Unjudged .supplyLost s (loseSupply (Machine.stopStation s))
  | stoppedLost {s} : s.power ≠ .running → Unjudged .supplyLost s (loseSupply s)
  | readAttempt {s b} : s.mayRead = true → Unjudged (.profileReadAttempt b) s (Machine.readAttempt b s)
  | discarded {s c k p d f} : ReceivedAs s c k p d f →
      Unjudged c s (countMalformed { s with line := s.line.heard k p d })
  | readSoFar {s bits} : s.readingOn bits = true → Unjudged (.frameDiscarded bits) s (Machine.readSoFar bits s)
  | port {s c t} : (∀ u v, stageMove c u v = false) → restarts c s = false → t.unported = s.unported → Unjudged c s t

/-- What a command answers: the state as it is, a change no judgement follows, or an effect with the judgements after it. -/
inductive Answers : Instr → State → State → Prop where
  | same {c s} : Answers c s s
  | unjudged {c s t} : Unjudged c s t → Answers c s t
  | judged {c s u} : s.power = .running → Effect c s u → Answers c s (settle u)

theorem Answers.of_takeIf {c : Instr} {s : State} {b : Bool} {f : State → State} (hr : s.power = .running)
    (h : b = true → Effect c s (f s)) : Answers c s (takeIf b s f) := by
  cases b
  · exact .same
  · exact .judged hr (h rfl)

theorem Answers.of_whenRunning {c : Instr} {s t : State} {f : State → State}
    (h : s.power = .running → Answers c s (f s)) (he : whenRunning s f = .next t) : Answers c s t := by
  rw [whenRunning] at he
  injection he with he
  subst he
  split
  · next hr => exact h hr
  · exact .same

theorem Answers.of_whenUnit {c : Instr} {s t : State} {top n : Nat} {f : State → State}
    (h : s.power = .running → Answers c s (f s)) (he : whenUnit top n s f = .next t) : Answers c s t := by
  rw [whenUnit] at he
  split at he
  · exact .of_whenRunning h he
  · cases he

theorem Answers.of_receive {c : Instr} {s t : State} {k p : Nat} {d : List Byte} {f : State → State}
    (h : ReceivedAs s c k p d f) (he : receive k p d s f = .next t) : Answers c s t := by
  refine .of_whenRunning (fun hr => ?_) he
  split
  · next hv => exact .judged hr (.received hv h)
  · exact .unjudged (.discarded h)

/-- Every command that does not stop the machine answers in one of these ways. -/
theorem exec_answers {c : Instr} {s t : State} (he : exec c s = .next t) : Answers c s t := by
  cases c
  case start =>
    injection he with he
    subst he
    split
    · exact .same
    · next h => exact .unjudged (.startUp .warm (by simp [h]))
    · next h => exact .unjudged (.startUp .cold (by simp [h]))
  case brownOut => exact .of_whenRunning (fun hr => .unjudged (.stopStation hr)) he
  case supplyLost =>
    injection he with he
    subst he
    split
    · next hr => exact .unjudged (.supplyLost hr)
    · next hr => exact .unjudged (.stoppedLost hr)
  case profileReadAttempt b =>
    refine .of_whenRunning (fun hr => ?_) he
    split
    · next h => exact .unjudged (.readAttempt h)
    · exact .same
  case loadDone => exact .of_whenRunning (fun hr => .of_takeIf hr .loadDone) he
  case seatInChange l =>
    cases l
    · exact .of_whenRunning (fun hr => .of_takeIf hr fun _ => .seatInFalls) he
    · exact .of_whenRunning (fun hr => .of_takeIf hr fun _ => .seatInRises) he
  case presInAsserted => exact .of_whenRunning (fun hr => .of_takeIf hr fun _ => .presInRises) he
  case presInDeasserted => exact .of_whenRunning (fun hr => .of_takeIf hr fun _ => .presInFalls) he
  case headListenExpiry =>
    refine .of_whenRunning (fun hr => .of_takeIf hr fun h => ?_) he
    simp only [Bool.and_eq_true, beq_iff_eq] at h
    exact .headListenOver h.1 h.2
  case unseatedTimerExpiry =>
    refine .of_whenRunning (fun hr => .of_takeIf hr fun h => ?_) he
    simp only [Bool.and_eq_true, Bool.or_eq_true, beq_iff_eq] at h
    exact .unseatedOver h.2
  case claimWindowExpiry =>
    refine .of_whenRunning (fun hr => .of_takeIf hr fun h => ?_) he
    simp only [Bool.and_eq_true, beq_iff_eq] at h
    exact .becomeSeated h.1 h.2
  case offerTimerExpiry => exact .of_whenRunning (fun hr => .of_takeIf hr fun h => .offerOver (Bool.and_eq_true_iff.mp h).2) he
  case departureTimerExpiry =>
    exact .of_whenRunning (fun hr => .of_takeIf hr fun h => .judgeDeparture (Bool.and_eq_true_iff.mp h).2) he
  case wrap => exact .of_whenRunning (fun hr => .of_takeIf hr .takeWrap) he
  case markStale => exact .of_whenRunning (fun hr => .of_takeIf hr fun _ => .withdrawMark) he
  case syncTimerExpiry =>
    refine .of_whenRunning (fun hr => .of_takeIf hr fun h => ?_) he
    simp only [Bool.and_eq_true, beq_iff_eq] at h
    exact .syncOver h.2
  case litPartEdge => exact .of_whenRunning (fun hr => .of_takeIf hr fun _ => .litPartEdge) he
  case demandInputChange =>
    exact .of_whenUnit (fun hr => .of_takeIf hr fun h => .inputChange (Bool.and_eq_true_iff.mp h).1) he
  case flasherHoldExpiry => exact .of_whenUnit (fun hr => .of_takeIf hr fun _ => .holdOver) he
  case demandRepeatExpiry =>
    exact .of_whenRunning (fun hr => .of_takeIf hr fun h => .sendDemand (Bool.and_eq_true_iff.mp h).2) he
  case demandEntryExpiry => exact .of_whenUnit (fun hr => .of_takeIf hr fun _ => .dropDemand) he
  case checkPulseEnd i v =>
    unfold exec execCheckPulseEnd at he
    refine .of_whenRunning (fun hr => ?_) he
    split
    · exact .same
    · next h => exact .of_takeIf hr fun _ => .pulseEnd h
  case checkTurnEnd => exact .of_whenRunning (fun hr => .of_takeIf hr .turnEnd) he
  case lampTrip n i =>
    refine .of_whenUnit (fun hr => ?_) he
    split
    · next hc => exact .of_takeIf hr fun h => .checkTrip h hc
    · next hc => exact .of_takeIf hr fun h => .serviceTrip h hc
  case steadySample => exact .of_whenUnit (fun hr => .of_takeIf hr .steadySample) he
  case flashSample => exact .of_whenUnit (fun hr => .of_takeIf hr .flashSample) he
  case restTimerExpiry =>
    refine .of_whenUnit (fun hr => .of_takeIf hr fun h => ?_) he
    simp only [Bool.and_eq_true, beq_iff_eq] at h
    exact .restOver h.2
  case provingTimerExpiry =>
    refine .of_whenUnit (fun hr => .of_takeIf hr fun h => ?_) he
    simp only [Bool.and_eq_true, beq_iff_eq] at h
    exact .provingOver h.2
  case analogConversion =>
    exact .of_whenRunning (fun hr => .of_takeIf hr fun h => .conversion (Bool.and_eq_true_iff.mp h).1) he
  case pulseEdge => exact .of_whenUnit (fun hr => .of_takeIf hr fun h => .edge (Bool.and_eq_true_iff.mp h).1) he
  case wheelTimerExpiry => exact .of_whenRunning (fun hr => .of_takeIf hr fun _ => .wheelOver) he
  case motionEntryStale => exact .of_whenUnit (fun hr => .of_takeIf hr fun _ => .staleEntry) he
  case countsTimerExpiry =>
    exact .of_whenRunning (fun hr => .of_takeIf hr fun h => .queueCounts (Bool.and_eq_true_iff.mp h).2) he
  case analogTimerExpiry =>
    exact .of_whenRunning (fun hr => .of_takeIf hr fun h => .queueAnalog (Bool.and_eq_true_iff.mp h).2) he
  case runTimerExpiry => exact .of_whenUnit (fun hr => .of_takeIf hr fun _ => .runOver) he
  case bodyDriverTrip => exact .of_whenUnit (fun hr => .of_takeIf hr fun _ => .bodyTrip) he
  case relayReplyExpiry => exact .of_whenRunning (fun hr => .of_takeIf hr fun _ => .relayExpiry) he
  case frameStart =>
    unfold exec execFrameStart at he
    refine .of_whenRunning (fun hr => ?_) he
    exact .of_takeIf hr fun h => .frameStart h
  case arbitrationLost => exact .of_whenRunning (fun hr => .of_takeIf hr .loseArbitration) he
  case driveFault => exact .of_whenRunning (fun hr => .of_takeIf hr .driveFault) he
  case disableTimerExpiry => exact .of_whenRunning (fun hr => .of_takeIf hr fun _ => .enableDriver) he
  case frameSent =>
    unfold exec execFrameSent at he
    refine .of_whenRunning (fun hr => ?_) he
    split
    · exact .same
    · next h => exact .judged hr (.frameSent h)
  case lineStuck => exact .of_whenRunning (fun hr => .of_takeIf hr fun _ => .lineStuck) he
  case lineStuckCleared =>
    refine .of_whenRunning (fun hr => .of_takeIf hr fun h => ?_) he
    exact .lineFreed (by simpa using h)
  case frameDiscarded bits =>
    unfold exec execFrameDiscarded at he
    refine .of_whenRunning (fun hr => ?_) he
    split
    · exact .judged hr .frameDiscarded
    · split
      · next h => exact .unjudged (.readSoFar h)
      · exact .same
  case queryReplyExpiry =>
    unfold exec execQueryReplyExpiry at he
    refine .of_whenRunning (fun hr => ?_) he
    split
    · exact .same
    · next h => exact .of_takeIf hr fun _ => .queryExpiry h
  case statusPortWrite =>
    exact .of_whenRunning (fun _ => .unjudged (.port (fun _ _ => rfl) rfl (portWrite_unported ..))) he
  case statusPortRead =>
    exact .of_whenRunning (fun _ => .unjudged (.port (fun _ _ => rfl) rfl (portRead_unported ..))) he
  case stationItemRead =>
    unfold exec execStationItemRead at he
    refine .of_whenRunning (fun _ => ?_) he
    split
    · exact .unjudged (.port (fun _ _ => rfl) rfl ((portRead_unported ..).trans rfl))
    · exact .same
  case answerStoreRead =>
    unfold exec execAnswerStoreRead at he
    refine .of_whenRunning (fun _ => ?_) he
    split
    · exact .unjudged (.port (fun _ _ => rfl) rfl (readAnswer_unported ..))
    · exact .same
  case requestBodyStart | requestBodyStop | requestQuery | requestRestart =>
    exact .of_whenRunning (fun _ => .unjudged (.port (fun _ _ => rfl) rfl (portWrite_unported ..))) he
  case slotTake =>
    unfold exec execSlotTake at he
    refine .of_whenRunning (fun hr => ?_) he
    split
    · exact .same
    · next h => exact .judged hr (.slotTake h)
  case markInstant =>
    refine .of_whenRunning (fun hr => .of_takeIf hr fun h => ?_) he
    simp only [Bool.and_eq_true, Option.isNone_iff_eq_none] at h
    exact .markInstant h.2
  case lineIdle =>
    refine .of_whenRunning (fun hr => .of_takeIf hr fun h => ?_) he
    simp only [Bool.and_eq_true, Option.isNone_iff_eq_none] at h
    exact .lineIdle h.2
  case demandReceived => exact .of_receive .demand he
  case markReceived => exact .of_receive .mark he
  case departReceived => exact .of_receive .depart he
  case seatOfferReceived => exact .of_receive .seatOffer he
  case seatClaimReceived => exact .of_receive .seatClaim he
  case probeReceived => exact .of_receive .probe he
  case probePresentReceived => exact .of_receive .probePresent he
  case stageCheckedReceived => exact .of_receive .stageChecked he
  case stageJoinedReceived => exact .of_receive .stageJoined he
  case stageTakeReceived => exact .of_receive .stageTake he
  case stageDeclineReceived => exact .of_receive .stageDecline he
  case stageYieldReceived => exact .of_receive .stageYield he
  case faultReceived => exact .of_receive .fault he
  case bodyRequestReceived => exact .of_receive .bodyRequest he
  case bodyStatusReceived => exact .of_receive .bodyStatus he
  case profileSegmentReceived => exact .of_receive .profileSegment he
  case reportCountsReceived => exact .of_receive .reportCounts he
  case reportAnalogReceived => exact .of_receive .reportAnalog he
  case queryReceived => exact .of_receive .query he
  case answerReceived => exact .of_receive .answer he

end Sys2Proof.Machine

open Sys2Proof Sys2Proof.Machine

/-- Settles O6: one round of judgements makes all derived state agree, and a state in agreement is left as it is. -/
theorem judgementsAgree : Obligations.JudgementsAgree := by
  unfold Obligations.JudgementsAgree
  refine ⟨fun s => ⟨settle_settled s, settle_primary s, settle_of_settled (settle_settled s)⟩, fun s n => ?_⟩
  refine ⟨?_, ?_, ?_, ?_, ?_, ?_, brakeOn_iff s⟩
  · rintro (h | h) <;> simp [State.calledFor, h]
  · rintro (h | h) <;> simp only [State.calledFor, h] <;> exact fallbackCalls_iff s _
  · rintro (h | h) <;> simp only [State.calledFor, h, Bool.and_eq_true, fallbackCalls_iff]
  · intro h
    simp only [State.calledFor, h]
    exact pulsed_iff s n
  · intro h
    simp only [State.calledFor, h]
    exact steadyCalls_iff s _
  · intro h
    simp only [State.calledFor, h, Bool.or_eq_true]
    exact or_congr (steadyCalls_iff s _) (flashCalls_iff s _)

/-- Settles O7: a command ends in a round of judgements, or touches nothing that they read, or starts the station afresh. -/
theorem commandsKeepAgreement : Obligations.CommandsKeepAgreement := by
  unfold Obligations.CommandsKeepAgreement
  intro c s t h he hp
  cases exec_answers he with
  | same => exact h
  | judged _ _ => exact settle_settled _
  | unjudged hu =>
    cases hu with
    | startUp k _ => exact startUp_settled ..
    | stopStation _ | supplyLost _ | stoppedLost _ => cases hp
    | discarded _ => exact h.of_line _
    | readSoFar _ => exact h.of_line _
    | port _ _ hk => exact h.of_unported hk
    | @readAttempt _ b _ =>
      refine h.congr ?_
      unfold readAttempt failedAttempt
      dsimp only
      split
      · split <;> exact ⟨⟨rfl, rfl, rfl, rfl, rfl, fun _ => rfl, rfl, rfl, rfl, rfl, rfl, rfl, rfl⟩, rfl, rfl, rfl⟩
      · exact ⟨⟨rfl, rfl, rfl, rfl, rfl, fun _ => rfl, rfl, rfl, rfl, rfl, rfl, rfl, rfl⟩, rfl, rfl, rfl⟩

end

section
/-! SUPPORT. The small updates that commands are made of, and the moves of the station between its stages and of its frame between
queue and line: every event is a chain of them, so an invariant that each of them keeps is kept by every event. -/

namespace Sys2Proof.Machine

/-- The state with all that the invariants do not speak of put to fixed values. -/
def State.tracked (s : State) : State :=
  { State.reset with
    power := s.power
    now := s.now
    loader := { State.reset.loader with identity := s.loader.identity, profile := s.loader.profile }
    retention := { s.retention with counts := [] }
    seat :=
      { State.reset.seat with
        stage := s.seat.stage, ownSeat := s.seat.ownSeat, rejoin := s.seat.rejoin, claimed := s.seat.claimed
        claim := s.seat.claim, fallbackMark := s.seat.fallbackMark, expiryHeld := s.seat.expiryHeld
        headListen := s.seat.headListen, window := s.seat.window }
    roster := { s.roster with due := false }
    demand := { State.reset.demand with table := s.demand.table }
    lamps := s.lamps
    sensor := { State.reset.sensor with table := s.sensor.table }
    line := s.line
    faults := { s.faults with overflow := false } }

/-- The own entry's identity and fault summary, which its owner alone writes. -/
def RosterEntry.own (e : RosterEntry) : Identity × Option FaultSummary := (e.identity, e.fault)

/-- The counts and runs of the line in their ranges, as `LineOk` has them. -/
structure LineFine (l : LineUnit) : Prop where
  recessive : l.recessive ≤ 200
  dominant : l.dominant ≤ 20
  cutOff : l.cutOff ≤ 6
  malformed : l.malformed ≤ 65535
  overflow : l.overflow ≤ 65535
  driveFaults : l.driveFaults ≤ 3

/-- Three drive faults in a row mean mute. -/
def MuteOk (l : LineUnit) : Prop := l.driveFaults = 3 → l.mute = true

theorem lineOk_iff {s : State} : LineOk s ↔ LineFine s.line ∧ MuteOk s.line :=
  ⟨fun h => ⟨⟨h.recessive, h.dominant, h.cutOff, h.malformed, h.overflow, h.driveFaults⟩, h.mute⟩,
    fun ⟨h, k⟩ => ⟨h.recessive, h.dominant, h.cutOff, h.malformed, h.overflow, h.driveFaults, k⟩⟩

/-- One change that leaves the stage, the seats and the frame on the line as they are. `L` admits a change of channels in LOADING. -/
inductive Quiet (L : Prop) : State → State → Prop where
  | plain {s t} : t.tracked = s.tracked → Quiet L s t
  | trans {s t u} : Quiet L s t → Quiet L t u → Quiet L s u
  | offer {s} (f : Frame) : Quiet L s (Machine.offer f s)
  | withdrawn {s} (p : Entry → Bool) : Quiet L s (s.setQueue (s.line.queue.filter fun e => e.inFlight || !p e))
  | dying {s} (id : Nat) :
      Quiet L s (s.setQueue (s.line.queue.map fun e => if e.id = id ∧ e.inFlight then { e with dying := true } else e))
  | line {s} (l : LineUnit) : l.queue = s.line.queue → l.followOn = s.line.followOn → l.nextId = s.line.nextId →
      (QueueOk s → l.sending = s.line.sending) → (LineFine s.line → LineFine l) → (MuteOk s.line → MuteOk l) →
      Quiet L s { s with line := l }
  | faultAdded {s t} (e : FaultEntry) : Quiet L s t → (s.faults.list.length ≤ 8 → t.faults.list.length < 8) →
      t.hasFault e.code e.subject = false → e.onset = min t.now Config.onsetTop →
      (e.code = .frontLinkLost → t.seated = true) → Quiet L s (setFaultList (t.faults.list ++ [e]) t)
  | faultDropped {s} (x : FaultEntry) : x.code.latched = false →
      Quiet L s (setFaultList (s.faults.list.filter fun y => !(y.code == x.code && y.subject == x.subject)) s)
  | channels {s} (l : List Channel) : l.length = s.lamps.channels.length →
      (∀ (i : Nat) (c c' : Channel), s.lamps.channels[i]? = some c → l[i]? = some c' → c.ok → c'.ok) →
      L ∨ s.loaded = true ∨ l = s.lamps.channels → Quiet L s (setChannels l s)
  | pulseOver {s} :
      Quiet L s { s with lamps := { s.lamps with check := s.lamps.check.map fun c => { c with pulse := false } } }
  | unchecked {s} : Quiet L s { s with lamps := { s.lamps with check := none } }
  | entries {s} (l : Table RosterEntry) : (Table.wf s.roster.entries = true → Table.wf l = true) →
      (s.seated = true → (Table.get l s.seat.ownSeat).map RosterEntry.own =
        (Table.get s.roster.entries s.seat.ownSeat).map RosterEntry.own) →
      Quiet L s { s with roster := { s.roster with entries := l } }
  | reasm {s} (l : Table Collecting) : (Table.wf s.roster.reasm = true → Table.wf l = true) →
      Quiet L s { s with roster := { s.roster with reasm := l } }
  | demandTable {s} (l : Table DemandEntry) : (Table.wf s.demand.table = true → Table.wf l = true) →
      Quiet L s { s with demand := { s.demand with table := l } }
  | motionTable {s} (l : Table MotionEntry) : (Table.wf s.sensor.table = true → Table.wf l = true) →
      Quiet L s { s with sensor := { s.sensor with table := l } }
  | announced {s} (a : Option Sending) :
      (∀ x, a = some x → x.purpose = .initial → s.seat.stage = .profiling ∨
        ∃ y, s.roster.announce = some y ∧ y.purpose = .initial) →
      Quiet L s (setAnnounce a s)
  | headListen {s} : Quiet L s { s with seat := { s.seat with headListen := .stopped } }

theorem Quiet.refl (L : Prop) (s : State) : Quiet L s s := .plain rfl

/-! ### What quiet changes leave -/

/-- Two states agree in power, time, profile, stage and seats. -/
structure Framed (s t : State) : Prop where
  power : t.power = s.power
  now : t.now = s.now
  identity : t.loader.identity = s.loader.identity
  profile : t.loader.profile = s.loader.profile
  valid : t.retention.valid = s.retention.valid
  retainedSeat : t.retention.seat = s.retention.seat
  retainedId : t.retention.identity = s.retention.identity
  stage : t.seat.stage = s.seat.stage
  ownSeat : t.seat.ownSeat = s.seat.ownSeat
  rejoin : t.seat.rejoin = s.seat.rejoin
  claimed : t.seat.claimed = s.seat.claimed
  claim : t.seat.claim = s.seat.claim
  marker : t.seat.fallbackMark = s.seat.fallbackMark
  held : t.seat.expiryHeld = s.seat.expiryHeld
  window : t.seat.window = s.seat.window

theorem Framed.trans {s t u : State} (h : Framed s t) (k : Framed t u) : Framed s u where
  power := k.power.trans h.power
  now := k.now.trans h.now
  identity := k.identity.trans h.identity
  profile := k.profile.trans h.profile
  valid := k.valid.trans h.valid
  retainedSeat := k.retainedSeat.trans h.retainedSeat
  retainedId := k.retainedId.trans h.retainedId
  stage := k.stage.trans h.stage
  ownSeat := k.ownSeat.trans h.ownSeat
  rejoin := k.rejoin.trans h.rejoin
  claimed := k.claimed.trans h.claimed
  claim := k.claim.trans h.claim
  marker := k.marker.trans h.marker
  held := k.held.trans h.held
  window := k.window.trans h.window

theorem Framed.of_tracked {s t : State} (h : t.tracked = s.tracked) : Framed s t where
  power := (congrArg State.power h :)
  now := (congrArg State.now h :)
  identity := (congrArg (·.loader.identity) h :)
  profile := (congrArg (·.loader.profile) h :)
  valid := (congrArg (·.retention.valid) h :)
  retainedSeat := (congrArg (·.retention.seat) h :)
  retainedId := (congrArg (·.retention.identity) h :)
  stage := (congrArg (·.seat.stage) h :)
  ownSeat := (congrArg (·.seat.ownSeat) h :)
  rejoin := (congrArg (·.seat.rejoin) h :)
  claimed := (congrArg (·.seat.claimed) h :)
  claim := (congrArg (·.seat.claim) h :)
  marker := (congrArg (·.seat.fallbackMark) h :)
  held := (congrArg (·.seat.expiryHeld) h :)
  window := (congrArg (·.seat.window) h :)

/-- The tracked blocks that two states share when they agree in what is tracked. -/
theorem tracked_blocks {s t : State} (h : t.tracked = s.tracked) :
    t.retention.channels = s.retention.channels ∧ t.seat.headListen = s.seat.headListen ∧
    t.roster.entries = s.roster.entries ∧ t.roster.reasm = s.roster.reasm ∧ t.roster.announce = s.roster.announce ∧
    t.demand.table = s.demand.table ∧ t.lamps = s.lamps ∧ t.sensor.table = s.sensor.table ∧ t.line = s.line ∧
    t.faults.list = s.faults.list :=
  ⟨(congrArg (·.retention.channels) h :), (congrArg (·.seat.headListen) h :), (congrArg (·.roster.entries) h :),
    (congrArg (·.roster.reasm) h :), (congrArg (·.roster.announce) h :), (congrArg (·.demand.table) h :),
    (congrArg (·.lamps) h :), (congrArg (·.sensor.table) h :), (congrArg (·.line) h :), (congrArg (·.faults.list) h :)⟩

theorem setFaultList_keeps (l : List FaultEntry) (s : State) :
    (setFaultList l s).power = s.power ∧ (setFaultList l s).now = s.now ∧ (setFaultList l s).loader = s.loader ∧
    (setFaultList l s).retention = s.retention ∧ (setFaultList l s).seat = s.seat ∧
    (setFaultList l s).lamps = s.lamps ∧ (setFaultList l s).line = s.line ∧
    (setFaultList l s).faults.list = l ∧ (setFaultList l s).roster.reasm = s.roster.reasm ∧
    (setFaultList l s).roster.announce = s.roster.announce ∧ (setFaultList l s).demand = s.demand ∧
    (setFaultList l s).sensor = s.sensor := by
  unfold setFaultList
  split <;> exact ⟨rfl, rfl, rfl, rfl, rfl, rfl, rfl, rfl, rfl, rfl, rfl, rfl⟩

variable {L : Prop} {s t : State}

theorem Framed.of_eq (hp : t.power = s.power) (hn : t.now = s.now) (hl : t.loader = s.loader)
    (hv : t.retention.valid = s.retention.valid) (hrs : t.retention.seat = s.retention.seat)
    (hri : t.retention.identity = s.retention.identity) (hs : t.seat = s.seat) : Framed s t :=
  ⟨hp, hn, by rw [hl], by rw [hl], hv, hrs, hri, by rw [hs], by rw [hs], by rw [hs], by rw [hs], by rw [hs], by rw [hs],
    by rw [hs], by rw [hs]⟩

theorem framed_setFaultList (l : List FaultEntry) (s : State) : Framed s (setFaultList l s) := by
  simp only [setFaultList]
  split <;> exact .of_eq rfl rfl rfl rfl rfl rfl rfl

theorem Quiet.framed (h : Quiet L s t) : Framed s t := by
  induction h with
  | plain h => exact .of_tracked h
  | trans _ _ ih1 ih2 => exact ih1.trans ih2
  | offer f => exact .of_eq (by simp) (by simp) (by simp) (by simp) (by simp) (by simp) (by simp)
  | faultAdded e _ _ _ _ _ ih => exact ih.trans (framed_setFaultList _ _)
  | faultDropped => exact framed_setFaultList _ _
  | headListen => exact ⟨rfl, rfl, rfl, rfl, rfl, rfl, rfl, rfl, rfl, rfl, rfl, rfl, rfl, rfl, rfl⟩
  | withdrawn | dying | line | channels | pulseOver | unchecked | entries | reasm | demandTable | motionTable | announced =>
    exact .of_eq rfl rfl rfl rfl rfl rfl rfl

theorem Framed.seated (h : Framed s t) : t.seated = s.seated := by simp only [State.seated, h.stage]
theorem Framed.loaded (h : Framed s t) : t.loaded = s.loaded := by simp only [State.loaded, h.stage]
theorem Framed.functionOf (h : Framed s t) (n : Nat) : t.functionOf n = s.functionOf n := by
  simp only [State.functionOf, h.profile]
theorem Framed.assigned (h : Framed s t) (n : Nat) : t.assigned n = s.assigned n := by
  simp only [State.assigned, h.functionOf]
theorem Framed.summaryOf (h : Framed s t) (l : List FaultEntry) : summaryOf t l = summaryOf s l := by
  simp only [Machine.summaryOf, hasLampFault, h.functionOf]

/-! ### What is under way -/

/-- What is under way fits the stage, as `ProgressOk` has it, save that a claim whose expiry is held may be PENDING again while its
event goes on (R15). -/
structure UnderWay (s : State) : Prop where
  claim : s.seat.claim ≠ .none → s.seat.stage = .claiming
  held : s.seat.expiryHeld = true → s.seat.claim = .inFlight ∨ s.seat.claim = .pending
  window : s.seat.window.isRunning = true → s.seat.claim = .window
  initial : ∀ a, s.roster.announce = some a → a.purpose = .initial → s.seat.stage = .profiling
  check : s.lamps.check ≠ none → s.seat.stage = .checking

theorem ProgressOk.underWay (h : ProgressOk s) : UnderWay s :=
  ⟨h.claim, fun e => .inl (h.held e), h.window, h.initial, h.check⟩

/-- A sequence after an offer has the purpose it had before. -/
theorem tellLost_announce (f : Frame) (id : Nat) (a : Sending) (h : (tellLost f id s).roster.announce = some a) :
    ∃ b, s.roster.announce = some b ∧ b.purpose = a.purpose := by
  unfold tellLost at h
  split at h
  · simp only [Option.map_eq_some_iff] at h
    obtain ⟨b, hb, rfl⟩ := h
    exact ⟨b, hb, rfl⟩
  all_goals first
    | exact ⟨a, h, rfl⟩
    | (split at h <;> exact ⟨a, h, rfl⟩)

theorem enterQueue_announce (f : Frame) (id : Nat) (a : Sending) (h : (enterQueue f id s).roster.announce = some a) :
    ∃ b, s.roster.announce = some b ∧ b.purpose = a.purpose := by
  simp only [enterQueue] at h
  split at h
  · exact ⟨a, h, rfl⟩
  · split at h
    · have := tellLost_announce _ _ _ h
      exact this
    · split at h <;> · have := tellLost_announce _ _ _ h; exact this

theorem offer_announce (f : Frame) (a : Sending) (h : (offer f s).roster.announce = some a) :
    ∃ b, s.roster.announce = some b ∧ b.purpose = a.purpose := by
  simp only [offer] at h
  split at h
  · simp only [takeFrame] at h
    split at h
    · split at h
      · have := enterQueue_announce _ _ _ h
        exact this
      · split at h <;> exact ⟨a, h, rfl⟩
    · split at h
      · have := tellLost_announce _ _ _ h
        exact this
      · have := enterQueue_announce _ _ _ h
        exact this
  · exact ⟨a, h, rfl⟩

/-- Quiet changes begin no first announcement outside PROFILING and no check. -/
theorem Quiet.progress (h : Quiet L s t) :
    (∀ a, t.roster.announce = some a → a.purpose = .initial → t.seat.stage = .profiling ∨
      ∃ b, s.roster.announce = some b ∧ b.purpose = .initial) ∧
    (t.lamps.check ≠ none → s.lamps.check ≠ none) := by
  induction h with
  | plain h =>
    obtain ⟨-, -, -, -, ha, -, hl, -⟩ := tracked_blocks h
    exact ⟨fun a hb hp => .inr ⟨a, ha ▸ hb, hp⟩, by rw [hl]; exact id⟩
  | @trans s t u h1 h2 ih1 ih2 =>
    refine ⟨fun a ha hp => ?_, fun hc => ih1.2 (ih2.2 hc)⟩
    obtain h | ⟨b, hb, hp⟩ := ih2.1 a ha hp
    · exact .inl h
    · obtain h | h := ih1.1 b hb hp
      · exact .inl (h2.framed.stage.trans h)
      · exact .inr h
  | offer f =>
    refine ⟨fun a ha hp => ?_, by simp⟩
    obtain ⟨b, hb, he⟩ := offer_announce f a ha
    exact .inr ⟨b, hb, he.trans hp⟩
  | faultAdded e h1 _ _ _ _ ih =>
    simp only [setFaultList_keeps]
    exact ih
  | faultDropped =>
    simp only [setFaultList_keeps]
    exact ⟨fun a ha hp => .inr ⟨a, ha, hp⟩, id⟩
  | announced a h =>
    exact ⟨fun x hx hp => h x hx hp, id⟩
  | pulseOver => exact ⟨fun a ha hp => .inr ⟨a, ha, hp⟩, by simp⟩
  | unchecked => exact ⟨fun a ha hp => .inr ⟨a, ha, hp⟩, by simp⟩
  | withdrawn | dying | line | channels | entries | reasm | demandTable | motionTable | headListen =>
    exact ⟨fun a ha hp => .inr ⟨a, ha, hp⟩, id⟩

theorem Quiet.underWay (h : Quiet L s t) (k : UnderWay s) : UnderWay t := by
  have hf := h.framed
  obtain ⟨ha, hc⟩ := h.progress
  refine ⟨?_, ?_, ?_, fun a h1 h2 => ?_, fun h1 => ?_⟩
  · rw [hf.claim, hf.stage]; exact k.claim
  · rw [hf.held, hf.claim]; exact k.held
  · rw [hf.window, hf.claim]; exact k.window
  · obtain h | ⟨b, hb, hp⟩ := ha a h1 h2
    · exact h
    · rw [hf.stage]; exact k.initial b hb hp
  · rw [hf.stage]; exact k.check (hc h1)

end Sys2Proof.Machine
end

section
/-! SUPPORT. The transmit queue (R182 to R187): what an offer can do to it, and that its order and limits stand. -/

namespace Sys2Proof.Machine

/-! ### What an offer does to the line -/

@[simp] theorem tellLost_line (f : Frame) (id : Nat) (s : State) : (tellLost f id s).line = s.line := by
  unfold tellLost
  split <;> try rfl
  all_goals split <;> rfl

/-- No entry of the frame's replaceable class stands on the queue, and none of its kind where it is queued one at a time. -/
def Frame.newTo (f : Frame) (q : List Entry) : Prop :=
  (f.replaceClass.isSome = true → ∀ e ∈ q, e.frame.replaceClass ≠ f.replaceClass) ∧
  (f.isSequenced = true → ∀ e ∈ q, e.frame.kind ≠ f.kind)

/-- The queue and the held frames after an offer. -/
inductive OfferedQueue (f : Frame) (s : State) : List Entry → List Frame → Prop where
  | same : OfferedQueue f s s.line.queue s.line.followOn
  | entered : s.queueTakes f = true → s.line.queue.length < 8 → f.newTo s.line.queue →
      OfferedQueue f s (insertEntry { id := s.line.nextId, frame := f, inFlight := false, dying := false } s.line.queue)
        s.line.followOn
  | inPlace (x : Entry) : s.queueTakes f = true → x ∈ s.line.queue → x.inFlight = false → f.kind < x.frame.kind →
      f.newTo s.line.queue →
      OfferedQueue f s
        (insertEntry { id := s.line.nextId, frame := f, inFlight := false, dying := false }
          (s.line.queue.filter fun y => y.id != x.id)) s.line.followOn
  | replaced : s.queueTakes f = true → f.replaceClass.isSome = true →
      OfferedQueue f s
        (s.line.queue.map fun x => if x.frame.replaceClass == f.replaceClass then { x with frame := f } else x)
        s.line.followOn
  | held : s.queueTakes f = true → f.replaceClass.isSome = true →
      OfferedQueue f s s.line.queue
        ((s.line.followOn.filter fun g => g.replaceClass != f.replaceClass) ++ [f])

theorem enterQueue_line (f : Frame) (s : State) (n : Nat) (hq : s.queueTakes f = true) (hn : f.newTo s.line.queue) :
    ∃ q fo o, (enterQueue f s.line.nextId { s with line := { s.line with nextId := n } }).line =
        { s.line with queue := q, followOn := fo, overflow := o, nextId := n } ∧
      (o = s.line.overflow ∨ o = bump s.line.overflow) ∧ OfferedQueue f s q fo := by
  simp only [enterQueue]
  split
  · next h => exact ⟨_, _, _, rfl, .inl rfl, .entered hq h hn⟩
  · split
    · exact ⟨_, _, _, by rw [tellLost_line]; rfl, .inr rfl, .same⟩
    · next x hx =>
      split
      · next hk =>
        have hm := List.mem_of_find?_eq_some hx
        have hf := List.find?_some hx
        exact ⟨_, _, _, by rw [tellLost_line]; rfl, .inr rfl,
          .inPlace x hq (List.mem_reverse.mp hm) (by simpa using hf) hk hn⟩
      · exact ⟨_, _, _, by rw [tellLost_line]; rfl, .inr rfl, .same⟩

/-- An offer changes the queue, the held frames, the overflow count and the next entry's number of the line, and nothing else. -/
theorem offer_line (f : Frame) (s : State) :
    ∃ q fo o, (offer f s).line = { s.line with queue := q, followOn := fo, overflow := o, nextId := s.line.nextId + 1 } ∧
      (o = s.line.overflow ∨ o = bump s.line.overflow) ∧ OfferedQueue f s q fo := by
  simp only [offer]
  split
  · next hq =>
    replace hq : s.queueTakes f = true := hq
    simp only [takeFrame]
    split
    · next hc =>
      split
      · next hf =>
        refine enterQueue_line f s _ hq ⟨fun _ e he hE => ?_, fun h => ?_⟩
        · have := List.find?_eq_none.mp hf e he
          simp [hE] at this
        · cases f <;> simp [Frame.replaceClass, Frame.isSequenced] at hc h
      · split
        · exact ⟨_, _, _, rfl, .inl rfl, .held hq hc⟩
        · exact ⟨_, _, _, rfl, .inl rfl, .replaced hq hc⟩
    · next hc =>
      split
      · exact ⟨_, _, _, by rw [tellLost_line], .inl rfl, .same⟩
      · next hs =>
        refine enterQueue_line f s _ hq ⟨fun h => absurd h hc, fun h e he hE => hs ?_⟩
        simp only [h, Bool.true_and, List.any_eq_true]
        exact ⟨e, he, by simp [hE]⟩
  · exact ⟨_, _, _, rfl, .inl rfl, .same⟩

/-! ### Order and limits -/

/-- The order and the limits of a queue whose next entry gets the number `n`: what `QueueOk` says of the queue alone. -/
structure QueueFine (q : List Entry) (n : Nat) : Prop where
  size : q.length ≤ 8
  order : q.Pairwise fun a b => a.frame.kind ≤ b.frame.kind
  oneInFlight : (q.filter fun e => e.inFlight).length ≤ 1
  classes : ∀ c, countFrames (fun f => f.replaceClass == some c) q ≤ 1
  profile : countFrames (fun f => f.kind == 8) q ≤ 1
  answer : countFrames (fun f => f.kind == 11) q ≤ 1
  distinct : q.Pairwise fun a b => a.id ≠ b.id
  fresh : ∀ e ∈ q, e.id < n

theorem queueOk_iff (s : State) :
    QueueOk s ↔ QueueFine s.line.queue s.line.nextId ∧ s.line.sending = s.inFlight.isSome :=
  ⟨fun h => ⟨⟨h.size, h.order, h.oneInFlight, h.classes, h.profile, h.answer, h.distinct, h.fresh⟩, h.onLine⟩,
    fun ⟨h, k⟩ => ⟨h.size, h.order, h.oneInFlight, h.classes, h.profile, h.answer, k, h.distinct, h.fresh⟩⟩

variable {q : List Entry} {n : Nat}

theorem countFrames_sublist {p : Frame → Bool} {l : List Entry} (h : l.Sublist q) :
    countFrames p l ≤ countFrames p q := (h.filter _).length_le

theorem QueueFine.sublist (h : QueueFine q n) {l : List Entry} (k : l.Sublist q) : QueueFine l n where
  size := k.length_le.trans h.size
  order := h.order.sublist k
  oneInFlight := (k.filter _).length_le.trans h.oneInFlight
  classes := fun c => (countFrames_sublist k).trans (h.classes c)
  profile := (countFrames_sublist k).trans h.profile
  answer := (countFrames_sublist k).trans h.answer
  distinct := h.distinct.sublist k
  fresh := fun e he => h.fresh e (k.subset he)

theorem QueueFine.mono (h : QueueFine q n) {m : Nat} (k : n ≤ m) : QueueFine q m :=
  { h with fresh := fun e he => lt_of_lt_of_le (h.fresh e he) k }

theorem countFrames_map (p : Frame → Bool) (g : Entry → Entry) (h : ∀ e ∈ q, p (g e).frame = p e.frame) :
    countFrames p (q.map g) = countFrames p q := by
  rw [countFrames, countFrames, List.filter_map, List.length_map]
  congr 1
  exact List.filter_congr h

/-- A change of entries that keeps their kinds, classes and numbers, and puts none in flight. -/
theorem QueueFine.map (h : QueueFine q n) (g : Entry → Entry) (hk : ∀ e ∈ q, (g e).frame.kind = e.frame.kind)
    (hc : ∀ e ∈ q, (g e).frame.replaceClass = e.frame.replaceClass) (hi : ∀ e ∈ q, (g e).id = e.id)
    (hf : ∀ e ∈ q, (g e).inFlight = true → e.inFlight = true) : QueueFine (q.map g) n where
  size := by simpa using h.size
  order := by
    rw [List.pairwise_map]
    refine h.order.imp_of_mem fun ha hb hab => ?_
    rw [hk _ ha, hk _ hb]; exact hab
  oneInFlight := by
    rw [List.filter_map, List.length_map]
    refine le_trans ?_ h.oneInFlight
    rw [← List.countP_eq_length_filter, ← List.countP_eq_length_filter]
    exact List.countP_mono_left fun e he h1 => hf e he h1
  classes := fun c => by rw [countFrames_map _ g fun e he => by rw [hc e he]]; exact h.classes c
  profile := by rw [countFrames_map _ g fun e he => by rw [hk e he]]; exact h.profile
  answer := by rw [countFrames_map _ g fun e he => by rw [hk e he]]; exact h.answer
  distinct := by
    rw [List.pairwise_map]
    refine h.distinct.imp_of_mem fun ha hb hab => ?_
    rw [hi _ ha, hi _ hb]; exact hab
  fresh := by
    simp only [List.mem_map, forall_exists_index, and_imp, forall_apply_eq_imp_iff₂]
    exact fun e he => by rw [hi e he]; exact h.fresh e he

/-! ### A new entry -/

theorem insertEntry_perm (e : Entry) (q : List Entry) : (insertEntry e q).Perm (e :: q) := by
  induction q with
  | nil => exact .refl _
  | cons x r ih =>
    simp only [insertEntry]
    split
    · exact .refl _
    · exact (ih.cons x).trans (.swap e x r)

theorem mem_insertEntry (e x : Entry) (q : List Entry) : x ∈ insertEntry e q ↔ x = e ∨ x ∈ q := by
  rw [(insertEntry_perm e q).mem_iff, List.mem_cons]

theorem insertEntry_order (e : Entry) (h : q.Pairwise fun a b => a.frame.kind ≤ b.frame.kind) :
    (insertEntry e q).Pairwise fun a b => a.frame.kind ≤ b.frame.kind := by
  induction q with
  | nil => simp [insertEntry]
  | cons x r ih =>
    rw [List.pairwise_cons] at h
    simp only [insertEntry]
    split
    · next hk =>
      rw [List.pairwise_cons, List.pairwise_cons]
      refine ⟨fun a ha => ?_, h⟩
      rcases List.mem_cons.mp ha with rfl | ha
      · omega
      · have := h.1 a ha; omega
    · next hk =>
      rw [List.pairwise_cons]
      refine ⟨fun a ha => ?_, ih h.2⟩
      rcases (mem_insertEntry e a r).mp ha with rfl | ha
      · omega
      · exact h.1 a ha

theorem countFrames_insertEntry (p : Frame → Bool) (e : Entry) :
    countFrames p (insertEntry e q) = (if p e.frame then 1 else 0) + countFrames p q := by
  rw [countFrames, ((insertEntry_perm e q).filter _).length_eq, List.filter_cons, countFrames]
  split <;> simp [Nat.add_comm]

theorem countFrames_eq_zero {p : Frame → Bool} (h : ∀ e ∈ q, p e.frame = false) : countFrames p q = 0 := by
  rw [countFrames, List.length_eq_zero_iff, List.filter_eq_nil_iff]
  simpa using h

theorem kind_isSequenced (f : Frame) : f.isSequenced = true ↔ f.kind = 8 ∨ f.kind = 11 := by
  cases f <;> simp [Frame.isSequenced, Frame.kind]

/-- A frame new to the queue enters it as a pending entry of the next number. -/
theorem QueueFine.insert (h : QueueFine q n) (f : Frame) (hs : q.length < 8) (hn : f.newTo q) :
    QueueFine (insertEntry { id := n, frame := f, inFlight := false, dying := false } q) (n + 1) where
  size := by rw [(insertEntry_perm _ _).length_eq, List.length_cons]; omega
  order := insertEntry_order _ h.order
  oneInFlight := by
    rw [((insertEntry_perm _ q).filter _).length_eq]
    simpa using h.oneInFlight
  classes := fun c => by
    rw [countFrames_insertEntry]
    by_cases hc : f.replaceClass = some c
    · rw [countFrames_eq_zero fun e he => by simpa [hc] using hn.1 (by simp [hc]) e he]
      split <;> omega
    · simpa [hc] using h.classes c
  profile := by
    rw [countFrames_insertEntry]
    by_cases hk : f.kind = 8
    · rw [countFrames_eq_zero fun e he => by simpa [hk] using hn.2 ((kind_isSequenced f).mpr (.inl hk)) e he]
      split <;> omega
    · simpa [hk] using h.profile
  answer := by
    rw [countFrames_insertEntry]
    by_cases hk : f.kind = 11
    · rw [countFrames_eq_zero fun e he => by simpa [hk] using hn.2 ((kind_isSequenced f).mpr (.inr hk)) e he]
      split <;> omega
    · simpa [hk] using h.answer
  distinct := by
    refine ((insertEntry_perm _ q).pairwise_iff (fun hab => Ne.symm hab)).mpr ?_
    exact List.pairwise_cons.mpr ⟨fun e he => (ne_of_lt (h.fresh e he)).symm, h.distinct⟩
  fresh := fun e he => by
    rcases (mem_insertEntry _ e q).mp he with rfl | he
    · exact Nat.lt_succ_self n
    · exact Nat.lt_succ_of_lt (h.fresh e he)

/-- Frames of one replaceable class are of one kind. -/
theorem kind_of_replaceClass {f g : Frame} (h : f.replaceClass = g.replaceClass) (hs : g.replaceClass.isSome = true) :
    f.kind = g.kind := by
  cases f <;> cases g <;> simp_all [Frame.replaceClass, Frame.kind]

theorem offered_fine {f : Frame} {s : State} {l : List Entry} {fo : List Frame} (h : OfferedQueue f s l fo)
    (hq : QueueFine s.line.queue s.line.nextId) : QueueFine l (s.line.nextId + 1) := by
  cases h with
  | same => exact hq.mono (Nat.le_succ _)
  | entered _ hs hn => exact hq.insert f hs hn
  | inPlace x _ hx _ _ hn =>
    have hsub : (s.line.queue.filter fun y => y.id != x.id).Sublist s.line.queue := List.filter_sublist
    refine (hq.sublist hsub).insert f ?_ ⟨fun h e he => hn.1 h e (hsub.subset he), fun h e he => hn.2 h e (hsub.subset he)⟩
    refine lt_of_lt_of_le ?_ hq.size
    exact List.length_filter_lt_length_iff_exists.mpr ⟨x, hx, by simp⟩
  | replaced _ hc =>
    refine (hq.map _ (fun e _ => ?_) (fun e _ => ?_) (fun e _ => ?_) (fun e _ => ?_)).mono (Nat.le_succ _)
    · split
      · next h => exact (kind_of_replaceClass (by simpa using h) hc).symm
      · rfl
    · split
      · next h => exact (by simpa using h : e.frame.replaceClass = f.replaceClass).symm
      · rfl
    · split <;> rfl
    · split <;> exact id
  | held => exact hq.mono (Nat.le_succ _)

theorem distinct_ids {q : List Entry} (h : q.Pairwise fun a b => a.id ≠ b.id) {x y : Entry} (hx : x ∈ q) (hy : y ∈ q)
    (hne : x ≠ y) : x.id ≠ y.id :=
  have : Std.Symm fun a b : Entry => a.id ≠ b.id := ⟨fun _ _ h => Ne.symm h⟩
  h.forall hx hy hne

/-- An offer puts no entry in flight and takes none from the line. -/
theorem offered_inFlight {f : Frame} {s : State} {l : List Entry} {fo : List Frame} (h : OfferedQueue f s l fo)
    (hq : (s.line.queue.Pairwise fun a b => a.id ≠ b.id)) :
    (l.any fun e => e.inFlight) = s.line.queue.any fun e => e.inFlight := by
  have key : ∀ (e : Entry) (r : List Entry), e.inFlight = false →
      ((insertEntry e r).any fun e => e.inFlight) = r.any fun e => e.inFlight := by
    intro e r he
    rw [Bool.eq_iff_iff]
    simp [List.any_eq_true, mem_insertEntry, he]
  cases h with
  | same | held => rfl
  | entered => exact key _ _ rfl
  | inPlace x _ hx hf =>
    rw [key _ _ rfl, Bool.eq_iff_iff]
    simp only [List.any_eq_true, List.mem_filter, bne_iff_ne, ne_eq]
    constructor
    · rintro ⟨e, ⟨he, -⟩, hi⟩; exact ⟨e, he, hi⟩
    · rintro ⟨e, he, hi⟩
      refine ⟨e, ⟨he, fun hid => ?_⟩, hi⟩
      by_cases hx' : e = x
      · rw [hx', hf] at hi; cases hi
      · exact distinct_ids hq he hx hx' hid
  | replaced =>
    rw [List.any_map]
    congr 1
    funext e
    simp only [Function.comp]
    split <;> rfl

theorem inFlight_isSome (s : State) : s.inFlight.isSome = s.line.queue.any fun e => e.inFlight := by
  rw [Bool.eq_iff_iff, State.inFlight, List.find?_isSome]
  simp

end Sys2Proof.Machine
end

section
/-! SUPPORT. What quiet changes keep: the queue, the line, the fault list, the tables and the channels. -/

namespace Sys2Proof.Machine

variable {L : Prop} {s t : State}

/-! ### The queue and the line -/

theorem offer_queueOk (f : Frame) (h : QueueOk s) : QueueOk (offer f s) := by
  rw [queueOk_iff] at h ⊢
  obtain ⟨q, fo, o, hl, -, hq⟩ := offer_line f s
  refine ⟨by rw [hl]; exact offered_fine hq h.1, ?_⟩
  have hi := offered_inFlight hq h.1.distinct
  rw [inFlight_isSome, hl, hi, ← inFlight_isSome]
  exact h.2

/-- A filter that keeps the entries in flight keeps the queue. -/
theorem filter_queueOk (p : Entry → Bool) (h : QueueOk s) :
    QueueOk (s.setQueue (s.line.queue.filter fun e => e.inFlight || !p e)) := by
  rw [queueOk_iff] at h ⊢
  refine ⟨h.1.sublist List.filter_sublist, ?_⟩
  rw [inFlight_isSome] at h ⊢
  refine h.2.trans ?_
  rw [Bool.eq_iff_iff]
  simp only [State.setQueue, List.any_eq_true, List.mem_filter, Bool.or_eq_true]
  exact ⟨fun ⟨e, he, hf⟩ => ⟨e, ⟨he, .inl hf⟩, hf⟩, fun ⟨e, ⟨he, _⟩, hf⟩ => ⟨e, he, hf⟩⟩

theorem dying_queueOk (n : Nat) (h : QueueOk s) :
    QueueOk (s.setQueue (s.line.queue.map fun e => if e.id = n ∧ e.inFlight then { e with dying := true } else e)) := by
  rw [queueOk_iff] at h ⊢
  refine ⟨h.1.map _ ?_ ?_ ?_ ?_, ?_⟩
  · intro e _; split <;> rfl
  · intro e _; split <;> rfl
  · intro e _; split <;> rfl
  · intro e _; split <;> exact id
  · rw [inFlight_isSome] at h ⊢
    refine h.2.trans ?_
    simp only [State.setQueue, List.any_map]
    congr 1
    funext e
    simp only [Function.comp]
    split <;> rfl

variable (s) in
theorem setFaultList_line (l : List FaultEntry) : (setFaultList l s).line = s.line := (setFaultList_keeps l s).2.2.2.2.2.2.1

theorem QueueOk.congr (h : QueueOk s) (hq : t.line.queue = s.line.queue) (hn : t.line.nextId = s.line.nextId)
    (hs : t.line.sending = s.line.sending) : QueueOk t := by
  rw [queueOk_iff] at h ⊢
  rw [inFlight_isSome] at h ⊢
  rw [hq, hn, hs]
  exact h

theorem Quiet.queueOk (h : Quiet L s t) (k : QueueOk s) : QueueOk t := by
  induction h with
  | plain h =>
    obtain ⟨-, -, -, -, -, -, -, -, hl, -⟩ := tracked_blocks h
    exact k.congr (by rw [hl]) (by rw [hl]) (by rw [hl])
  | trans _ _ ih1 ih2 => exact ih2 (ih1 k)
  | offer f => exact offer_queueOk f k
  | withdrawn p => exact filter_queueOk p k
  | dying n => exact dying_queueOk n k
  | line l hq _ hn hs _ _ => exact k.congr hq hn (hs k)
  | faultDropped =>
    exact k.congr (by rw [setFaultList_line]) (by rw [setFaultList_line]) (by rw [setFaultList_line])
  | faultAdded e _ _ _ _ _ ih =>
    exact (ih k).congr (by rw [setFaultList_line]) (by rw [setFaultList_line]) (by rw [setFaultList_line])
  | channels | pulseOver | unchecked | entries | reasm | demandTable | motionTable | announced | headListen =>
    exact k.congr rfl rfl rfl

/-- What an unseated station's queue may hold, when an offer is made. -/
theorem offer_silenceOk (f : Frame) (h : SilenceOk s) : SilenceOk (offer f s) := by
  have hst : (offer f s).seat = s.seat := by simp
  obtain ⟨q, fo, o, hl, -, hq⟩ := offer_line f s
  rcases Bool.eq_false_or_eq_true s.seated with hs | hs
  · refine ⟨fun hu => ?_, fun hu => ?_, fun hu => ?_⟩
    · simp [State.seated] at hu hs; simp [hu] at hs
    · rw [hst] at hu; simp [State.seated, hu, Stage.seated] at hs
    · rw [hst] at hu; simp [State.seated, hu, Stage.seated] at hs
  · obtain ⟨hu, hfo⟩ := h.unseated hs
    have hcl : s.queueTakes f = true →
        f.isSeatClaim = true ∧ s.seat.stage ≠ .loading ∧ s.seat.stage ≠ .conflict ∧ f.replaceClass = none := by
      intro ht
      have hc : f.isSeatClaim = true → f.replaceClass = none := by cases f <;> simp [Frame.isSeatClaim, Frame.replaceClass]
      simp only [State.queueTakes] at ht
      simp only [State.seated] at hs
      cases hg : s.seat.stage <;> simp_all [Stage.seated]
    refine ⟨fun _ => ?_, fun hg => ?_, fun hg => ?_⟩
    · rw [hl]
      cases hq with
      | same => exact ⟨hu, hfo⟩
      | entered ht =>
        refine ⟨fun e he => ?_, hfo⟩
        rcases (mem_insertEntry _ e _).mp he with rfl | he
        · exact .inl (hcl ht).1
        · exact hu e he
      | inPlace x ht =>
        refine ⟨fun e he => ?_, hfo⟩
        rcases (mem_insertEntry _ e _).mp he with rfl | he
        · exact .inl (hcl ht).1
        · exact hu e (List.mem_of_mem_filter he)
      | replaced ht hc => simp [(hcl ht).2.2.2] at hc
      | held ht hc => simp [(hcl ht).2.2.2] at hc
    · rw [hst] at hg
      rw [hl]
      cases hq with
      | same => exact h.loading hg
      | held ht hc => simp [(hcl ht).2.2.2] at hc
      | entered ht | inPlace _ ht | replaced ht => exact absurd hg (hcl ht).2.1
    · rw [hst] at hg
      rw [hl]
      cases hq with
      | same => exact h.conflict hg
      | held ht hc => simp [(hcl ht).2.2.2] at hc
      | entered ht | inPlace _ ht | replaced ht => exact absurd hg (hcl ht).2.2.1

theorem SilenceOk.of_subset (h : SilenceOk s) (hs : t.seat.stage = s.seat.stage)
    (hq : ∀ e ∈ t.line.queue, ∃ x ∈ s.line.queue, e.frame.isSeatClaim = x.frame.isSeatClaim ∧
      (x.completing → e.completing))
    (hf : s.line.followOn = [] → t.line.followOn = []) : SilenceOk t where
  unseated := fun hu => by
    obtain ⟨h1, h2⟩ := h.unseated (by simpa [State.seated, hs] using hu)
    refine ⟨fun e he => ?_, hf h2⟩
    obtain ⟨x, hx, hxe, hxc⟩ := hq e he
    rw [hxe]
    exact (h1 x hx).imp id hxc
  loading := fun hg => by
    have := h.loading (hs ▸ hg)
    by_contra hne
    obtain ⟨e, he⟩ := List.exists_mem_of_ne_nil _ hne
    obtain ⟨x, hx, -⟩ := hq e he
    rw [this] at hx
    cases hx
  conflict := fun hg e he => by
    obtain ⟨x, hx, -, hxc⟩ := hq e he
    exact hxc (h.conflict (hs ▸ hg) x hx)

theorem SilenceOk.congr (h : SilenceOk s) (hs : t.seat.stage = s.seat.stage) (hq : t.line.queue = s.line.queue)
    (hf : t.line.followOn = s.line.followOn) : SilenceOk t :=
  h.of_subset hs (fun e he => ⟨e, hq ▸ he, rfl, id⟩) fun k => hf.trans k

theorem Quiet.silenceOk (h : Quiet L s t) (k : SilenceOk s) : SilenceOk t := by
  induction h with
  | plain h =>
    obtain ⟨-, -, -, -, -, -, -, -, hl, -⟩ := tracked_blocks h
    exact k.congr (Framed.of_tracked h).stage (by rw [hl]) (by rw [hl])
  | trans _ _ ih1 ih2 => exact ih2 (ih1 k)
  | offer f => exact offer_silenceOk f k
  | withdrawn p => exact k.of_subset rfl (fun e he => ⟨e, List.mem_of_mem_filter he, rfl, id⟩) id
  | dying n =>
    refine k.of_subset rfl (fun e he => ?_) id
    obtain ⟨x, hx, rfl⟩ := List.mem_map.mp he
    refine ⟨x, hx, ?_, fun hc => ?_⟩
    · split <;> rfl
    · split
      · exact ⟨hc.1, rfl⟩
      · exact hc
  | line l hq hf _ _ _ _ => exact k.congr rfl hq hf
  | faultDropped =>
    exact k.congr (by rw [(setFaultList_keeps _ _).2.2.2.2.1]) (by rw [setFaultList_line]) (by rw [setFaultList_line])
  | faultAdded e _ _ _ _ _ ih =>
    exact (ih k).congr (by rw [(setFaultList_keeps _ _).2.2.2.2.1]) (by rw [setFaultList_line]) (by rw [setFaultList_line])
  | channels | pulseOver | unchecked | entries | reasm | demandTable | motionTable | announced | headListen =>
    exact k.congr rfl rfl rfl

theorem bump_le {n : Nat} (h : n ≤ 65535) : bump n ≤ 65535 := by
  unfold bump Config.countTop
  split <;> omega

theorem Quiet.lineFine (h : Quiet L s t) (k : LineFine s.line) : LineFine t.line := by
  induction h with
  | plain h =>
    obtain ⟨-, -, -, -, -, -, -, -, hl, -⟩ := tracked_blocks h
    exact hl ▸ k
  | trans _ _ ih1 ih2 => exact ih2 (ih1 k)
  | @offer s f =>
    obtain ⟨q, fo, o, hl, ho, -⟩ := offer_line f s
    rw [hl]
    refine { k with overflow := ?_ }
    rcases ho with rfl | rfl
    · exact k.overflow
    · exact bump_le k.overflow
  | line l _ _ _ _ hok _ => exact hok k
  | faultDropped => exact (setFaultList_line ..).symm ▸ k
  | faultAdded e _ _ _ _ _ ih => exact (setFaultList_line ..).symm ▸ ih k
  | withdrawn | dying => exact { k with }
  | channels | pulseOver | unchecked | entries | reasm | demandTable | motionTable | announced | headListen => exact k

theorem Quiet.muteOk (h : Quiet L s t) (k : MuteOk s.line) : MuteOk t.line := by
  induction h with
  | plain h =>
    obtain ⟨-, -, -, -, -, -, -, -, hl, -⟩ := tracked_blocks h
    exact hl ▸ k
  | trans _ _ ih1 ih2 => exact ih2 (ih1 k)
  | @offer s f =>
    obtain ⟨q, fo, o, hl, -, -⟩ := offer_line f s
    rw [hl]
    exact k
  | line l _ _ _ _ _ hok => exact hok k
  | faultDropped => exact (setFaultList_line ..).symm ▸ k
  | faultAdded e _ _ _ _ _ ih => exact (setFaultList_line ..).symm ▸ ih k
  | withdrawn | dying | channels | pulseOver | unchecked | entries | reasm | demandTable | motionTable | announced |
      headListen => exact k

/-! ### The fault list -/

theorem hasFault_eq_false {code : FaultCode} {subject : Nat} :
    s.hasFault code subject = false ↔ ∀ e ∈ s.faults.list, ¬(e.code = code ∧ e.subject = subject) := by
  simp [State.hasFault, List.any_eq_false]

theorem FaultsOk.of_list (h : FaultsOk s) (hn : s.now ≤ t.now) (hs : t.faults.list.Sublist s.faults.list) : FaultsOk t where
  size := hs.length_le.trans h.size
  distinct := h.distinct.sublist hs
  order := h.order.sublist hs
  past := fun e he => (h.past e (hs.subset he)).trans (by omega)

theorem setFaultList_faults (l : List FaultEntry) (s : State) : (setFaultList l s).faults.list = l :=
  (setFaultList_keeps l s).2.2.2.2.2.2.2.1

theorem Quiet.faultsOk (h : Quiet L s t) (k : FaultsOk s) : FaultsOk t := by
  induction h with
  | plain h =>
    obtain ⟨-, -, -, -, -, -, -, -, -, hl⟩ := tracked_blocks h
    exact k.of_list (Framed.of_tracked h).now.ge (by rw [hl])
  | trans _ _ ih1 ih2 => exact ih2 (ih1 k)
  | offer f => exact k.of_list (by simp) (by simp)
  | @faultAdded s t e _ hsize hnew hon _ ih =>
    have hsize := hsize k.size
    replace k := ih k
    have hnow : (setFaultList (t.faults.list ++ [e]) t).now = t.now := (setFaultList_keeps _ _).2.1
    refine ⟨?_, ?_, ?_, ?_⟩ <;> rw [setFaultList_faults]
    · simpa using hsize
    · rw [List.pairwise_append]
      refine ⟨k.distinct, List.pairwise_singleton .., fun a ha b hb => ?_⟩
      rw [List.mem_singleton.mp hb]
      exact hasFault_eq_false.mp hnew a ha
    · rw [List.pairwise_append]
      refine ⟨k.order, List.pairwise_singleton .., fun a ha b hb => ?_⟩
      rw [List.mem_singleton.mp hb, hon]
      exact k.past a ha
    · intro x hx
      rw [hnow]
      rcases List.mem_append.mp hx with hx | hx
      · exact k.past x hx
      · rw [List.mem_singleton.mp hx, hon]
  | faultDropped x =>
    exact k.of_list (setFaultList_keeps _ _).2.1.ge (by rw [setFaultList_faults]; exact List.filter_sublist)
  | withdrawn | dying | line | channels | pulseOver | unchecked | entries | reasm | demandTable | motionTable |
      announced | headListen => exact k.of_list le_rfl (List.Sublist.refl _)

theorem Quiet.latched (h : Quiet L s t) (e : FaultEntry) (hl : e.code.latched = true) (he : e ∈ s.faults.list) :
    e ∈ t.faults.list := by
  induction h with
  | plain h =>
    obtain ⟨-, -, -, -, -, -, -, -, -, hk⟩ := tracked_blocks h
    exact hk ▸ he
  | trans _ _ ih1 ih2 => exact ih2 (ih1 he)
  | offer f => simpa using he
  | faultAdded _ _ _ _ _ _ ih => rw [setFaultList_faults]; exact List.mem_append_left _ (ih he)
  | faultDropped x hx =>
    rw [setFaultList_faults, List.mem_filter]
    refine ⟨he, ?_⟩
    by_contra hc
    simp only [Bool.not_eq_true, Bool.not_eq_false', Bool.and_eq_true, beq_iff_eq] at hc
    rw [hc.1, hx] at hl
    cases hl
  | withdrawn | dying | line | channels | pulseOver | unchecked | entries | reasm | demandTable | motionTable |
      announced | headListen => exact he

/-- An unseated station raises no FRONT-LINK-LOST. -/
theorem Quiet.frontLinkOk (h : Quiet L s t) (k : FrontLinkOk s) : FrontLinkOk t := by
  intro hu
  rw [h.framed.seated] at hu
  have hk := k hu
  clear k
  rw [hasFault_eq_false] at hk ⊢
  induction h with
  | plain h =>
    obtain ⟨-, -, -, -, -, -, -, -, -, hl⟩ := tracked_blocks h
    exact hl ▸ hk
  | trans h1 _ ih1 ih2 => exact ih2 (h1.framed.seated.trans hu) (ih1 hu hk)
  | offer f => simpa using hk
  | faultAdded e h1 _ _ _ hs ih =>
    rw [setFaultList_faults]
    intro x hx
    rcases List.mem_append.mp hx with hx | hx
    · exact ih hu hk x hx
    · rw [List.mem_singleton.mp hx]
      exact fun hc => by rw [← h1.framed.seated, hs hc.1] at hu; cases hu
  | faultDropped => rw [setFaultList_faults]; exact fun x hx => hk x (List.mem_of_mem_filter hx)
  | withdrawn | dying | line | channels | pulseOver | unchecked | entries | reasm | demandTable | motionTable |
      announced | headListen => exact hk

/-! ### Seats, tables and the own entry -/

theorem Quiet.seatsOk (h : Quiet L s t) (k : SeatsOk s) : SeatsOk t := by
  have hf := h.framed
  refine ⟨?_, ?_, ?_, ?_⟩
  · rw [hf.seated, hf.ownSeat]; exact k.seated
  · rw [hf.seated, hf.ownSeat]; exact k.unseated
  · rw [hf.stage, hf.claimed]; exact k.claiming
  · rw [hf.rejoin]; exact k.rejoin

theorem setFaultList_entries (l : List FaultEntry) (s : State) :
    (setFaultList l s).roster.entries = if s.seated then
      Table.modify s.roster.entries s.seat.ownSeat fun e => { e with fault := some (summaryOf s l) } else s.roster.entries := by
  unfold setFaultList
  split
  · simp
  · simp

theorem TablesOk.congr (k : TablesOk s) (he : Table.wf s.roster.entries = true → Table.wf t.roster.entries = true)
    (hr : t.roster.reasm = s.roster.reasm) (hd : t.demand.table = s.demand.table) (hs : t.sensor.table = s.sensor.table) :
    TablesOk t := ⟨he k.roster, by rw [hr]; exact k.reasm, by rw [hd]; exact k.demand, by rw [hs]; exact k.motion⟩

theorem setFaultList_tablesOk (l : List FaultEntry) (k : TablesOk s) : TablesOk (setFaultList l s) := by
  refine k.congr (fun hw => ?_) ?_ ?_ ?_
  · rw [setFaultList_entries]
    split
    · exact Table.wf_modify _ _ _ hw
    · exact hw
  · exact (setFaultList_keeps _ _).2.2.2.2.2.2.2.2.1
  · rw [(setFaultList_keeps _ _).2.2.2.2.2.2.2.2.2.2.1]
  · rw [(setFaultList_keeps _ _).2.2.2.2.2.2.2.2.2.2.2]

theorem Quiet.tablesOk (h : Quiet L s t) (k : TablesOk s) : TablesOk t := by
  induction h with
  | plain h =>
    obtain ⟨-, -, he, hr, -, hd, -, hs, -⟩ := tracked_blocks h
    exact k.congr (by rw [he]; exact id) hr hd hs
  | trans _ _ ih1 ih2 => exact ih2 (ih1 k)
  | offer f => exact k.congr (by simp) (by simp) (by simp) (by simp)
  | faultAdded e _ _ _ _ _ ih => exact setFaultList_tablesOk _ (ih k)
  | faultDropped => exact setFaultList_tablesOk _ k
  | entries l hw _ => exact k.congr hw rfl rfl rfl
  | reasm l hw => exact { k with reasm := hw k.reasm }
  | demandTable l hw => exact { k with demand := hw k.demand }
  | motionTable l hw => exact { k with motion := hw k.motion }
  | withdrawn | dying | line | channels | pulseOver | unchecked | announced | headListen => exact k.congr id rfl rfl rfl

/-- The own entry stands at the own seat, with the own identity. -/
theorem Quiet.ownEntryOk (h : Quiet L s t) (k : OwnEntryOk s) : OwnEntryOk t := by
  have key : s.seated = true → (Table.get t.roster.entries t.seat.ownSeat).map RosterEntry.identity =
      (Table.get s.roster.entries s.seat.ownSeat).map RosterEntry.identity := by
    clear k
    intro hs
    induction h with
    | plain h =>
      obtain ⟨-, -, he, -⟩ := tracked_blocks h
      rw [he, (Framed.of_tracked h).ownSeat]
    | trans h1 _ ih1 ih2 => exact (ih2 (h1.framed.seated.trans hs)).trans (ih1 hs)
    | offer f => simp
    | faultDropped =>
      rw [setFaultList_entries, if_pos hs, (setFaultList_keeps _ _).2.2.2.2.1, Table.get_modify, if_pos rfl, Option.map_map]
      rfl
    | faultAdded e h1 _ _ _ _ ih =>
      rw [← ih hs, setFaultList_entries, if_pos (h1.framed.seated.trans hs), (setFaultList_keeps _ _).2.2.2.2.1,
        Table.get_modify, if_pos rfl, Option.map_map]
      rfl
    | entries l _ ho =>
      have := congrArg (Option.map Prod.fst) (ho hs)
      simp only [Option.map_map] at this
      exact this
    | withdrawn | dying | line | channels | pulseOver | unchecked | reasm | demandTable | motionTable | announced |
        headListen => rfl
  intro hs
  rw [h.framed.seated] at hs
  rw [key hs, h.framed.identity]
  exact k hs

theorem setFaultList_ownSummaryOk (l : List FaultEntry) (k : OwnSummaryOk s) : OwnSummaryOk (setFaultList l s) := by
  intro hs
  have hseat : ∀ l, (setFaultList l s).seat = s.seat := fun l => (setFaultList_keeps l s).2.2.2.2.1
  have hsum : ∀ m, summaryOf (setFaultList l s) m = summaryOf s m := (framed_setFaultList l s).summaryOf
  have hs' : s.seated = true := by simpa only [State.seated, hseat] using hs
  have hk := k hs'
  rw [setFaultList_entries, if_pos hs', hseat, Table.get_modify, if_pos rfl, setFaultList_faults, hsum, Option.map_map]
  cases hg : Table.get s.roster.entries s.seat.ownSeat with
  | none => simp [hg] at hk
  | some x => rfl

/-- Of a seated station the own entry carries the own identity and the summary of the fault list. -/
theorem Quiet.ownSummaryOk (h : Quiet L s t) (k : OwnSummaryOk s) : OwnSummaryOk t := by
  induction h with
  | plain h =>
    obtain ⟨-, -, he, -, -, -, -, -, -, hl⟩ := tracked_blocks h
    have hf := Framed.of_tracked h
    intro hs
    rw [he, hf.ownSeat, hl, hf.summaryOf]
    exact k (hf.seated ▸ hs)
  | trans _ _ ih1 ih2 => exact ih2 (ih1 k)
  | @offer s f =>
    have hf : Framed s (Machine.offer f s) := (Quiet.offer (L := True) f).framed
    intro hs
    rw [(offer_keeps s f).2.2.2.2.2.2.2.2.2.2.2.2.2.1, hf.ownSeat, (offer_keeps s f).2.2.2.2.2.2.2.2.2.2.1, hf.summaryOf]
    exact k (hf.seated ▸ hs)
  | faultAdded e _ _ _ _ _ ih => exact setFaultList_ownSummaryOk _ (ih k)
  | faultDropped => exact setFaultList_ownSummaryOk _ k
  | entries l _ ho =>
    intro hs
    have := congrArg (Option.map Prod.snd) (ho hs)
    simp only [Option.map_map] at this
    exact this.trans (k hs)
  | withdrawn | dying | line | channels | pulseOver | unchecked | reasm | demandTable | motionTable | announced |
      headListen => exact k

/-! ### The channels -/

/-- An update of the channels' records position by position. -/
theorem ChannelsOk.setChannels (k : ChannelsOk s) (l : List Channel) (hn : l.length = s.lamps.channels.length)
    (h : ∀ (i : Nat) (c c' : Channel), s.lamps.channels[i]? = some c → l[i]? = some c' → c.ok → c'.ok) :
    ChannelsOk (setChannels l s) := by
  have hl : ∀ c ∈ l, c.ok := by
    intro c hc
    obtain ⟨i, hi⟩ := List.mem_iff_getElem?.mp hc
    have hlt : i < s.lamps.channels.length := hn ▸ (List.getElem?_eq_some_iff.mp hi).1
    exact h i _ c (List.getElem?_eq_getElem hlt) hi (k.channels _ (List.getElem_mem hlt))
  refine ⟨hl, ?_⟩
  have key : ∀ (os ns : List Channel) (rs : List (Health × Nat)), (∀ c ∈ ns, c.ok) → (∀ r ∈ rs, r.2 ≤ 3) →
      ∀ r ∈ mirrorChannels os ns rs, r.2 ≤ 3 := by
    intro os ns rs hns hrs
    induction os generalizing ns rs with
    | nil => simpa [mirrorChannels] using hrs
    | cons o os ih =>
      cases ns with
      | nil => simpa [mirrorChannels] using hrs
      | cons n ns =>
        cases rs with
        | nil => simp [mirrorChannels]
        | cons r rs =>
          simp only [mirrorChannels, List.mem_cons, forall_eq_or_imp] at hns hrs ⊢
          refine ⟨?_, ih ns rs hns.2 hrs.2⟩
          split
          · exact hrs.1
          · exact hns.1.2
  exact key _ _ _ hl k.retained

theorem ChannelsOk.congr (k : ChannelsOk s) (hl : t.lamps.channels = s.lamps.channels)
    (hr : t.retention.channels = s.retention.channels) : ChannelsOk t :=
  ⟨by rw [hl]; exact k.channels, by rw [hr]; exact k.retained⟩

theorem Quiet.channelsOk (h : Quiet L s t) (k : ChannelsOk s) : ChannelsOk t := by
  induction h with
  | plain h =>
    obtain ⟨hr, -, -, -, -, -, hl, -⟩ := tracked_blocks h
    exact k.congr (by rw [hl]) hr
  | trans _ _ ih1 ih2 => exact ih2 (ih1 k)
  | offer f => exact k.congr (by simp) (by simp)
  | channels l hn h _ => exact k.setChannels l hn h
  | faultDropped =>
    exact k.congr (by rw [(setFaultList_keeps _ _).2.2.2.2.2.1]) (by rw [(setFaultList_keeps _ _).2.2.2.1])
  | faultAdded e _ _ _ _ _ ih =>
    exact (ih k).congr (by rw [(setFaultList_keeps _ _).2.2.2.2.2.1]) (by rw [(setFaultList_keeps _ _).2.2.2.1])
  | withdrawn | dying | line | pulseOver | unchecked | entries | reasm | demandTable | motionTable | announced |
      headListen => exact k.congr rfl rfl

/-- The retained list after an update of the channels' records. -/
theorem mirrorChannels_get (os ns : List Channel) (rs : List (Health × Nat)) (hn : ns.length = os.length) (i : Nat)
    (o c : Channel) (ho : os[i]? = some o) (hc : ns[i]? = some c) (hr : rs[i]? = some (o.health, o.retry)) :
    (mirrorChannels os ns rs)[i]? = some (c.health, c.retry) := by
  induction os generalizing ns rs i with
  | nil => cases ho
  | cons o' os ih =>
    cases ns with
    | nil => cases hc
    | cons n ns =>
      cases rs with
      | nil => cases hr
      | cons r rs =>
        cases i with
        | zero =>
          simp only [List.getElem?_cons_zero, Option.some.injEq] at ho hc hr
          subst ho hc hr
          simp only [mirrorChannels, List.getElem?_cons_zero, Option.some.injEq]
          split
          · next h => rw [h.1, h.2]
          · rfl
        | succ i =>
          simp only [List.getElem?_cons_succ, mirrorChannels] at ho hc hr ⊢
          exact ih ns rs (by simpa using hn) i ho hc hr

/-- The retention record holds each assigned channel's health and retry count as they stand. -/
def Mirrored (s : State) : Prop :=
  ∀ n c, nth s.lamps.channels n = some c → s.functionOf n ≠ .unassigned → nth s.retention.channels n = some (c.health, c.retry)

theorem Mirrored.setChannels (k : Mirrored s) (l : List Channel) (hn : l.length = s.lamps.channels.length) :
    Mirrored (setChannels l s) := by
  intro n c hc hf
  match n with
  | 0 => cases hc
  | n + 1 =>
    have hlt : n < s.lamps.channels.length := hn ▸ (List.getElem?_eq_some_iff.mp hc).1
    exact mirrorChannels_get _ _ _ hn n _ c (List.getElem?_eq_getElem hlt) hc
      (k (n + 1) _ (List.getElem?_eq_getElem hlt) hf)

theorem Mirrored.congr (k : Mirrored s) (hl : t.lamps.channels = s.lamps.channels)
    (hr : t.retention.channels = s.retention.channels) (hp : t.loader.profile = s.loader.profile) : Mirrored t := by
  intro n c hc hf
  rw [hr]
  exact k n c (hl ▸ hc) (by simpa only [State.functionOf, hp] using hf)

theorem Quiet.mirrored (h : Quiet L s t) (k : Mirrored s) : Mirrored t := by
  induction h with
  | plain h =>
    obtain ⟨hr, -, -, -, -, -, hl, -⟩ := tracked_blocks h
    exact k.congr (by rw [hl]) hr (Framed.of_tracked h).profile
  | trans _ _ ih1 ih2 => exact ih2 (ih1 k)
  | offer f => exact k.congr (by simp) (by simp) (by simp)
  | channels l hn _ _ => exact k.setChannels l hn
  | faultDropped =>
    exact k.congr (by rw [(setFaultList_keeps _ _).2.2.2.2.2.1]) (by rw [(setFaultList_keeps _ _).2.2.2.1])
      (by rw [(setFaultList_keeps _ _).2.2.1])
  | faultAdded e _ _ _ _ _ ih =>
    exact (ih k).congr (by rw [(setFaultList_keeps _ _).2.2.2.2.2.1]) (by rw [(setFaultList_keeps _ _).2.2.2.1])
      (by rw [(setFaultList_keeps _ _).2.2.1])
  | withdrawn | dying | line | pulseOver | unchecked | entries | reasm | demandTable | motionTable | announced |
      headListen => exact k.congr rfl rfl rfl

/-- In LOADING only a change that `L` admits touches the channels. -/
theorem Quiet.asleep (h : Quiet L s t) (hL : ¬L) (hs : s.loaded = false) :
    t.lamps.channels = s.lamps.channels ∧ (s.seat.headListen = .stopped → t.seat.headListen = .stopped) := by
  induction h with
  | plain h =>
    obtain ⟨-, hh, -, -, -, -, hl, -⟩ := tracked_blocks h
    exact ⟨by rw [hl], by rw [hh]; exact id⟩
  | trans h1 _ ih1 ih2 =>
    have i1 := ih1 hs
    have i2 := ih2 (h1.framed.loaded.trans hs)
    exact ⟨i2.1.trans i1.1, fun h => i2.2 (i1.2 h)⟩
  | offer f => exact ⟨by simp, by simp⟩
  | channels l _ _ h =>
    rcases h with h | h | h
    · exact absurd h hL
    · rw [hs] at h; cases h
    · exact ⟨h, id⟩
  | faultDropped =>
    exact ⟨by rw [(setFaultList_keeps _ _).2.2.2.2.2.1], by rw [(setFaultList_keeps _ _).2.2.2.2.1]; exact id⟩
  | faultAdded e _ _ _ _ _ ih =>
    rw [(setFaultList_keeps _ _).2.2.2.2.2.1, (setFaultList_keeps _ _).2.2.2.2.1]
    exact ih hs
  | headListen => exact ⟨rfl, fun _ => rfl⟩
  | withdrawn | dying | line | pulseOver | unchecked | entries | reasm | demandTable | motionTable | announced =>
    exact ⟨rfl, id⟩

theorem Quiet.loadingOk (h : Quiet L s t) (hL : ¬L) (k : LoadingOk s) : LoadingOk t := by
  have hf := h.framed
  have ha : t.seat.stage = .loading → s.seat.stage = .loading ∧ s.loaded = false := fun hg =>
    ⟨hf.stage ▸ hg, by simp [State.loaded, ← hf.stage, hg]⟩
  refine ⟨fun hg => ?_, fun hg => ?_, fun hg => ?_, fun hg => ?_⟩
  · rw [hf.marker]; exact k.marker (ha hg).1
  · rw [hf.rejoin]; exact k.rejoin (ha hg).1
  · exact (h.asleep hL (ha hg).2).2 (k.headListen (ha hg).1)
  · rw [(h.asleep hL (ha hg).2).1]; exact k.channels (ha hg).1

theorem setFaultList_checkOk (l : List FaultEntry) (k : CheckOk s) : CheckOk (setFaultList l s) := by
  intro c hc
  rw [(setFaultList_keeps _ _).2.2.2.2.2.1] at hc
  simpa only [(framed_setFaultList l s).assigned] using k c hc

theorem Quiet.checkOk (h : Quiet L s t) (k : CheckOk s) : CheckOk t := by
  induction h with
  | plain h =>
    obtain ⟨-, -, -, -, -, -, hl, -⟩ := tracked_blocks h
    intro c hc
    rw [hl] at hc
    simpa only [(Framed.of_tracked h).assigned] using k c hc
  | trans _ _ ih1 ih2 => exact ih2 (ih1 k)
  | @offer s f =>
    intro c hc
    have hf : Framed s (Machine.offer f s) := (Quiet.offer (L := True) f).framed
    simpa only [hf.assigned] using k c (by simpa using hc)
  | faultAdded e _ _ _ _ _ ih => exact setFaultList_checkOk _ (ih k)
  | faultDropped => exact setFaultList_checkOk _ k
  | pulseOver =>
    intro c hc
    obtain ⟨c', hc', rfl⟩ := Option.map_eq_some_iff.mp hc
    obtain ⟨h1, h2, -, h4⟩ := k c' hc'
    exact ⟨h1, h2, by simp, h4⟩
  | unchecked => intro c hc; cases hc
  | withdrawn | dying | line | channels | entries | reasm | demandTable | motionTable | announced |
      headListen => exact k

end Sys2Proof.Machine
end

section
/-! SUPPORT. Which operations are quiet: each is a chain of small updates. -/

namespace Sys2Proof.Machine

variable {L : Prop} {s : State}

/-! ### Folds -/

theorem Quiet.foldl {α : Type} (f : State → α → State) (l : List α) (h : ∀ (u : State) (a : α), a ∈ l → Quiet L u (f u a)) :
    Quiet L s (l.foldl f s) := by
  induction l generalizing s with
  | nil => exact .refl L s
  | cons a l ih => exact (h s a (.head l)).trans (ih fun u b hb => h u b (.tail a hb))

/-- A quiet change after one of what the invariants do not speak of. -/
theorem Quiet.after {u t : State} (k : Quiet L u t) (h : u.tracked = s.tracked) : Quiet L s t := .trans (.plain h) k

/-! ### Faults -/

theorem queueFault_quiet (e : FaultEntry) (r : Bool) : Quiet L s (queueFault e r s) := by
  unfold queueFault
  split
  · exact .offer _
  · exact .refl L s

theorem attnForFault_quiet (n : Nat) : Quiet L s (attnForFault n s) := by
  unfold attnForFault
  split
  · exact .plain rfl
  · exact .refl L s

theorem removeFault_quiet (x : FaultEntry) (h : x.code.latched = false) : Quiet L s (removeFault x s) :=
  .trans (.faultDropped x h) (queueFault_quiet x false)

theorem removeFault_list (x : FaultEntry) :
    (removeFault x s).faults.list = s.faults.list.filter fun y => !(y.code == x.code && y.subject == x.subject) := by
  have h := queueFault_unqueued
    (setFaultList (s.faults.list.filter fun y => !(y.code == x.code && y.subject == x.subject)) s) x false
  exact (congrArg FaultList.list (unqueued_fields h).2.2.2.2.2.2.2.2.2.2.1).trans (setFaultList_faults ..)

/-- A new entry joins a list that has room, after the changes that made it. -/
theorem addFault_quiet {t : State} (c : FaultCode) (u n : Nat) (h : Quiet L s t)
    (hs : s.faults.list.length ≤ 8 → t.faults.list.length < 8) (hn : t.hasFault c u = false)
    (hf : c = .frontLinkLost → t.seated = true) : Quiet L s (addFault c u n t) :=
  .trans (.faultAdded _ h hs hn rfl hf) (.trans (queueFault_quiet _ true) (attnForFault_quiet n))

/-- The entry evicted is one of the list, of a code not latched. -/
theorem evictable_mem {n : Nat} {l : List FaultEntry} {x : FaultEntry} (h : evictable n l = some x) :
    x ∈ l ∧ x.code.latched = false := by
  unfold evictable at h
  split at h
  · cases h
  · split at h
    · have hx := List.find?_some h
      simp only [Bool.and_eq_true, Bool.not_eq_true'] at hx
      exact ⟨List.mem_of_find?_eq_some h, hx.1⟩
    · cases h

theorem raiseFault_quiet (c : FaultCode) (u n : Nat) (hf : c = .frontLinkLost → s.seated = true) :
    Quiet L s (raiseFault c u n s) := by
  unfold raiseFault
  split
  · exact .refl L s
  · next hn =>
    rw [Bool.not_eq_true] at hn
    split
    · next hl => exact addFault_quiet c u n (.refl L s) (fun _ => hl) hn hf
    · split
      · next x hx =>
        obtain ⟨hm, hl⟩ := evictable_mem hx
        have hq : Quiet L s (removeFault x s) := removeFault_quiet x hl
        refine .trans (addFault_quiet c u n hq (fun h8 => ?_) ?_ fun h => hq.framed.seated.trans (hf h)) (.plain rfl)
        · rw [removeFault_list]
          exact lt_of_lt_of_le (List.length_filter_lt_length_iff_exists.mpr ⟨x, hm, by simp⟩) h8
        · rw [hasFault_eq_false] at hn ⊢
          rw [removeFault_list]
          exact fun e he => hn e (List.mem_of_mem_filter he)
      · exact .plain rfl

theorem clearFault_quiet (c : FaultCode) (u : Nat) : Quiet L s (clearFault c u s) := by
  unfold clearFault
  split
  · exact .refl L s
  · next hc =>
    split
    · exact .refl L s
    · next x hx =>
      have h := List.find?_some hx
      simp only [Bool.and_eq_true, beq_iff_eq] at h
      exact removeFault_quiet x (by rw [h.1]; simpa using hc)

theorem clearPresence_quiet : Quiet L s (clearPresence s) := .foldl _ _ fun _ _ _ => clearFault_quiet ..

theorem queueListedFaults_quiet : Quiet L s (queueListedFaults s) := .foldl _ _ fun _ _ _ => queueFault_quiet ..

/-! ### Channels -/

/-- An update of every channel that keeps each record one the rules allow. -/
theorem mapChannels_quiet (f : Channel → Channel) (h : ∀ c, c.ok → (f c).ok) (hL : L ∨ s.loaded = true) :
    Quiet L s (setChannels (s.lamps.channels.map f) s) := by
  refine .channels _ (by simp) (fun i c c' hc hc' => ?_) (hL.imp id .inl)
  rw [List.getElem?_map, hc] at hc'
  cases hc'
  exact h c

theorem mirrorChannels_map (f : Channel → Channel) (h : ∀ c, (f c).health = c.health ∧ (f c).retry = c.retry)
    (l : List Channel) (r : List (Health × Nat)) : mirrorChannels l (l.map f) r = r := by
  induction l generalizing r with
  | nil => simp [mirrorChannels]
  | cons c l ih => cases r <;> simp [mirrorChannels, h c, ih]

/-- An update of every channel that leaves health and retry count needs no writing of the retention record. -/
theorem setChannels_map (f : Channel → Channel) (h : ∀ c, (f c).health = c.health ∧ (f c).retry = c.retry) :
    setChannels (s.lamps.channels.map f) s = { s with lamps := { s.lamps with channels := s.lamps.channels.map f } } := by
  simp only [setChannels, mirrorChannels_map f h]

theorem modChannel_quiet (n : Nat) (f : Channel → Channel)
    (h : ∀ c, nth s.lamps.channels n = some c → c.ok → (f c).ok) (hL : L ∨ s.loaded = true) :
    Quiet L s (modChannel n f s) := by
  refine .channels _ (by simp) (fun i c c' hc hc' => ?_) (hL.imp id .inl)
  by_cases hi : i + 1 = n
  · subst hi
    rw [modNth, List.getElem?_modify_eq, hc] at hc'
    cases hc'
    exact h c hc
  · have : nth (modNth s.lamps.channels n f) (i + 1) = nth s.lamps.channels (i + 1) := nth_modNth_other _ _ _ _ hi
    rw [nth, nth, hc', hc] at this
    cases this
    exact id

theorem raiseHealthFault_quiet (n : Nat) (h : Health) : Quiet L s (raiseHealthFault n h s) := by
  unfold raiseHealthFault
  split
  · exact .refl L s
  · next c hc => exact raiseFault_quiet _ _ _ (by rintro rfl; cases h <;> cases hc)

theorem clearHealthFault_quiet (n : Nat) (h : Health) : Quiet L s (clearHealthFault n h s) := by
  unfold clearHealthFault
  split
  · exact .refl L s
  · exact clearFault_quiet ..

theorem clearIfCompleted_quiet (b : Bool) : Quiet L s (clearIfCompleted b s) := by
  unfold clearIfCompleted
  split
  · exact clearFault_quiet ..
  · exact .refl L s

/-- A health is set; LOCKED only where the channel is dark and has no short. -/
theorem setHealth_quiet (n : Nat) (h : Health)
    (hk : h = .locked → ∀ c, nth s.lamps.channels n = some c → c.lit = false ∧ c.short = .none)
    (hL : L ∨ s.loaded = true) : Quiet L s (setHealth n h s) := by
  simp only [setHealth]
  split
  · exact .refl L s
  · have h1 := modChannel_quiet (s := s) (L := L) n (fun c => { c with health := h, run := none })
      (fun c hc hok => ⟨fun he => hk he c hc, hok.2⟩) hL
    refine h1.trans ?_
    exact (clearHealthFault_quiet ..).trans ((raiseHealthFault_quiet ..).trans (clearIfCompleted_quiet _))

theorem setHealth_free_quiet (n : Nat) (h : Health) (hk : h ≠ .locked) (hL : L ∨ s.loaded = true) :
    Quiet L s (setHealth n h s) := setHealth_quiet n h (fun he => absurd he hk) hL

theorem Quiet.admits {t : State} (h : Quiet L s t) (hL : L ∨ s.loaded = true) : L ∨ t.loaded = true :=
  hL.imp id h.framed.loaded.trans

theorem recordSample_quiet (n i v : Nat) (o : SampleOutcome) (hL : L ∨ s.loaded = true) :
    Quiet L s (recordSample n i v o s) := modChannel_quiet n _ (fun _ _ => id) hL

theorem SampleClass.health_ne_locked (k : SampleClass) : k.health ≠ .locked := by cases k <;> simp [SampleClass.health]

theorem moveHealth_quiet (n : Nat) (k : SampleClass) (hL : L ∨ s.loaded = true) : Quiet L s (moveHealth n k s) := by
  simp only [moveHealth]
  have h : Quiet L s (setHealth n k.health s) := setHealth_free_quiet n _ k.health_ne_locked hL
  split
  · exact h.trans (modChannel_quiet n _ (fun c _ hc => ⟨hc.1, Nat.zero_le _⟩) (h.admits hL))
  · exact h

theorem takeClass_quiet (n : Nat) (k : SampleClass) (hL : L ∨ s.loaded = true) : Quiet L s (takeClass n k s) := by
  have h (r : Option (SampleClass × Nat)) : Quiet L s (modChannel n (fun c => { c with run := r }) s) :=
    modChannel_quiet n _ (fun _ _ => id) hL
  simp only [takeClass]
  split
  · exact h _
  · split
    · split
      · split
        · exact h _
        · exact moveHealth_quiet n k hL
      · exact h _
    · exact h _

theorem serviceSample_quiet (n i v : Nat) (hL : L ∨ s.loaded = true) : Quiet L s (serviceSample n i v s) := by
  simp only [serviceSample]
  split
  · have h := recordSample_quiet (L := L) n i v (classify (s.lampCfg n) s.loader.profile.vn i v).outcome hL
    exact h.trans (takeClass_quiet _ _ (h.admits hL))
  · exact recordSample_quiet _ _ _ _ hL

theorem checkSample_quiet (n i v : Nat) (hL : L ∨ s.loaded = true) : Quiet L s (checkSample n i v s) := by
  simp only [checkSample]
  split
  · have h := recordSample_quiet (s := s) (L := L) n i v
    exact (h _ hL).trans (setHealth_free_quiet _ _ (SampleClass.health_ne_locked _) ((h _ hL).admits hL))
  · exact recordSample_quiet _ _ _ _ hL

/-- A short is handled of a channel that is lit, and so is not LOCKED. -/
theorem takeShort_quiet (n : Nat) (hl : (s.channel n).lit = true) (hL : L ∨ s.loaded = true) :
    Quiet L s (takeShort n s) := by
  have h1 : Quiet L s (modChannel n Channel.cutOff s) := by
    refine modChannel_quiet n _ (fun c hc hok => ⟨fun hh => ?_, hok.2⟩) hL
    simp only [State.channel, hc, Option.getD_some] at hl
    rw [(hok.1 hh).1] at hl
    cases hl
  have h2 : Quiet L (modChannel n Channel.cutOff s) (setHealth n .short (modChannel n Channel.cutOff s)) :=
    setHealth_free_quiet n _ (by simp) (h1.admits hL)
  exact h1.trans (h2.trans (raiseHealthFault_quiet ..))

theorem checkTrip_quiet (n : Nat) (hl : (s.channel n).lit = true) (hL : L ∨ s.loaded = true) :
    Quiet L s (checkTrip n s) := by
  have h1 : Quiet L s (modChannel n (fun c => { c with retry := 0 }) s) :=
    modChannel_quiet n _ (fun c _ hc => ⟨hc.1, Nat.zero_le _⟩) hL
  have hl' : ((modChannel n (fun c => { c with retry := 0 }) s).channel n).lit = true := by
    simp only [State.channel, modChannel, setChannels, nth_modNth_same] at hl ⊢
    cases hn : nth s.lamps.channels n <;> simp_all
  exact h1.trans ((takeShort_quiet n hl' (h1.admits hL)).trans .pulseOver)

theorem lockOut_quiet (n : Nat) (hL : L ∨ s.loaded = true) : Quiet L s (lockOut n s) := by
  have h1 := modChannel_quiet (s := s) (L := L) n
    (fun c => { c with lit := false, steady := none, run := none, short := .none, rest := .stopped, proving := .stopped })
    (fun c _ hc => ⟨fun _ => ⟨rfl, rfl⟩, hc.2⟩) hL
  refine h1.trans (setHealth_quiet n _ (fun _ c hc => ?_) (h1.admits hL))
  simp only [modChannel, setChannels, nth_modNth_same, Option.map_eq_some_iff] at hc
  obtain ⟨c', -, rfl⟩ := hc
  exact ⟨rfl, rfl⟩

theorem serviceTrip_quiet (n : Nat) (hl : (s.channel n).lit = true) (hL : L ∨ s.loaded = true) :
    Quiet L s (serviceTrip n s) := by
  unfold serviceTrip
  split
  · exact takeShort_quiet n hl hL
  · exact lockOut_quiet n hL

theorem prepareChannel_quiet (n : Nat) (hL : L ∨ s.loaded = true) : Quiet L s (prepareChannel s n) := by
  have h1 : Quiet L s (setHealth n .untested s) := setHealth_free_quiet n _ (by simp) hL
  have h2 := modChannel_quiet (s := setHealth n .untested s) (L := L) n
    (fun c => { c with retry := 0, run := none, short := .none, rest := .stopped, proving := .stopped })
    (fun c _ hc => ⟨fun hh => ⟨(hc.1 hh).1, rfl⟩, Nat.zero_le 3⟩) (h1.admits hL)
  refine h1.trans (h2.trans ?_)
  exact (clearFault_quiet ..).trans ((clearFault_quiet ..).trans (clearFault_quiet ..))

theorem darkenAll_quiet (hL : L ∨ s.loaded = true) : Quiet L s (darkenAll s) := by
  refine mapChannels_quiet _ (fun c hc => ⟨fun hh => ⟨rfl, (hc.1 hh).2⟩, ?_⟩) hL
  dsimp only
  split
  · exact Nat.zero_le _
  · exact hc.2

theorem foldl_prepareChannel_quiet (l : List Nat) (hL : L ∨ s.loaded = true) : Quiet L s (l.foldl prepareChannel s) := by
  induction l generalizing s with
  | nil => exact .refl L s
  | cons n l ih =>
    have h := prepareChannel_quiet (s := s) n hL
    exact h.trans (ih (h.admits hL))

theorem pulseEnd_quiet (n i v : Nat) (hL : L ∨ s.loaded = true) : Quiet L s (pulseEnd n i v s) :=
  (checkSample_quiet n i v hL).trans .pulseOver

theorem sampleAt_quiet (n i v : Nat) (hL : L ∨ s.loaded = true) : Quiet L s (sampleAt n i v s) := by
  have h : Quiet L s (useInstant n s) := modChannel_quiet n _ (fun _ _ => id) hL
  unfold sampleAt
  split
  · exact h
  · exact h.trans (serviceSample_quiet n i v (h.admits hL))

theorem restOver_quiet (n : Nat) (hr : (s.channel n).short = .resting) (hL : L ∨ s.loaded = true) :
    Quiet L s (restOver n s) := by
  refine modChannel_quiet n _ (fun c hc hok => ⟨fun hh => ?_, hok.2⟩) hL
  simp only [State.channel, hc, Option.getD_some] at hr
  rw [(hok.1 hh).2] at hr
  cases hr

theorem provingOver_quiet (n : Nat) (hL : L ∨ s.loaded = true) : Quiet L s (provingOver n s) := by
  have h := modChannel_quiet (s := s) (L := L) n (fun c => { c with proving := .stopped, short := .none })
    (fun c _ hc => ⟨fun hh => ⟨(hc.1 hh).1, rfl⟩, hc.2⟩) hL
  exact h.trans (setHealth_free_quiet n _ (by simp) (h.admits hL))

theorem Channel.setLit_ok (f : LampFn) (b : Bool) (c : Channel) (h : c.ok) (hb : c.health = .locked → b = false) :
    (c.setLit f b).ok := by
  refine ⟨fun hh => ?_, by simpa using h.2⟩
  simp only [Channel.setLit_keeps] at hh ⊢
  exact ⟨hb hh, (h.1 hh).2⟩

theorem Channel.judge_ok (f : LampFn) (b : Bool) (c : Channel) (h : c.ok) : (c.judge f b).ok := by
  unfold Channel.judge
  split
  · next hc =>
    simp only [Bool.and_eq_true, bne_iff_ne] at hc
    refine ⟨fun hh => absurd ?_ hc.2, ?_⟩
    · simpa using hh
    · have := h.2
      simp only [Channel.redrive_keeps]
      split <;> omega
  · exact c.setLit_ok f _ h fun hh => by simp [hh]

theorem length_judgeFrom (n : Nat) (l : List Channel) : (judgeFrom s n l).length = l.length := by
  induction l generalizing n with
  | nil => rfl
  | cons c r ih => simp [judgeFrom, ih]

/-- In LOADING no channel is called for, so that channels as a start leaves them stay. -/
theorem judgeFrom_reset (hs : s.loaded = false) (n : Nat) (l : List Channel) (h : ∀ c ∈ l, c = Channel.reset) :
    judgeFrom s n l = l := by
  have hg : s.seat.stage = .loading := by simpa [State.loaded] using hs
  refine judgeFrom_of_agrees s n l fun m c hc => Channel.judge_of_agrees ?_ ?_
  all_goals
    match m with
    | 0 => cases hc
    | m + 1 =>
      rw [h c (List.mem_of_getElem? hc)]
      simp [Channel.reset, State.calledFor, hg]

/-- The channels may be judged: past LOADING, or where they are as a start leaves them. -/
def Judgeable (L : Prop) (s : State) : Prop := L ∨ s.loaded = true ∨ ∀ c ∈ s.lamps.channels, c = Channel.reset

theorem judgeLamps_quiet (h : Judgeable L s) : Quiet L s (judgeLamps s) := by
  refine .channels _ (length_judgeFrom ..) (fun i c c' hc hc' => ?_) ?_
  · have hj := nth_judgeFrom s 1 s.lamps.channels (i + 1)
    rw [nth, nth, hc', hc] at hj
    cases hj
    exact Channel.judge_ok _ _ c
  · rcases h with h | h | h
    · exact .inl h
    · exact .inr (.inl h)
    · rcases Bool.eq_false_or_eq_true s.loaded with hl | hl
      · exact .inr (.inl hl)
      · exact .inr (.inr (judgeFrom_reset hl 1 _ h))

/-! ### Demands, bodies and the judgements -/

theorem sendDemand_quiet : Quiet L s (sendDemand s) := .after (.offer _) rfl
theorem withdrawDemand_quiet : Quiet L s (withdrawDemand s) := .after (.offer _) rfl
theorem sendActive_quiet : Quiet L s (sendActive s) := .after sendDemand_quiet rfl

theorem beginDemand_quiet : Quiet L s (beginDemand s) := by
  unfold beginDemand
  split
  · exact sendDemand_quiet
  · split
    · exact .refl L s
    · exact sendActive_quiet

theorem sendChange_quiet : Quiet L s (sendChange s) := by
  unfold sendChange
  split
  · exact .refl L s
  · split
    · exact sendDemand_quiet
    · split
      · split
        · exact withdrawDemand_quiet
        · exact .refl L s
      · exact sendActive_quiet

theorem judgeOwn_quiet : Quiet L s (judgeOwn s) := by
  simp only [judgeOwn]
  split
  · exact .refl L s
  · exact .after sendChange_quiet rfl

theorem judgeFallback_quiet : Quiet L s (judgeFallback s) := by
  simp only [judgeFallback]
  split
  · exact .refl L s
  · split
    · exact .after (raiseFault_quiet _ _ _ (by simp)) rfl
    · exact .after (clearFault_quiet ..) rfl

theorem modBody_quiet (n : Nat) (f : BodyChannel → BodyChannel) : Quiet L s (modBody n f s) := .plain rfl

theorem stopRun_quiet (n : Nat) (o : BodyOutcome) : Quiet L s (stopRun n o s) := (modBody_quiet n _).trans judgeOwn_quiet

theorem endRun_quiet (o : BodyOutcome) (n : Nat) : Quiet L s (endRun o s n) := by
  unfold endRun
  split
  · exact (stopRun_quiet n o).trans (.offer _)
  · exact .refl L s

theorem endRuns_quiet (o : BodyOutcome) (p : BodyCfg → Bool) : Quiet L s (endRuns o p s) :=
  .foldl _ _ fun _ _ _ => endRun_quiet ..

theorem endWithdrawn_quiet : Quiet L s (endWithdrawn s) := by
  unfold endWithdrawn
  split
  · exact .refl L s
  · exact endRuns_quiet ..

theorem endMotion_quiet : Quiet L s (endMotion s) := by
  unfold endMotion
  split
  · exact endRuns_quiet ..
  · exact .refl L s

theorem endPark_quiet : Quiet L s (endPark s) := by
  unfold endPark
  split
  · exact .refl L s
  · exact endRuns_quiet ..

theorem judgeView_quiet : Quiet L s (judgeView s) := .plain rfl
theorem judgeEff_quiet : Quiet L s (judgeEff s) := .plain rfl
theorem judgeGates_quiet : Quiet L s (judgeGates s) := .plain rfl

theorem judgeSets_quiet : Quiet L s (judgeSets s) :=
  judgeView_quiet.trans <| endWithdrawn_quiet.trans <| endMotion_quiet.trans <|
    judgeOwn_quiet.trans <| judgeFallback_quiet.trans <| judgeEff_quiet.trans <|
    endPark_quiet.trans judgeOwn_quiet

theorem withdraw_quiet (p : Frame → Bool) : Quiet L s (withdraw p s) := .withdrawn fun e => p e.frame

theorem judgeOffer_quiet : Quiet L s (judgeOffer s) := by
  unfold judgeOffer
  split
  · split
    · exact .refl L s
    · exact .trans (.offer _) (.plain rfl)
  · split
    · have h : Quiet L s { s with seat := { s.seat with offer := .stopped } } := .plain rfl
      exact h.trans (withdraw_quiet _)
    · exact .refl L s

/-- The judgements that follow an event are quiet. -/
theorem settle_quiet (h : Judgeable L s) : Quiet L s (settle s) := by
  rw [settle_eq]
  have h1 : Quiet L s (judgeGates (judgeEff (judgeSets s))) := 
    judgeSets_quiet.trans (judgeEff_quiet.trans judgeGates_quiet)
  refine h1.trans (.trans (judgeLamps_quiet ?_) judgeOffer_quiet)
  rcases h with h | h | h
  · exact .inl h
  · exact .inr (.inl (h1.framed.loaded.trans h))
  · exact .inr (.inr fun c hc => h c (by rw [← (judgeSets_judged s).2.2.1]; exact hc))

end Sys2Proof.Machine
end

section
/-! SUPPORT. The remaining quiet operations: of the rear end, body channels, sensors, answers and the line, and the frames received. -/

namespace Sys2Proof.Machine

variable {L : Prop} {s : State}

/-! ### Position tables -/

/-- A table need not be in its form for an entry put there to be found. -/
theorem Table.get_put {α : Type} (t : Table α) (p q : Nat) (v : α) :
    Table.get (Table.set t p v) q = if q = p then some v else Table.get t q := by
  induction t with
  | nil => simp [Table.set, Table.get, eq_comm]
  | cons x r ih =>
    obtain ⟨k, w⟩ := x
    simp only [Table.set]
    split
    · simp [Table.get, eq_comm]
    · split
      · next h =>
        subst h
        simp only [Table.get, eq_comm (a := p)]
        split <;> rfl
      · next h =>
        simp only [Table.get, ih]
        split
        · next hk => rw [if_neg fun hq => h (hk.trans hq).symm]
        · rfl

/-! ### The rear end -/

theorem modOwnEntry_quiet (f : RosterEntry → RosterEntry) (h : ∀ e, (f e).own = e.own) : Quiet L s (modOwnEntry f s) := by
  unfold modOwnEntry
  split
  · refine .entries _ (fun hw => Table.wf_modify _ _ _ hw) fun _ => ?_
    rw [Table.get_modify, if_pos rfl, Option.map_map]
    congr 1
    funext e
    exact h e
  · exact .refl L s

theorem queueNotice_quiet (f : Frame) (n : Note) : Quiet L s (queueNotice f n s) :=
  (Quiet.offer f).trans (modOwnEntry_quiet _ fun _ => rfl)

theorem setRear_quiet (r : RearStatus) : Quiet L s (setRear r s) := .plain rfl
theorem setNeighbour_quiet (d : Option Deficiency) : Quiet L s (setNeighbour d s) := .plain rfl

theorem entryDecision_quiet : Quiet L s (entryDecision s) := by
  simp only [entryDecision]
  split
  · exact setRear_quiet _
  · split
    · exact (queueNotice_quiet _ _).trans (setRear_quiet _)
    · split
      · exact queueNotice_quiet ..
      · exact (queueNotice_quiet ..).trans (raiseFault_quiet _ _ _ (by simp))

theorem raiseIfDeficient_quiet : Quiet L s (raiseIfDeficient s) := by
  unfold raiseIfDeficient
  split
  · exact .refl L s
  · exact raiseFault_quiet _ _ _ (by simp)

theorem takeFromBehind_quiet (p : Nat) : Quiet L s (takeFromBehind p s) := by
  unfold takeFromBehind
  extract_lets u v
  have h1 : Quiet L s u := by
    unfold u
    split
    · exact (setRear_quiet _).trans (queueNotice_quiet ..)
    · exact .refl L s
  have h2 : Quiet L s v := h1.trans (clearFault_quiet ..)
  split
  · exact h2.trans (setNeighbour_quiet _)
  · exact h2

theorem rearTake_quiet (p : Nat) : Quiet L s (rearTake p s) := by
  unfold rearTake takeFromFront
  split
  · exact .refl L s
  · split
    · exact takeFromBehind_quiet p
    · split
      · split
        · exact queueNotice_quiet ..
        · exact .refl L s
      · exact .refl L s

theorem rearDecline_quiet (p : Nat) (d : Deficiency) : Quiet L s (rearDecline p d s) := by
  simp only [rearDecline]
  split
  · split
    · exact (setNeighbour_quiet _).trans (setRear_quiet _)
    · exact setNeighbour_quiet _
  · exact .refl L s

theorem rearPresence_quiet : Quiet L s (rearPresence s) := by
  unfold rearPresence
  split
  · exact setRear_quiet _
  · exact .refl L s

theorem rearUncoupled_quiet : Quiet L s (rearUncoupled s) := by
  simp only [rearUncoupled]
  split
  · exact (setNeighbour_quiet _).trans ((setRear_quiet _).trans raiseIfDeficient_quiet)
  · exact setNeighbour_quiet _

theorem rearDepart_quiet (l : List Nat) : Quiet L s (rearDepart l s) := by
  simp only [rearDepart]
  split
  · split
    · split
      · exact (setNeighbour_quiet _).trans (setRear_quiet _)
      · exact (setNeighbour_quiet _).trans ((setRear_quiet _).trans raiseIfDeficient_quiet)
    · exact setNeighbour_quiet _
  · exact .refl L s

/-! ### Departure -/

/-- A DEPART that does not list the own seat. -/
theorem applyDepart_quiet (l : List Nat) (h : s.seated = true → s.seat.ownSeat ∉ l) : Quiet L s (applyDepart l s) := by
  simp only [applyDepart]
  have h1 := Quiet.entries (L := L) (s := s)
    (Table.erase s.roster.entries (l.filter fun p => Table.holds s.roster.entries p)) (Table.wf_erase _ _) fun hs => by
      rw [Table.get_erase, if_neg fun hm => h hs (List.mem_of_mem_filter hm)]
  refine h1.trans (.trans (.reasm (Table.erase s.roster.reasm l) (Table.wf_erase _ _)) ?_)
  exact .trans (.demandTable (Table.erase s.demand.table _) (Table.wf_erase _ _))
    (.trans (.motionTable (Table.erase s.sensor.table _) (Table.wf_erase _ _)) (rearDepart_quiet l))

theorem sendDepart_quiet (l : List Nat) (r : DepartReason) (h : s.seat.ownSeat ∉ l) : Quiet L s (sendDepart l r s) := by
  have h1 : Quiet L s (applyDepart l (offer (.depart l r) s)) :=
    (Quiet.offer _).trans (applyDepart_quiet l fun _ => by simpa using h)
  simp only [sendDepart]
  split
  · exact h1.trans rearUncoupled_quiet
  · exact h1

theorem judgeDeparture_quiet : Quiet L s (judgeDeparture s) := by
  have h1 : Quiet L s { s with seat := { s.seat with departure := .stopped, answered := [] } } := .plain rfl
  simp only [judgeDeparture]
  split
  · exact h1.trans (raiseFault_quiet _ _ _ (by simp))
  · split
    · exact h1.trans (sendDepart_quiet _ _ (by simp))
    · exact h1.trans (sendDepart_quiet _ _ (by simp))

theorem judgeFull_quiet : Quiet L s (judgeFull s) := by
  unfold judgeFull
  split
  · exact raiseFault_quiet _ _ _ (by simp)
  · exact .refl L s

theorem judgeFront_quiet : Quiet L s (judgeFront s) := by
  unfold judgeFront
  split
  · next h =>
    simp only [Bool.and_eq_true] at h
    exact raiseFault_quiet _ _ _ fun _ => h.1.1
  · exact .refl L s

theorem cancelDeparture_quiet : Quiet L s (cancelDeparture s) := by
  unfold cancelDeparture
  split
  · have h1 : Quiet L s { s with seat := { s.seat with departure := .stopped, answered := [] } } := .plain rfl
    exact h1.trans (withdraw_quiet _)
  · exact .refl L s

theorem seatInFalls_quiet : Quiet L s (seatInFalls s) := judgeFront_quiet.after rfl

theorem presInRises_quiet : Quiet L s (presInRises s) := by
  have h1 : Quiet L s { s with seat := { s.seat with presIn := true, presInSeen := true } } := .plain rfl
  exact h1.trans (cancelDeparture_quiet.trans (clearPresence_quiet.trans (rearPresence_quiet.trans judgeFull_quiet)))

theorem beginDeparture_quiet : Quiet L s (beginDeparture s) := by
  unfold beginDeparture
  split
  · exact (Quiet.offer _).after rfl
  · exact .refl L s

theorem presInFalls_quiet : Quiet L s (presInFalls s) := by
  have h1 : Quiet L s { s with seat := { s.seat with presIn := false, presInSeen := true } } := .plain rfl
  exact h1.trans ((clearFault_quiet ..).trans beginDeparture_quiet)

theorem offerOver_quiet : Quiet L s (offerOver s) := by
  have h1 : Quiet L s (if s.line.queue.any fun e => e.frame.isOffer && !e.inFlight then s else sendOffer s) := by
    split
    · exact .refl L s
    · exact .offer _
  exact h1.trans (.plain rfl)

/-! ### Body channels, the relay and the port -/

theorem queueStatus_quiet (n : Nat) (o : BodyOutcome) (g : Nat) : Quiet L s (queueStatus n o g s) := .offer _

theorem bodyStart_quiet (n g : Nat) : Quiet L s (bodyStart n g s) := by
  unfold bodyStart
  split
  · exact (modBody_quiet ..).trans (queueStatus_quiet ..)
  · exact (modBody_quiet ..).trans ((clearFault_quiet ..).trans (judgeOwn_quiet.trans (queueStatus_quiet ..)))

theorem bodyStop_quiet (n g : Nat) : Quiet L s (bodyStop n g s) := by
  simp only [bodyStop]
  split
  · exact .offer _
  · split
    · exact (modBody_quiet ..).trans ((stopRun_quiet ..).trans (queueStatus_quiet ..))
    · exact (modBody_quiet ..).trans (queueStatus_quiet ..)

theorem ownRequest_quiet (n : Nat) (b : Bool) (g : Nat) : Quiet L s (ownRequest n b g s) := by
  unfold ownRequest
  split
  · exact bodyStart_quiet n g
  · exact bodyStop_quiet n g

theorem relayRequest_quiet (t c : Nat) (b : Bool) (g : Nat) : Quiet L s (relayRequest t c b g s) := by
  simp only [relayRequest]
  split
  · exact (Quiet.offer _).after rfl
  · exact .plain rfl

theorem bodyRequest_quiet (p c : Nat) (b : Bool) (g : Nat) : Quiet L s (bodyRequest p c b g s) := by
  unfold bodyRequest
  split
  · exact ownRequest_quiet ..
  · exact relayRequest_quiet ..

theorem bodyTrip_quiet (n : Nat) : Quiet L s (bodyTrip n s) :=
  (endRun_quiet ..).trans (raiseFault_quiet _ _ _ (by simp))

theorem withdrawId_quiet (id : Nat) : Quiet L s (withdrawId id s) := by
  have h : Quiet L s (s.setQueue (s.line.queue.filter fun e => e.inFlight || !(e.id == id))) := .withdrawn fun e => e.id == id
  exact h

theorem relayExpiry_quiet : Quiet L s (relayExpiry s) := by
  simp only [relayExpiry]
  split
  · exact (withdrawId_quiet _).trans (.plain rfl)
  · exact .plain rfl

theorem endQuery_quiet (o : QueryOutcome) : Quiet L s (endQuery o s) := .plain rfl

theorem requestQuery_quiet (t c f k : Nat) : Quiet L s (requestQuery t c f k s) := by
  unfold requestQuery
  split
  · exact endQuery_quiet _
  · split
    · exact endQuery_quiet _
    · exact (Quiet.offer _).after rfl

theorem queryExpiry_quiet (q : Query) : Quiet L s (queryExpiry q s) := by
  unfold queryExpiry
  split
  · exact (withdrawId_quiet _).trans (endQuery_quiet _)
  · exact (Quiet.dying q.frameId).trans (endQuery_quiet _)

theorem setAnswering_quiet (a : Option Answering) : Quiet L s (setAnswering a s) := .plain rfl

theorem answerNext_quiet : Quiet L s (answerNext s) := by
  unfold answerNext
  split
  · exact .refl L s
  · split
    · exact (setAnswering_quiet _).trans (.offer _)
    · exact (setAnswering_quiet _).trans (.offer _)

theorem oweBusy_quiet (b : OwedBusy) : Quiet L s (oweBusy b s) := .plain rfl
theorem offerBusy_quiet (b : OwedBusy) : Quiet L s (offerBusy b s) := .offer _

theorem takeQuery_quiet (r c f k : Nat) : Quiet L s (takeQuery r c f k s) := by
  simp only [takeQuery]
  split
  · exact (setAnswering_quiet _).trans answerNext_quiet
  · split
    · exact oweBusy_quiet _
    · split
      · exact offerBusy_quiet _
      · exact (offerBusy_quiet _).trans (oweBusy_quiet _)

theorem answerSent_quiet (a : AnswerStatus) : Quiet L s (answerSent a s) := by
  unfold answerSent
  split
  · exact .refl L s
  · split
    · exact setAnswering_quiet _
    · exact .refl L s

theorem answerAgain_quiet (o : Option OwedBusy) (d : Bool) : Quiet L s (answerAgain o d s) := by
  unfold answerAgain
  split
  · exact .refl L s
  · split
    · exact (offerBusy_quiet _).after rfl
    · split
      · exact .refl L s
      · split
        · exact answerNext_quiet
        · exact .refl L s

theorem queryMoves_quiet (q : Query) (i : Nat) (a : AnswerStatus) : Quiet L s (queryMoves q i a s) := by
  unfold queryMoves
  split
  · exact endQuery_quiet _
  · exact endQuery_quiet _
  · split
    · exact endQuery_quiet _
    · exact .plain rfl

theorem takeAnswer_quiet (p r c i : Nat) (a : AnswerStatus) (d : List Byte) : Quiet L s (takeAnswer p r c i a d s) := by
  unfold takeAnswer
  split
  · exact .refl L s
  · split
    · refine .trans ?_ (queryMoves_quiet ..)
      unfold storeAnswer
      split <;> exact .plain rfl
    · exact .refl L s

theorem querySent_quiet (id : Nat) : Quiet L s (querySent id s) := by
  unfold querySent
  split
  · exact .refl L s
  · split
    · exact .plain rfl
    · exact .refl L s

theorem relaySent_quiet (id : Nat) : Quiet L s (relaySent id s) := by
  unfold relaySent
  split
  · exact .plain rfl
  · exact .refl L s

/-! ### Demand inputs and sensors -/

theorem setHold_quiet (n : Nat) (t : Timer) : Quiet L s (setHold n t s) := .plain rfl

theorem inputChange_quiet (n : Nat) (b : Bool) : Quiet L s (inputChange n b s) := by
  have h1 : Quiet L s { s with demand := { s.demand with levels := modNth s.demand.levels n fun _ => b } } := .plain rfl
  simp only [inputChange]
  split
  · exact h1
  · exact h1
  · exact h1.trans (setHold_quiet ..)
  · split
    · exact h1.trans (ownRequest_quiet ..)
    · exact h1

theorem dropDemand_quiet (p : Nat) : Quiet L s (dropDemand p s) := .demandTable _ (Table.wf_erase _ _)

theorem staleEntry_quiet (p : Nat) : Quiet L s (staleEntry p s) := .motionTable _ (Table.wf_modify _ _ _)

theorem queueCounts_quiet : Quiet L s (queueCounts s) := by
  unfold queueCounts
  split
  · exact (Quiet.offer _).after rfl
  · exact .refl L s

theorem queueAnalog_quiet : Quiet L s (queueAnalog s) := by
  unfold queueAnalog
  split
  · exact (Quiet.offer _).after rfl
  · exact .refl L s

theorem conversion_quiet (l : List AnalogSample) : Quiet L s (conversion l s) := by
  have h1 : Quiet L s
      { s with
        sensor :=
          { s.sensor with
            conversion := Timer.start Config.conversionMs
            analogs := convertAll s.loader.profile.analog l s.sensor.analogs } } := .plain rfl
  simp only [conversion]
  split
  · exact h1
  · exact h1.trans queueAnalog_quiet

theorem setMotion_quiet (m : Bool) : Quiet L s (setMotion m s) := by
  unfold setMotion
  split
  · exact .refl L s
  · exact queueCounts_quiet.after rfl

theorem wheelEdge_quiet : Quiet L s (wheelEdge s) := by
  have h1 : Quiet L s { s with sensor := { s.sensor with wheel := Timer.start Config.wheelMs } } := .plain rfl
  simp only [wheelEdge]
  split
  · exact h1.trans (setMotion_quiet _)
  · exact h1

theorem bumpCounter_quiet (n : Nat) : Quiet L s (bumpCounter n s) := .plain rfl

theorem countEdge_quiet (n : Nat) : Quiet L s (countEdge n s) := by
  simp only [countEdge]
  split
  · exact (bumpCounter_quiet n).trans (bumpCounter_quiet _)
  · exact bumpCounter_quiet n

theorem edge_quiet (n : Nat) (b : Bool) : Quiet L s (edge n b s) := by
  have h1 : Quiet L s { s with sensor := { s.sensor with levels := modNth s.sensor.levels n fun _ => b } } := .plain rfl
  simp only [edge]
  split
  · split
    · exact h1.trans ((countEdge_quiet n).trans wheelEdge_quiet)
    · exact h1.trans (countEdge_quiet n)
  · exact h1

theorem wheelOver_quiet : Quiet L s (wheelOver s) := (setMotion_quiet false).after rfl

/-! ### Announcements -/

theorem offerSegment_quiet : Quiet L s (offerSegment s) := by
  unfold offerSegment
  split
  · exact .refl L s
  · next a ha =>
    have h1 : Quiet L s (setAnnounce (some { a with reoffer := false }) s) :=
      .announced _ fun x hx hp => .inr ⟨a, ha, by cases hx; exact hp⟩
    exact h1.trans (.offer _)

theorem beginSequence_quiet (p : Purpose)
    (h : p = .initial → s.seat.stage = .profiling ∨ ∃ y, s.roster.announce = some y ∧ y.purpose = .initial) :
    Quiet L s (beginSequence p s) := by
  refine .trans (.announced _ fun x hx hp => ?_) offerSegment_quiet
  cases hx
  exact h hp

/-- A sequence begun or restarted; one of purpose INITIAL in PROFILING. -/
theorem runSequence_quiet (p : Purpose) (h : p = .initial → s.seat.stage = .profiling) : Quiet L s (runSequence p s) := by
  unfold runSequence
  split
  · exact .refl L s
  · split
    · exact beginSequence_quiet p fun hp => .inl (h hp)
    · next a ha =>
      have hi : (if a.purpose = .initial then .initial else p) = .initial →
          s.seat.stage = .profiling ∨ ∃ y, s.roster.announce = some y ∧ y.purpose = .initial := by
        split
        · next he => exact fun _ => .inr ⟨a, ha, he⟩
        · exact fun hp => .inl (h hp)
      simp only [restartSequence]
      split
      · exact .announced _ fun x hx hp => by cases hx; exact hi hp
      · exact (withdraw_quiet _).trans (beginSequence_quiet _ hi)

theorem actOnDue_quiet : Quiet L s (actOnDue s) := by
  unfold actOnDue
  split
  · exact (runSequence_quiet .announce (by simp)).after rfl
  · exact .refl L s

theorem defendSeat_quiet : Quiet L s (defendSeat s) := by
  have h1 : Quiet L s (offer (.seatClaim s.seat.ownSeat s.loader.identity s.loader.profile.cls false) s) := .offer _
  simp only [defendSeat]
  split
  · exact h1.trans (runSequence_quiet _ (by simp))
  · next hg => exact h1.trans (runSequence_quiet _ fun _ => hg)
  all_goals exact h1.trans (runSequence_quiet _ (by simp))

/-! ### The phase -/

theorem withdrawMark_quiet : Quiet L s (withdrawMark s) := withdraw_quiet _

theorem markDecision_quiet (q : Nat) : Quiet L s (markDecision q s) := by
  unfold markDecision
  split
  · exact .offer _
  · exact .refl L s

theorem wrapGates_quiet : Quiet L s (wrapGates s) := by
  unfold wrapGates
  split
  · exact .plain rfl
  · exact .refl L s

theorem takeWrap_quiet (hL : L ∨ s.loaded = true) : Quiet L s (takeWrap s) := by
  have h1 : Quiet L s { s with phase := s.phase.wrapped } := .plain rfl
  have h2 := mapChannels_quiet (s := { s with phase := s.phase.wrapped }) (L := L) Channel.newCycle (fun _ => id) hL
  rw [setChannels_map Channel.newCycle fun _ => ⟨rfl, rfl⟩] at h2
  have h3 : Quiet L
      { s with
        phase := s.phase.wrapped
        lamps := { s.lamps with channels := s.lamps.channels.map Channel.newCycle } } _ :=
    .line { s.line with reception := s.line.reception.map (Reception.carried s.phase.len) } rfl rfl rfl
      (fun _ => by simp only [LineUnit.sending, Option.map_map]; rfl) (fun h => { h with }) (fun h => h)
  exact h1.trans (h2.trans (h3.trans ((markDecision_quiet _).trans wrapGates_quiet)))

theorem wrapIfOver_quiet (hL : L ∨ s.loaded = true) : Quiet L s (wrapIfOver s) := by
  unfold wrapIfOver
  split
  · exact takeWrap_quiet hL
  · exact .refl L s

/-! ### The line -/

theorem LineUnit.read_fields (l : LineUnit) (b : List Bool) :
    (l.read b).queue = l.queue ∧ (l.read b).followOn = l.followOn ∧ (l.read b).nextId = l.nextId ∧
    (l.read b).reception = l.reception ∧ (l.read b).cutOff = l.cutOff ∧ (l.read b).malformed = l.malformed ∧
    (l.read b).overflow = l.overflow ∧ (l.read b).driveFaults = l.driveFaults ∧ (l.read b).mute = l.mute := by
  have h := l.read_keeps b
  exact ⟨(congrArg LineUnit.queue h :), (congrArg LineUnit.followOn h :), (congrArg LineUnit.nextId h :),
    (congrArg LineUnit.reception h :), (congrArg LineUnit.cutOff h :), (congrArg LineUnit.malformed h :),
    (congrArg LineUnit.overflow h :), (congrArg LineUnit.driveFaults h :), (congrArg LineUnit.mute h :)⟩

theorem LineFine.read {l : LineUnit} (h : LineFine l) (b : List Bool) : LineFine (l.read b) := by
  obtain ⟨-, -, -, -, hc, hm, ho, hd, -⟩ := l.read_fields b
  have hr := l.read_runs b h.recessive h.dominant
  exact ⟨hr.1, hr.2, hc ▸ h.cutOff, hm ▸ h.malformed, ho ▸ h.overflow, hd ▸ h.driveFaults⟩

/-- What a line with another frame's bits read, and with that frame dropped, keeps. -/
structure HeardLine (l m : LineUnit) : Prop where
  queue : m.queue = l.queue
  followOn : m.followOn = l.followOn
  nextId : m.nextId = l.nextId
  sending : m.sending = l.sending
  fine : LineFine l → LineFine m
  mute : MuteOk l → MuteOk m

theorem HeardLine.trans {l m n : LineUnit} (h : HeardLine l m) (k : HeardLine m n) : HeardLine l n :=
  ⟨k.queue.trans h.queue, k.followOn.trans h.followOn, k.nextId.trans h.nextId, k.sending.trans h.sending,
    k.fine ∘ h.fine, k.mute ∘ h.mute⟩

theorem LineUnit.readOther_heard (l : LineUnit) (b : List Bool) : HeardLine l (l.readOther b) := by
  unfold LineUnit.readOther
  split
  · exact ⟨rfl, rfl, rfl, rfl, id, id⟩
  · obtain ⟨hq, hf, hn, hr, -, -, -, hd, hm⟩ := l.read_fields (b.drop l.known)
    refine ⟨hq, hf, hn, by simp only [LineUnit.sending, hr], fun h => h.read _, ?_⟩
    simp only [MuteOk, hd, hm]
    exact id

theorem LineUnit.dropHeard_heard (l : LineUnit) : HeardLine l l.dropHeard := by
  unfold LineUnit.dropHeard
  split
  · exact ⟨rfl, rfl, rfl, rfl, id, id⟩
  · next h => exact ⟨rfl, rfl, rfl, by simp [LineUnit.sending] at h ⊢; exact h, fun h => { h with }, id⟩

theorem HeardLine.quiet {m : LineUnit} (h : HeardLine s.line m) : Quiet L s { s with line := m } :=
  .line m h.queue h.followOn h.nextId (fun _ => h.sending) h.fine h.mute

theorem frameHeard_quiet (k p : Nat) (d : List Byte) : Quiet L s (frameHeard k p d s) := by
  have h : Quiet L s { s with line := s.line.heard k p d } :=
    ((s.line.readOther_heard _).trans (LineUnit.dropHeard_heard _)).quiet
  exact h.trans (.plain rfl)

theorem countMalformed_quiet : Quiet L s (countMalformed s) := by
  have h := s.line.dropHeard_heard
  exact HeardLine.quiet ⟨h.queue, h.followOn, h.nextId, h.sending,
    fun k => { h.fine k with malformed := bump_le k.malformed }, h.mute⟩

theorem frameDiscarded_quiet (b : List Bool) : Quiet L s (countMalformed { s with line := s.line.readOther b }) :=
  (s.line.readOther_heard b).quiet.trans countMalformed_quiet

theorem noteStart_quiet (h : s.inFlight = none) : Quiet L s (noteStart true s) := by
  refine .line _ rfl rfl rfl (fun hq => ?_)
    (fun h => ⟨Nat.zero_le _, by simp, Nat.zero_le _, h.malformed, h.overflow, h.driveFaults⟩) id
  rw [hq.onLine, h]
  rfl

theorem lineQuiet_quiet (h : s.inFlight = none) : Quiet L s (lineQuiet s) := by
  refine .line _ rfl rfl rfl (fun hq => ?_)
    (fun h => ⟨by simp, Nat.zero_le _, Nat.zero_le _, h.malformed, h.overflow, h.driveFaults⟩) id
  rw [hq.onLine, h]
  rfl

theorem enableDriver_quiet : Quiet L s (enableDriver s) :=
  .line _ rfl rfl rfl (fun _ => rfl) (fun h => { h with }) id

theorem lineFreed_quiet : Quiet L s (lineFreed s) := by
  refine .trans ?_ (clearFault_quiet ..)
  exact .line _ rfl rfl rfl (fun _ => rfl)
    (fun h => ⟨by simp, Nat.zero_le _, Nat.zero_le _, h.malformed, h.overflow, h.driveFaults⟩) id

end Sys2Proof.Machine
end

section
/-! SUPPORT. Frames received that leave the stage: what each does is quiet. -/

namespace Sys2Proof.Machine

variable {L : Prop} {s : State}

theorem modEntry_quiet (p : Nat) (f : RosterEntry → RosterEntry) : Quiet L s (modEntry p f s) := by
  unfold modEntry
  split
  · exact .refl L s
  · next h =>
    refine .entries _ (Table.wf_modify _ _ _) fun hs => ?_
    rw [Table.get_modify, if_neg]
    rintro rfl
    simp [hs] at h

/-- A claim of another position than a seated station's own. -/
theorem insertClaim_quiet (p : Nat) (e : RosterEntry) (h1 : 1 ≤ p) (h8 : p ≤ 8)
    (hp : s.seated = true → p ≠ s.seat.ownSeat) : Quiet L s (insertClaim p e s) := by
  have h := Quiet.entries (L := L) (s := s) (Table.set s.roster.entries p e) (fun hw => Table.wf_set _ _ _ hw h1 h8)
    fun hs => by rw [Table.get_put, if_neg (hp hs).symm]
  exact h.trans (.reasm _ (Table.wf_erase _ _))

theorem setCollecting_quiet (p : Nat) (c : Option Collecting) (h1 : 1 ≤ p) (h8 : p ≤ 8) :
    Quiet L s (setCollecting p c s) := by
  refine .reasm _ fun hw => ?_
  cases c with
  | none => exact Table.wf_erase _ _ hw
  | some c => exact Table.wf_set _ _ _ hw h1 h8

theorem applySummary_quiet (p : Nat) (b : List Byte) (h1 : 1 ≤ p) (h8 : p ≤ 8)
    (hp : s.seated = true → p ≠ s.seat.ownSeat) : Quiet L s (applySummary p b s) := by
  unfold applySummary
  split
  · exact .refl L s
  · refine .entries _ (fun hw => Table.wf_set _ _ _ hw h1 h8) fun hs => ?_
    rw [Table.get_put, if_neg (hp hs).symm]

theorem gathered_quiet (p n k : Nat) (b : List Byte) (h1 : 1 ≤ p) (h8 : p ≤ 8)
    (hp : s.seated = true → p ≠ s.seat.ownSeat) : Quiet L s (gathered p n k b s) := by
  unfold gathered
  split
  · exact (setCollecting_quiet p none h1 h8).trans (applySummary_quiet p b h1 h8 hp)
  · exact setCollecting_quiet p _ h1 h8

theorem takeSegment_quiet (p i n : Nat) (b : List Byte) (h1 : 1 ≤ p) (h8 : p ≤ 8)
    (hp : s.seated = true → p ≠ s.seat.ownSeat) : Quiet L s (takeSegment p i n b s) := by
  unfold takeSegment
  split
  · exact setCollecting_quiet p _ h1 h8
  · split
    · exact gathered_quiet p _ _ _ h1 h8 hp
    · split
      · exact .refl L s
      · split
        · exact gathered_quiet p _ _ _ h1 h8 hp
        · exact setCollecting_quiet p _ h1 h8

theorem takeDemand_quiet (p : Nat) (m f : Byte) (h1 : 1 ≤ p) (h8 : p ≤ 8) : Quiet L s (takeDemand p m f s) := by
  refine .demandTable _ fun hw => ?_
  split
  · exact Table.wf_erase _ _ hw
  · exact Table.wf_set _ _ _ hw h1 h8

theorem takeCounts_quiet (p : Nat) (m : Bool) (h1 : 1 ≤ p) (h8 : p ≤ 8) : Quiet L s (takeCounts p m s) :=
  .motionTable _ fun hw => Table.wf_set _ _ _ hw h1 h8

theorem sender_of_frameValid {o k p : Nat} {d : List Byte} (h : frameValid o k p d = true) (hk : k ≠ 3) :
    1 ≤ p ∧ p ≤ 8 := by
  have hk' : (k == 3) = false := by simpa using hk
  simp only [frameValid, Bool.and_eq_true, hk', Bool.false_and] at h
  have := (senderOk_iff false p).mp h.1.2
  simpa using this

/-- The commands whose effect can be more than a quiet change. -/
def movesStage : Instr → Bool
  | .loadDone _ | .seatInChange _ | .headListenExpiry | .unseatedTimerExpiry | .claimWindowExpiry | .syncTimerExpiry
  | .checkTurnEnd | .frameStart | .arbitrationLost | .driveFault | .frameSent | .lineStuck | .slotTake
  | .markReceived _ _ _ _ | .departReceived _ _ _ | .seatOfferReceived _ _ | .seatClaimReceived _ _ _ _ => true
  | _ => false

/-- Every other frame received is taken quietly. -/
theorem received_quiet {s0 : State} {c : Instr} {o k p : Nat} {d : List Byte} {f : State → State}
    (h : ReceivedAs s0 c k p d f) (hv : frameValid o k p d = true) (hc : movesStage c = false) : Quiet L s (f s) := by
  cases h
  case mark | depart | seatOffer | seatClaim => cases hc
  case demand =>
    obtain ⟨h1, h8⟩ := sender_of_frameValid hv (by decide)
    exact takeDemand_quiet _ _ _ h1 h8
  case probe =>
    dsimp only
    split
    · exact .offer _
    · exact .refl L s
  case probePresent =>
    dsimp only
    split
    · exact .plain rfl
    · exact .refl L s
  case stageChecked | stageJoined | stageYield | fault => exact modEntry_quiet ..
  case stageTake => exact (modEntry_quiet ..).trans (rearTake_quiet _)
  case stageDecline => exact (modEntry_quiet ..).trans (rearDecline_quiet ..)
  case bodyRequest =>
    dsimp only
    split
    · split
      · exact ownRequest_quiet ..
      · split
        · exact ownRequest_quiet ..
        · exact .refl L s
    · exact .refl L s
  case bodyStatus =>
    dsimp only
    split
    · exact .plain rfl
    · exact .refl L s
  case profileSegment =>
    obtain ⟨h1, h8⟩ := sender_of_frameValid hv (by decide)
    dsimp only
    split
    · exact .refl L s
    · next hn => exact takeSegment_quiet _ _ _ _ h1 h8 fun hs he => hn (by simp [hs, he])
  case reportCounts =>
    obtain ⟨h1, h8⟩ := sender_of_frameValid hv (by decide)
    exact takeCounts_quiet _ _ h1 h8
  case reportAnalog => exact .refl L s
  case query =>
    dsimp only
    split
    · exact takeQuery_quiet ..
    · exact .refl L s
  case answer => exact takeAnswer_quiet ..

end Sys2Proof.Machine
end

section
/-! SUPPORT. The moves of the station between its stages and of its frames between queue and line, and the paths they make with the
quiet changes: every event is one. -/

namespace Sys2Proof.Machine

/-! ### The parts of the stage changes that are not quiet -/

/-- A claim is made: CLAIMING is entered. -/
def claimSeat (seat id : Nat) (rejoin marker : Bool) (s : State) : State :=
  { s with
    seat :=
      { s.seat with
        stage := .claiming, claimed := seat, claim := .pending, claimId := id, claimRejoin := rejoin
        fallbackMark := marker } }

/-- A waiting rejoin is given up. -/
def forgetRejoin (s : State) : State := retainSeat 0 { s with seat := { s.seat with rejoin := none } }

/-- The claimed seat is taken, with its roster entry. -/
def takeSeat (s : State) : State :=
  let t :=
    { s with
      seat :=
        { s.seat with stage := .profiling, ownSeat := s.seat.claimed, claimed := 0, claim := .none, window := .stopped }
      retention := { s.retention with valid := true, seat := s.seat.claimed, identity := s.loader.identity } }
  { t with roster := { t.roster with entries := Table.set t.roster.entries s.seat.claimed t.newOwnEntry } }

/-- SYNC is entered. -/
def startSync (s : State) : State :=
  { s with
    seat := { s.seat with stage := .sync, fallbackMark := false }
    phase := { s.phase with marked := false, syncTimer := Timer.start (3 * s.phase.period) } }

/-- CHECKING is entered. -/
def startChecking (s : State) : State := { s with seat := { s.seat with stage := .checking, fallbackMark := false } }

/-- JOINED is entered. -/
def startJoined (s : State) : State := setStage .joined { s with phase := { s.phase with syncTimer := .stopped } }

/-- The circuit check stands at a turn. -/
def setCheck (k : Check) (s : State) : State := { s with lamps := { s.lamps with check := some k } }

/-- What ends with a seat, but for the faults that end with it. -/
def dropSeat (g : Stage) (all : Bool) (s : State) : State :=
  let t := emptyQueue all { s with seat := { s.seat with stage := g, ownSeat := 0, reseat := true } }
  { t with
    roster := { t.roster with entries := Table.erase t.roster.entries [s.seat.ownSeat] }
    phase := { t.phase with syncTimer := .stopped, adoption := none }
    demand := { t.demand with repeatTimer := .stopped, active := false }
    sensor := { t.sensor with countsTimer := .stopped, analogTimer := .stopped }
    rear := { status := .none, neighbour := none } }

/-- CONFLICT is entered, but for the fault raised then. -/
def startConflict (s : State) : State :=
  emptyQueue true
    (retainSeat 0
      { s with
        seat :=
          { s.seat with
            stage := .conflict, ownSeat := 0, rejoin := none, claimed := 0, claim := .none, fallbackMark := false,
            expiryHeld := false, headListen := .stopped, unseated := .stopped, window := .stopped, offer := .stopped,
            departure := .stopped, answered := [] } })

/-- The own claim has been sent. -/
def startWindow (s : State) : State :=
  { s with
    seat :=
      { s.seat with
        claim := .window, unseated := .stopped, expiryHeld := false, window := Timer.start Config.claimWindowMs } }

/-- The frame in flight has been sent: its bits are read and it leaves the queue, with the frame held for its class. -/
def frameGone (x : Entry) (s : State) : State :=
  { s with
    line :=
      { s.line.read ((s.line.reception.map Reception.rest).getD []) with
        reception := none
        queue := s.line.queue.filter fun e => !e.inFlight
        followOn := s.line.followOn.filter fun g =>
          !(x.frame.replaceClass.isSome && g.replaceClass == x.frame.replaceClass) } }

/-- Load done up to LISTEN. -/
def loadListen (p : LoadSample) (s : State) : State :=
  let t := applyImage s
  enterListen (startPhase (takeSample p (writeRecord t.warmTest (decideRetention t.warmTest t))))

/-! ### Moves and paths -/

/-- A seat is left for the stage `g`, with what ends quietly then; the own roster entry may have gone before it. -/
inductive LeftSeat (L : Prop) (s : State) (g : Stage) (all : Bool) : State → Prop where
  | intro (l : Table RosterEntry) {a u : State} : s.seated = true → (Table.wf s.roster.entries = true → Table.wf l = true) →
      Quiet L { s with roster := { s.roster with entries := l } } a → a.lamps.check = none →
      Quiet L (clearFault .frontLinkLost 0 (dropSeat g all a)) u → LeftSeat L s g all u

/-- Nothing of the first announcement and of a check is under way at a seated station. -/
def Ready (s : State) : Prop :=
  s.seated = true ∧ s.lamps.check = none ∧ ∀ a, s.roster.announce = some a → a.purpose ≠ .initial

/-- One move. `R` admits a frame's return to pending. -/
inductive Move (R L : Prop) : State → State → Prop where
  | claim {s} (seat id : Nat) (b m : Bool) : s.seated = false → s.loaded = true →
      (s.seat.claim = .pending ∨ s.seat.stage ≠ .claiming) → (SeatsOk s → isSeat seat) → Move R L s (claimSeat seat id b m s)
  | forget {s} : s.seated = false → Move R L s (forgetRejoin s)
  | standalone {s} : (UnderWay s → s.seated = false ∧ s.loaded = true) → Move R L s (enterStandalone s)
  | conflict {s} : (UnderWay s → s.seated = false ∧ s.loaded = true) → Move R L s (startConflict s)
  | left {s u} : LeftSeat L s .standalone false u → Move R L s (enterStandalone u)
  | yielded {s u} : LeftSeat L s .conflict true u → Move R L s (startConflict u)
  | seated {s} : s.seat.stage = .claiming → s.seat.window.isRunning = true → Move R L s (takeSeat s)
  | sync {s u} : Quiet L s u → (UnderWay s → Ready u) → Move R L s (startSync u)
  | checking {s u} : Quiet L s u → (UnderWay s → Ready u) → Move R L s (startChecking u)
  | testing {s} (k : Check) : s.seat.stage = .checking → k.turn = 0 → k.todo ≠ [] →
      (CheckOk s → ∀ n ∈ k.todo, s.assigned n = true) → Move R L s (setCheck k s)
  | joined {s} : s.seat.stage = .sync → Move R L s (startJoined s)
  | held {s} : s.seat.claim = .inFlight → Move R L s { s with seat := { s.seat with expiryHeld := true } }
  | started {s} : s.mayStart = true → Move R L s (noteStart false (startHead s))
  | returned {s} (l : LineUnit) : R → l.queue = (returnToPending s).line.queue →
      l.followOn = (returnToPending s).line.followOn → l.nextId = s.line.nextId → l.sending = false →
      (LineFine s.line → LineFine l) → (MuteOk s.line → MuteOk l) → Move R L s { returnToPending s with line := l }
  | sent {s} (x : Entry) : s.inFlight = some x → Move R L s (frameGone x s)
  | claimSent {s} : s.seat.claim = .inFlight → Move R L s (startWindow s)
  | muted {s u} (t : Timer) : Quiet L { s with line := { s.line with disable := t, driveFaults := 3 } } u →
      Move R L s { u with line := { u.line with mute := true } }
  | loaded {s} (p : LoadSample) : s.seat.stage = .loading → Move R L s (loadListen p s)

/-- A chain of quiet changes and moves. -/
inductive Path (R L : Prop) : State → State → Prop where
  | quiet {s t} : Quiet L s t → Path R L s t
  | move {s t} : Move R L s t → Path R L s t
  | trans {s t u} : Path R L s t → Path R L t u → Path R L s u

variable {R L : Prop} {s t : State}

/-- What every quiet change and every move keeps, every path keeps. -/
theorem Path.keep {P : State → Prop} (hq : ∀ {s t}, Quiet L s t → P s → P t) (hm : ∀ {s t}, Move R L s t → P s → P t)
    (h : Path R L s t) (k : P s) : P t := by
  induction h with
  | quiet h => exact hq h k
  | move h => exact hm h k
  | trans _ _ ih1 ih2 => exact ih2 (ih1 k)

/-! ### The queue when it is emptied, sent from and returned to -/

theorem emptyQueue_queueOk (all : Bool) (h : QueueOk s) : QueueOk (emptyQueue all s) := by
  rw [queueOk_iff] at h ⊢
  constructor
  · exact (h.1.sublist List.filter_sublist).map _ (fun _ _ => rfl) (fun _ _ => rfl) (fun _ _ => rfl) (fun _ _ => id)
  · have hs := h.2
    rw [inFlight_isSome] at hs ⊢
    by_cases hc : s.inFlight.isSome = true ∧ s.ending = false
    · rw [LineUnit.sending, (emptyQueue_cutOff s all hc.1 hc.2).2]
      symm
      simp only [Option.map_none, Option.getD_none, List.any_eq_false]
      intro e he
      rcases emptyQueue_entries s all e he with ⟨-, h1⟩ | ⟨-, h1, -⟩
      · rw [hc.2] at h1; cases h1
      · simp [h1]
    · have hn : s.inFlight = none ∨ s.ending = true := by
        by_cases hi : s.inFlight = none
        · exact .inl hi
        · exact .inr (by by_contra hne; exact hc ⟨by simpa [Option.isSome_iff_ne_none] using hi, by simpa using hne⟩)
      rw [LineUnit.sending, (emptyQueue_noCutOff s all hn).2]
      refine hs.trans ?_
      rw [Bool.eq_iff_iff]
      simp only [emptyQueue, State.emptiedLine, List.any_map, List.any_eq_true, List.mem_filter, Function.comp]
      constructor
      · rintro ⟨e, he, hf⟩
        rcases hn with hn | hn
        · have := List.find?_eq_none.mp hn e he
          exact absurd hf this
        · exact ⟨e, ⟨he, by simp [hf, hn]⟩, hf⟩
      · rintro ⟨e, ⟨he, -⟩, hf⟩
        exact ⟨e, he, hf⟩

theorem emptyQueue_line_fine (all : Bool) (h : LineFine s.line) : LineFine (emptyQueue all s).line := by
  refine { h with cutOff := ?_ }
  show (if _ then _ else _) ≤ 6
  split
  · exact le_refl 6
  · exact h.cutOff

/-- At most one entry is in flight. -/
theorem QueueFine.inFlight_unique {q : List Entry} {n : Nat} (h : QueueFine q n) {x y : Entry} (hx : x ∈ q) (hy : y ∈ q)
    (hfx : x.inFlight = true) (hfy : y.inFlight = true) : x = y := by
  have h1 := h.oneInFlight
  have mx : x ∈ q.filter fun e => e.inFlight := List.mem_filter.mpr ⟨hx, hfx⟩
  have my : y ∈ q.filter fun e => e.inFlight := List.mem_filter.mpr ⟨hy, hfy⟩
  match hl : q.filter fun e => e.inFlight with
  | [] => rw [hl] at mx; cases mx
  | [a] => rw [hl] at mx my; rw [List.mem_singleton.mp mx, List.mem_singleton.mp my]
  | a :: b :: r => rw [hl] at h1; simp at h1

theorem Frame.uncaptured_keeps (f : Frame) :
    f.uncaptured.kind = f.kind ∧ f.uncaptured.replaceClass = f.replaceClass ∧ f.uncaptured.isSeatClaim = f.isSeatClaim := by
  cases f <;> exact ⟨rfl, rfl, rfl⟩

theorem captureFrame_keeps (f : Frame) :
    (captureFrame s f).kind = f.kind ∧ (captureFrame s f).replaceClass = f.replaceClass ∧
    (captureFrame s f).isSeatClaim = f.isSeatClaim := by
  cases f <;> exact ⟨rfl, rfl, rfl⟩

/-- The frame that goes back to pending: as it was offered, or the one held for its class. -/
theorem returned_frame (x : Entry) :
    let held := s.line.followOn.find? fun g => x.frame.replaceClass.isSome && g.replaceClass == x.frame.replaceClass
    (held.getD x.frame.uncaptured).kind = x.frame.kind ∧
      (held.getD x.frame.uncaptured).replaceClass = x.frame.replaceClass := by
  intro held
  cases hh : held with
  | none => exact ⟨x.frame.uncaptured_keeps.1, x.frame.uncaptured_keeps.2.1⟩
  | some g =>
    have hg := List.find?_some hh
    simp only [Bool.and_eq_true, beq_iff_eq] at hg
    exact ⟨kind_of_replaceClass hg.2 hg.1, hg.2⟩

/-- After its return no entry is in flight, and the queue keeps its order and limits. -/
theorem returnToPending_queue (h : QueueFine s.line.queue s.line.nextId) :
    QueueFine (returnToPending s).line.queue s.line.nextId ∧
    ∀ e ∈ (returnToPending s).line.queue, e.inFlight = false := by
  simp only [returnToPending]
  split
  · next hn => exact ⟨h, fun e he => by simpa using List.find?_eq_none.mp hn e he⟩
  · next x hx =>
    have hm := List.mem_of_find?_eq_some hx
    have hf : x.inFlight = true := List.find?_some hx
    dsimp only
    split
    · exact ⟨h.sublist List.filter_sublist, fun e he => by simpa using List.of_mem_filter he⟩
    · have hr := returned_frame (s := s) x
      refine ⟨h.map _ (fun e he => ?_) (fun e he => ?_) (fun e he => ?_) (fun e he => ?_), fun e he => ?_⟩
      · split
        · next hi => rw [h.inFlight_unique he hm hi hf]; exact hr.1
        · rfl
      · split
        · next hi => rw [h.inFlight_unique he hm hi hf]; exact hr.2
        · rfl
      · split
        · next hi => rw [h.inFlight_unique he hm hi hf]
        · rfl
      · split
        · next hi => exact fun _ => hi
        · exact id
      · obtain ⟨e', -, rfl⟩ := List.mem_map.mp he
        split
        · rfl
        · next hi => simpa using hi

theorem any_inFlight_eq_false {q : List Entry} (h : ∀ e ∈ q, e.inFlight = false) : (q.any fun e => e.inFlight) = false := by
  simpa using h

theorem countFrames_head {p : Frame → Bool} {x y : Entry} {r : List Entry} (h : p x.frame = p y.frame) :
    countFrames p (x :: r) = countFrames p (y :: r) := by
  simp only [countFrames, List.filter_cons, h]
  split <;> rfl

/-- The head of the queue goes in flight. -/
theorem started_queueOk (hm : s.mayStart = true) (h : QueueOk s) : QueueOk (noteStart false (startHead s)) := by
  rw [queueOk_iff] at h ⊢
  have hn : ∀ e ∈ s.line.queue, e.inFlight = false := by
    simp only [State.mayStart, Bool.and_eq_true, Option.isNone_iff_eq_none] at hm
    simpa using List.find?_eq_none.mp hm.1.2
  cases hq : s.line.queue with
  | nil => simp [State.mayStart, hq] at hm
  | cons x r =>
    have hl : (noteStart false (startHead s)).line.queue =
        { x with inFlight := true, frame := captureFrame s x.frame } :: r ∧
        (noteStart false (startHead s)).line.nextId = s.line.nextId := by
      simp only [startHead, hq, noteStart, setLine]
      split <;> exact ⟨rfl, rfl⟩
    rw [inFlight_isSome, hl.1, hl.2]
    have hf := hq ▸ h.1
    rw [hq] at hn
    obtain ⟨hk, hc, -⟩ := captureFrame_keeps (s := s) x.frame
    refine ⟨⟨hf.size, ?_, ?_, fun c => ?_, ?_, ?_, ?_, ?_⟩, by simp; rfl⟩
    · have := hf.order
      rw [List.pairwise_cons] at this ⊢
      simpa only [hk] using this
    · have hr : (r.filter fun e => e.inFlight) = [] := by
        rw [List.filter_eq_nil_iff]
        exact fun e he => by simp [hn e (.tail x he)]
      rw [List.filter_cons, hr]
      simp
    · rw [countFrames_head (y := x) (by rw [hc])]
      exact hf.classes c
    · rw [countFrames_head (y := x) (by rw [hk])]
      exact hf.profile
    · rw [countFrames_head (y := x) (by rw [hk])]
      exact hf.answer
    · have := hf.distinct
      rw [List.pairwise_cons] at this ⊢
      exact this
    · intro e he
      rcases List.mem_cons.mp he with rfl | he
      · exact hf.fresh x (.head r)
      · exact hf.fresh e (.tail x he)

theorem dropSeat_queueOk (g : Stage) (all : Bool) (h : QueueOk s) : QueueOk (dropSeat g all s) := by
  have k : QueueOk { s with seat := { s.seat with stage := g, ownSeat := 0, reseat := true } } := h.congr rfl rfl rfl
  exact (emptyQueue_queueOk all k).congr rfl rfl rfl

/-- Load done leaves these blocks. -/
theorem loadListen_keeps (p : LoadSample) :
    (loadListen p s).power = s.power ∧ (loadListen p s).now = s.now ∧ (loadListen p s).line = s.line ∧
    (loadListen p s).roster = s.roster ∧ (loadListen p s).faults = s.faults ∧
    (loadListen p s).demand.table = s.demand.table ∧ (loadListen p s).sensor.table = s.sensor.table ∧
    (loadListen p s).lamps.check = s.lamps.check := by
  simp only [loadListen, decideRetention]
  split <;> exact ⟨rfl, rfl, rfl, rfl, rfl, rfl, rfl, rfl⟩

theorem LeftSeat.queueOk {g : Stage} {all : Bool} (h : LeftSeat L s g all t) (k : QueueOk s) : QueueOk t := by
  obtain ⟨l, -, -, ha, -, hu⟩ := h
  have k1 : QueueOk _ := ha.queueOk (k.congr rfl rfl rfl)
  refine hu.queueOk ((clearFault_quiet (L := L) _ _).queueOk ?_)
  exact dropSeat_queueOk g all k1

theorem Move.queueOk (h : Move R L s t) (k : QueueOk s) : QueueOk t := by
  cases h with
  | claim | forget | standalone | seated | testing | joined | held | claimSent =>
    exact k.congr rfl rfl rfl
  | sync h | checking h => exact (h.queueOk k).congr rfl rfl rfl
  | loaded p =>
    have hl := (loadListen_keeps (s := s) p).2.2.1
    exact k.congr (by rw [hl]) (by rw [hl]) (by rw [hl])
  | conflict => exact emptyQueue_queueOk true (k.congr rfl rfl rfl)
  | left h => exact (h.queueOk k).congr rfl rfl rfl
  | yielded h => exact emptyQueue_queueOk true ((h.queueOk k).congr rfl rfl rfl)
  | started hm => exact started_queueOk hm k
  | returned l _ hq _ hn hs =>
    rw [queueOk_iff] at k ⊢
    obtain ⟨h1, h2⟩ := returnToPending_queue k.1
    rw [inFlight_isSome]
    dsimp only
    rw [hq, hn, hs, any_inFlight_eq_false h2]
    exact ⟨h1, rfl⟩
  | sent x =>
    rw [queueOk_iff] at k ⊢
    refine ⟨(k.1.sublist List.filter_sublist).mono (le_of_eq ?_), ?_⟩
    · exact (s.line.read_fields _).2.2.1.symm
    · rw [inFlight_isSome]
      exact (any_inFlight_eq_false fun e he => by simpa using List.of_mem_filter he).symm
  | muted _ hu => exact (hu.queueOk (k.congr rfl rfl rfl)).congr rfl rfl rfl

theorem Path.queueOk (h : Path R L s t) : QueueOk s → QueueOk t := h.keep Quiet.queueOk Move.queueOk

end Sys2Proof.Machine
end

section
/-! SUPPORT. What paths keep: what is under way, an unseated station's silence, the line's counts and the seats. -/

namespace Sys2Proof.Machine

variable {R L : Prop} {s t : State}

/-! ### What is under way -/

/-- Outside CLAIMING no claim is under way. -/
theorem UnderWay.unclaimed (k : UnderWay s) (h : s.seat.stage ≠ .claiming) :
    s.seat.claim = .none ∧ s.seat.expiryHeld = false ∧ s.seat.window.isRunning = false := by
  have hc : s.seat.claim = .none := by
    by_contra hne
    exact h (k.claim hne)
  refine ⟨hc, ?_, ?_⟩
  · by_contra hh
    have := k.held (by simpa using hh)
    simp [hc] at this
  · by_contra hw
    have := k.window (by simpa using hw)
    simp [hc] at this

/-- Outside PROFILING and CHECKING neither a first announcement nor a check is under way. -/
theorem UnderWay.unchecked (k : UnderWay s) (hp : s.seat.stage ≠ .profiling) (hc : s.seat.stage ≠ .checking) :
    s.lamps.check = none ∧ ∀ a, s.roster.announce = some a → a.purpose ≠ .initial := by
  refine ⟨?_, fun a ha hi => hp (k.initial a ha hi)⟩
  by_contra hne
  exact hc (k.check hne)

theorem stage_of_unseated (h : s.seated = false) :
    s.seat.stage ≠ .profiling ∧ s.seat.stage ≠ .checking ∧ s.seat.stage ≠ .sync ∧ s.seat.stage ≠ .joined := by
  refine ⟨?_, ?_, ?_, ?_⟩ <;> · intro hg; simp [State.seated, hg, Stage.seated] at h

theorem stage_of_seated (h : s.seated = true) :
    s.seat.stage ≠ .loading ∧ s.seat.stage ≠ .listen ∧ s.seat.stage ≠ .standalone ∧ s.seat.stage ≠ .claiming ∧
    s.seat.stage ≠ .conflict := by
  refine ⟨?_, ?_, ?_, ?_, ?_⟩ <;> · intro hg; simp [State.seated, hg, Stage.seated] at h

/-- A state in which no claim, first announcement or check is under way. -/
theorem underWay_of_none (hc : t.seat.claim = .none) (hh : t.seat.expiryHeld = false) (hw : t.seat.window.isRunning = false)
    (hi : ∀ a, t.roster.announce = some a → a.purpose ≠ .initial) (hk : t.lamps.check = none) : UnderWay t where
  claim := fun h => absurd hc h
  held := fun h => by rw [hh] at h; cases h
  window := fun h => by rw [hw] at h; cases h
  initial := fun a ha hp => absurd hp (hi a ha)
  check := fun h => absurd hk h

theorem dropSeat_underWay {g : Stage} {all : Bool} (k : UnderWay s) (hs : s.seat.stage ≠ .claiming)
    (hc : s.lamps.check = none) : UnderWay (dropSeat g all s) := by
  obtain ⟨h1, h2, h3⟩ := k.unclaimed hs
  exact underWay_of_none h1 h2 h3 (fun a ha => by cases ha) hc

theorem LeftSeat.underWay {g : Stage} {all : Bool} (h : LeftSeat L s g all t) (k : UnderWay s) : UnderWay t := by
  obtain ⟨l, hs, -, ha, hc, hu⟩ := h
  have k1 : UnderWay _ := ha.underWay (L := L) ⟨k.claim, k.held, k.window, k.initial, k.check⟩
  have hn := (stage_of_seated hs).2.2.2.1
  exact hu.underWay ((clearFault_quiet (L := L) _ _).underWay (dropSeat_underWay k1 (by rw [ha.framed.stage]; exact hn) hc))

theorem enterStandalone_underWay (hc : s.lamps.check = none)
    (hi : ∀ a, s.roster.announce = some a → a.purpose ≠ .initial) : UnderWay (enterStandalone s) :=
  underWay_of_none rfl rfl rfl hi hc

theorem startConflict_underWay (hc : s.lamps.check = none) : UnderWay (startConflict s) :=
  underWay_of_none rfl rfl rfl (fun a ha => by cases ha) hc

theorem returnToPending_seat (s : State) :
    (returnToPending s).seat = s.seat ∨
      s.seat.claim = .inFlight ∧ (returnToPending s).seat = { s.seat with claim := .pending } := by
  simp only [returnToPending]
  split
  · exact .inl rfl
  · dsimp only
    split
    · next h => exact .inr ⟨h.1, rfl⟩
    · exact .inl rfl

theorem returnToPending_keeps (s : State) :
    (returnToPending s).power = s.power ∧ (returnToPending s).now = s.now ∧ (returnToPending s).loader = s.loader ∧
    (returnToPending s).retention = s.retention ∧ (returnToPending s).roster = s.roster ∧
    (returnToPending s).phase = s.phase ∧ (returnToPending s).demand = s.demand ∧ (returnToPending s).lamps = s.lamps ∧
    (returnToPending s).rear = s.rear ∧ (returnToPending s).sensor = s.sensor ∧ (returnToPending s).body = s.body ∧
    (returnToPending s).faults = s.faults ∧ (returnToPending s).port = s.port ∧
    (returnToPending s).freeCount = s.freeCount ∧ (returnToPending s).pending = s.pending := by
  simp only [returnToPending]
  split <;> exact ⟨rfl, rfl, rfl, rfl, rfl, rfl, rfl, rfl, rfl, rfl, rfl, rfl, rfl, rfl, rfl⟩

theorem startHead_cases (s : State) :
    ∃ q, startHead s = s.setQueue q ∨
      s.seat.claim = .pending ∧ startHead s = { s.setQueue q with seat := { s.seat with claim := .inFlight } } := by
  unfold startHead
  split
  · exact ⟨s.line.queue, .inl rfl⟩
  · dsimp only
    split
    · next h => exact ⟨_, .inr ⟨h.1, rfl⟩⟩
    · exact ⟨_, .inl rfl⟩

theorem Move.underWay (h : Move R L s t) (k : UnderWay s) : UnderWay t := by
  cases h with
  | claim seat id b m hs _ hc =>
    obtain ⟨hp, hk, -⟩ := stage_of_unseated hs
    obtain ⟨h1, h2⟩ := k.unchecked hp hk
    refine ⟨fun _ => rfl, fun _ => .inr rfl, fun hw => ?_, fun a ha hi => absurd hi (h2 a ha), fun h => absurd h1 h⟩
    have hw : s.seat.window.isRunning = true := hw
    rcases hc with hc | hc
    · have := k.window hw; rw [hc] at this; cases this
    · rw [(k.unclaimed hc).2.2] at hw; cases hw
  | forget => exact ⟨k.claim, k.held, k.window, k.initial, k.check⟩
  | standalone hs =>
    obtain ⟨hp, hk, -⟩ := stage_of_unseated (hs k).1
    obtain ⟨h1, h2⟩ := k.unchecked hp hk
    exact enterStandalone_underWay h1 h2
  | conflict hs =>
    obtain ⟨hp, hk, -⟩ := stage_of_unseated (hs k).1
    exact startConflict_underWay (k.unchecked hp hk).1
  | left h =>
    have hu := h.underWay k
    obtain ⟨l, hs, -, ha, hc, hq⟩ := h
    have hg := ((clearFault_quiet (L := L) _ _).trans hq).framed.stage
    obtain ⟨h1, h2⟩ := hu.unchecked (by rw [hg]; simp [dropSeat, emptyQueue]) (by rw [hg]; simp [dropSeat, emptyQueue])
    exact enterStandalone_underWay h1 h2
  | yielded h =>
    have hu := h.underWay k
    obtain ⟨l, hs, -, ha, hc, hq⟩ := h
    have hg := ((clearFault_quiet (L := L) _ _).trans hq).framed.stage
    exact startConflict_underWay (hu.unchecked (by rw [hg]; simp [dropSeat, emptyQueue]) (by rw [hg]; simp [dropSeat, emptyQueue])).1
  | seated hg hw =>
    have hp : s.seat.stage ≠ .profiling := by rw [hg]; decide
    obtain ⟨h1, h2⟩ := k.unchecked hp (by rw [hg]; decide)
    refine underWay_of_none rfl (Bool.eq_false_iff.mpr fun hh => ?_) rfl h2 h1
    have := k.held hh
    rw [k.window hw] at this
    simp at this
  | sync hq hr =>
    obtain ⟨hs, h1, h2⟩ := hr k
    obtain ⟨c1, c2, c3⟩ := (hq.underWay k).unclaimed (stage_of_seated hs).2.2.2.1
    exact underWay_of_none c1 c2 c3 h2 h1
  | checking hq hr =>
    obtain ⟨hs, h1, h2⟩ := hr k
    obtain ⟨c1, c2, c3⟩ := (hq.underWay k).unclaimed (stage_of_seated hs).2.2.2.1
    exact underWay_of_none c1 c2 c3 h2 h1
  | testing _ hg => exact ⟨k.claim, k.held, k.window, k.initial, fun _ => hg⟩
  | joined hg =>
    obtain ⟨c1, c2, c3⟩ := k.unclaimed (by rw [hg]; decide)
    obtain ⟨h1, h2⟩ := k.unchecked (by rw [hg]; decide) (by rw [hg]; decide)
    exact underWay_of_none c1 c2 c3 h2 h1
  | held hc => exact ⟨k.claim, fun _ => .inl hc, k.window, k.initial, k.check⟩
  | started hm =>
    obtain ⟨q, h | ⟨hc, h⟩⟩ := startHead_cases s <;> rw [h]
    · exact ⟨k.claim, k.held, k.window, k.initial, k.check⟩
    · refine ⟨fun _ => k.claim (by rw [hc]; decide), fun _ => .inl rfl, fun hw => ?_, k.initial, k.check⟩
      have := k.window hw
      rw [hc] at this
      cases this
  | returned l =>
    obtain ⟨-, -, -, -, hr, -, -, hl, -⟩ := returnToPending_keeps s
    refine ⟨fun hn => ?_, fun hh => ?_, fun hw => ?_, fun a ha hi => ?_, fun hc => ?_⟩
    all_goals dsimp only at *
    · rcases returnToPending_seat s with h | ⟨h1, h⟩ <;> rw [h] at hn ⊢
      · exact k.claim hn
      · exact k.claim (by rw [h1]; decide)
    · rcases returnToPending_seat s with h | ⟨-, h⟩ <;> rw [h] at hh ⊢
      · exact k.held hh
      · exact .inr rfl
    · rcases returnToPending_seat s with h | ⟨h1, h⟩ <;> rw [h] at hw ⊢
      · exact k.window hw
      · have := k.window hw
        rw [h1] at this
        cases this
    · rw [hr] at ha
      rcases returnToPending_seat s with h | ⟨-, h⟩ <;> rw [h] <;> exact k.initial a ha hi
    · rw [hl] at hc
      rcases returnToPending_seat s with h | ⟨-, h⟩ <;> rw [h] <;> exact k.check hc
  | sent x => exact ⟨k.claim, k.held, k.window, k.initial, k.check⟩
  | claimSent hc =>
    refine ⟨fun _ => k.claim (by rw [hc]; decide), fun h => (by cases h), fun _ => rfl, k.initial, k.check⟩
  | muted t hu =>
    have := hu.underWay ⟨k.claim, k.held, k.window, k.initial, k.check⟩
    exact ⟨this.claim, this.held, this.window, this.initial, this.check⟩
  | loaded p hg =>
    obtain ⟨c1, c2, c3⟩ := k.unclaimed (by rw [hg]; decide)
    obtain ⟨h1, h2⟩ := k.unchecked (by rw [hg]; decide) (by rw [hg]; decide)
    obtain ⟨-, -, -, hr, -, -, -, hk⟩ := loadListen_keeps (s := s) p
    have hs : (loadListen p s).seat.claim = s.seat.claim ∧ (loadListen p s).seat.expiryHeld = s.seat.expiryHeld ∧
        (loadListen p s).seat.window = s.seat.window := by
      simp only [loadListen, decideRetention]
      split <;> exact ⟨rfl, rfl, rfl⟩
    exact underWay_of_none (hs.1.trans c1) (hs.2.1.trans c2) (by rw [hs.2.2]; exact c3) (by rw [hr]; exact h2)
      (hk.trans h1)

theorem Path.underWay (h : Path R L s t) : UnderWay s → UnderWay t := h.keep Quiet.underWay Move.underWay

theorem progressOk_iff : ProgressOk s ↔ UnderWay s ∧ (s.seat.expiryHeld = true → s.seat.claim = .inFlight) :=
  ⟨fun h => ⟨h.underWay, h.held⟩, fun ⟨h, k⟩ => ⟨h.claim, k, h.window, h.initial, h.check⟩⟩

theorem Quiet.progressOk (h : Quiet L s t) (k : ProgressOk s) : ProgressOk t := by
  refine progressOk_iff.mpr ⟨h.underWay k.underWay, ?_⟩
  rw [h.framed.held, h.framed.claim]
  exact k.held

/-- But for a frame's return to pending, a move leaves a held expiry with a claim IN-FLIGHT. -/
theorem Move.progressOk (hR : ¬R) (h : Move R L s t) (k : ProgressOk s) : ProgressOk t := by
  have hu := h.underWay k.underWay
  refine progressOk_iff.mpr ⟨hu, fun hh => ?_⟩
  cases h with
  | claim seat id b m _ _ hc =>
    have hh : s.seat.expiryHeld = true := hh
    rcases hc with hc | hc
    · have := k.held hh; rw [hc] at this; cases this
    · rw [(k.underWay.unclaimed hc).2.1] at hh; cases hh
  | forget | testing | joined => exact k.held hh
  | sync hq | checking hq => exact (hq.progressOk k).held hh
  | seated hg hw =>
    have := k.held hh
    rw [k.window hw] at this
    cases this
  | standalone | conflict | left | yielded | claimSent => cases hh
  | held hc => exact hc
  | started =>
    obtain ⟨q, h | ⟨hc, h⟩⟩ := startHead_cases s
    · rw [h] at hh ⊢; exact k.held hh
    · rw [h]; rfl
  | returned l hr => exact absurd hr hR
  | sent => exact k.held hh
  | muted t h =>
    have := h.progressOk ⟨k.claim, k.held, k.window, k.initial, k.check⟩
    exact this.held hh
  | loaded p =>
    have hs : (loadListen p s).seat.claim = s.seat.claim ∧ (loadListen p s).seat.expiryHeld = s.seat.expiryHeld := by
      simp only [loadListen, decideRetention]
      split <;> exact ⟨rfl, rfl⟩
    rw [hs.1]
    exact k.held (hs.2 ▸ hh)

theorem Path.progressOk (hR : ¬R) (h : Path R L s t) : ProgressOk s → ProgressOk t :=
  h.keep Quiet.progressOk (Move.progressOk hR)

/-! ### Silence -/

theorem emptyQueue_silent (all : Bool) (s : State) :
    (∀ e ∈ (emptyQueue all s).line.queue, e.completing ∨ (all = false ∧ e.frame.isSeatClaim = true)) ∧
    (emptyQueue all s).line.followOn = [] :=
  ⟨fun e he => (emptyQueue_entries s all e he).imp (·.1) fun h => ⟨h.1, h.2.2⟩, rfl⟩

theorem dropSeat_silenceOk (g : Stage) (all : Bool) (hg : g ≠ .loading) (ha : g = .conflict → all = true) :
    SilenceOk (dropSeat g all s) := by
  obtain ⟨h1, h2⟩ := emptyQueue_silent all { s with seat := { s.seat with stage := g, ownSeat := 0, reseat := true } }
  refine ⟨fun _ => ⟨fun e he => ?_, h2⟩, fun h => absurd h hg, fun h e he => ?_⟩
  · exact (h1 e he).symm.imp (·.2) id
  · rcases h1 e he with h | ⟨h', -⟩
    · exact h
    · rw [ha h] at h'; cases h'

theorem LeftSeat.silenceOk {g : Stage} {all : Bool} (h : LeftSeat L s g all t) (hg : g ≠ .loading)
    (ha : g = .conflict → all = true) : SilenceOk t := by
  obtain ⟨l, -, -, -, -, hu⟩ := h
  exact hu.silenceOk ((clearFault_quiet (L := L) _ _).silenceOk (dropSeat_silenceOk g all hg ha))

/-- The queue that an unseated station keeps is an unseated station's in any stage but LOADING and CONFLICT. -/
theorem SilenceOk.of_unseated (h : SilenceOk s) (hs : s.seated = false) (hl : t.line = s.line)
    (h1 : t.seat.stage ≠ .loading) (h2 : t.seat.stage ≠ .conflict) : SilenceOk t :=
  ⟨fun _ => hl ▸ h.unseated hs, fun hg => absurd hg h1, fun hg => absurd hg h2⟩

theorem SilenceOk.of_seated (hs : t.seated = true) : SilenceOk t :=
  ⟨fun h => (by rw [hs] at h; cases h), fun h => absurd h (stage_of_seated hs).1,
    fun h => absurd h (stage_of_seated hs).2.2.2.2⟩

theorem startConflict_silenceOk : SilenceOk (startConflict s) := by
  have hq : ∀ e ∈ (startConflict s).line.queue, e.completing := fun e he =>
    ((emptyQueue_silent true _).1 e he).resolve_right fun h => by cases h.1
  exact ⟨fun _ => ⟨fun e he => .inr (hq e he), rfl⟩, fun h => (by cases h), fun _ => hq⟩

theorem returned_silent (k : SilenceOk s) (hs : s.seated = false) :
    (∀ e ∈ (returnToPending s).line.queue, ∃ x ∈ s.line.queue, e.frame.isSeatClaim = x.frame.isSeatClaim ∧
      (x.completing → e.completing)) ∧ (returnToPending s).line.followOn = [] := by
  obtain ⟨hq, hf⟩ := k.unseated hs
  simp only [returnToPending]
  split
  · exact ⟨fun e he => ⟨e, he, rfl, id⟩, hf⟩
  · next x hx =>
    have hm := List.mem_of_find?_eq_some hx
    have hfl : x.inFlight = true := List.find?_some hx
    refine ⟨fun e he => ?_, by simp [hf]⟩
    dsimp only at he
    split at he
    · exact ⟨e, List.mem_of_mem_filter he, rfl, id⟩
    · next hd =>
      obtain ⟨y, hy, rfl⟩ := List.mem_map.mp he
      split
      · next hi =>
        refine ⟨x, hm, ?_, fun hc => absurd hc.2 hd⟩
        rw [hf]
        exact x.frame.uncaptured_keeps.2.2
      · exact ⟨y, hy, rfl, id⟩

theorem Move.silenceOk (h : Move R L s t) (w : UnderWay s) (k : SilenceOk s) : SilenceOk t := by
  cases h with
  | claim seat id b m hs => exact k.of_unseated hs rfl (by simp [claimSeat]) (by simp [claimSeat])
  | forget | testing | held => exact k.congr rfl rfl rfl
  | claimSent => exact k.congr rfl rfl rfl
  | standalone hs => exact k.of_unseated (hs w).1 rfl (by simp [enterStandalone]) (by simp [enterStandalone])
  | conflict | yielded => exact startConflict_silenceOk
  | left h =>
    have k1 := h.silenceOk (by decide) (by decide)
    obtain ⟨l, -, -, -, -, hu⟩ := h
    have hg := ((clearFault_quiet (L := L) _ _).trans hu).framed.stage
    exact k1.of_unseated (by rw [State.seated, hg]; rfl) rfl (by simp [enterStandalone]) (by simp [enterStandalone])
  | seated | sync | checking | joined => exact .of_seated rfl
  | started hm =>
    have hl : (noteStart false (startHead s)).seat.stage = s.seat.stage ∧
        (noteStart false (startHead s)).line.followOn = s.line.followOn ∧
        ∀ e ∈ (noteStart false (startHead s)).line.queue, ∃ x ∈ s.line.queue,
          e.frame.isSeatClaim = x.frame.isSeatClaim ∧ (x.completing → e.completing) := by
      unfold startHead
      cases hq : s.line.queue with
      | nil => exact ⟨rfl, rfl, fun e he => by simp [noteStart, setLine, hq] at he⟩
      | cons x r =>
        have key : ∀ e ∈ { x with inFlight := true, frame := captureFrame s x.frame } :: r, ∃ y ∈ x :: r,
            e.frame.isSeatClaim = y.frame.isSeatClaim ∧ (y.completing → e.completing) := by
          intro e he
          rcases List.mem_cons.mp he with rfl | he
          · exact ⟨x, .head r, captureFrame_keeps _ |>.2.2, fun h => ⟨rfl, h.2⟩⟩
          · exact ⟨e, .tail x he, rfl, id⟩
        dsimp only
        split <;> exact ⟨rfl, rfl, key⟩
    exact k.of_subset hl.1 hl.2.2 fun h => hl.2.1.trans h
  | returned l _ hq hf =>
    have hg : ({ returnToPending s with line := l } : State).seat.stage = s.seat.stage := by
      rcases returnToPending_seat s with h | ⟨-, h⟩ <;> simp only [h]
    rcases Bool.eq_false_or_eq_true s.seated with hs | hs
    · exact .of_seated (by rw [State.seated, hg]; exact hs)
    · obtain ⟨h1, h2⟩ := returned_silent k hs
      exact k.of_subset hg (by rw [← hq] at h1; exact h1) fun _ => hf.trans h2
  | sent x =>
    refine k.of_subset rfl (fun e he => ⟨e, List.mem_of_mem_filter he, rfl, id⟩) fun hf => ?_
    simp [frameGone, hf]
  | muted _ hu => exact (hu.silenceOk (k.congr rfl rfl rfl)).congr rfl rfl rfl
  | loaded p hg =>
    have hl := (loadListen_keeps (s := s) p).2.2.1
    exact k.of_unseated (by simp [State.seated, hg, Stage.seated]) hl (by simp [loadListen, enterListen])
      (by simp [loadListen, enterListen])

theorem Path.silenceOk (h : Path R L s t) (w : UnderWay s) (k : SilenceOk s) : SilenceOk t :=
  (h.keep (P := fun s => UnderWay s ∧ SilenceOk s) (fun h k => ⟨h.underWay k.1, h.silenceOk k.2⟩)
    (fun h k => ⟨h.underWay k.1, h.silenceOk k.1 k.2⟩) ⟨w, k⟩).2

end Sys2Proof.Machine
end

section
/-! SUPPORT. What paths keep, continued: the line's counts, the seats and tables, the own entry and the fault list. -/

namespace Sys2Proof.Machine

variable {R L : Prop} {s t : State}

/-- What leaving a seat keeps. -/
theorem LeftSeat.keep {P : State → Prop} {g : Stage} {all : Bool} (h : LeftSeat L s g all t)
    (he : ∀ l, (Table.wf s.roster.entries = true → Table.wf l = true) → P { s with roster := { s.roster with entries := l } })
    (hq : ∀ {u v}, Quiet L u v → P u → P v) (hd : ∀ {u}, P u → P (dropSeat g all u)) : P t := by
  obtain ⟨l, -, hw, ha, -, hu⟩ := h
  exact hq hu (hq (clearFault_quiet _ _) (hd (hq ha (he l hw))))

theorem LeftSeat.stage {g : Stage} {all : Bool} (h : LeftSeat L s g all t) : t.seat.stage = g := by
  obtain ⟨l, -, -, -, -, hu⟩ := h
  exact ((clearFault_quiet (L := L) _ _).trans hu).framed.stage

/-! ### The line's counts -/

theorem Move.lineFine (h : Move R L s t) (k : LineFine s.line) : LineFine t.line := by
  cases h with
  | claim | forget | standalone | seated | testing | joined | held | claimSent => exact k
  | sync h | checking h => exact h.lineFine k
  | conflict => exact emptyQueue_line_fine true k
  | left h => exact h.keep (P := fun u => LineFine u.line) (fun _ _ => k) Quiet.lineFine (emptyQueue_line_fine false)
  | yielded h =>
    exact emptyQueue_line_fine true
      (h.keep (P := fun u => LineFine u.line) (fun _ _ => k) Quiet.lineFine (emptyQueue_line_fine true))
  | started =>
    have hk : ∀ u : State, LineFine u.line → LineFine (noteStart false u).line := fun u h =>
      ⟨Nat.zero_le _, by simp [noteStart, setLine], Nat.zero_le _, h.malformed, h.overflow, h.driveFaults⟩
    obtain ⟨q, h | ⟨-, h⟩⟩ := startHead_cases s <;> rw [h] <;> exact hk _ { k with }
  | returned l _ _ _ _ _ hl => exact hl k
  | sent x => exact { k.read ((s.line.reception.map Reception.rest).getD []) with }
  | muted _ hu => exact { hu.lineFine { k with driveFaults := le_refl 3 } with }
  | loaded p => rw [(loadListen_keeps p).2.2.1]; exact k

theorem Move.muteOk (h : Move R L s t) (k : MuteOk s.line) : MuteOk t.line := by
  cases h with
  | claim | forget | standalone | seated | testing | joined | held | claimSent => exact k
  | sync h | checking h => exact h.muteOk k
  | conflict => exact k
  | left h => exact h.keep (P := fun u => MuteOk u.line) (fun _ _ => k) Quiet.muteOk (fun h => h)
  | yielded h => exact h.keep (P := fun u => MuteOk u.line) (fun _ _ => k) Quiet.muteOk (fun h => h)
  | started => obtain ⟨q, h | ⟨-, h⟩⟩ := startHead_cases s <;> rw [h] <;> exact k
  | returned l _ _ _ _ _ _ hl => exact hl k
  | sent x =>
    obtain ⟨-, -, -, -, -, -, -, hd, hm⟩ := s.line.read_fields ((s.line.reception.map Reception.rest).getD [])
    simp only [frameGone, MuteOk, hd, hm]
    exact k
  | muted _ hu => exact fun _ => rfl
  | loaded p => rw [(loadListen_keeps p).2.2.1]; exact k

theorem Path.lineOk (h : Path R L s t) (k : LineOk s) : LineOk t := by
  obtain ⟨k1, k2⟩ := lineOk_iff.mp k
  exact lineOk_iff.mpr ⟨h.keep (P := fun u => LineFine u.line) Quiet.lineFine Move.lineFine k1,
    h.keep (P := fun u => MuteOk u.line) Quiet.muteOk Move.muteOk k2⟩

/-! ### Seats and tables -/

theorem SeatsOk.congr (k : SeatsOk s) (hg : t.seat.stage = s.seat.stage) (ho : t.seat.ownSeat = s.seat.ownSeat)
    (hc : t.seat.claimed = s.seat.claimed) (hr : t.seat.rejoin = s.seat.rejoin) : SeatsOk t := by
  refine ⟨?_, ?_, ?_, ?_⟩
  · rw [State.seated, hg, ho]; exact k.seated
  · rw [State.seated, hg, ho]; exact k.unseated
  · rw [hg, hc]; exact k.claiming
  · rw [hr]; exact k.rejoin

/-- A seated station keeps its seat from one seated stage to the next. -/
theorem SeatsOk.of_seated (k : SeatsOk s) (hs : s.seated = true) (ht : t.seated = true)
    (ho : t.seat.ownSeat = s.seat.ownSeat) (hr : t.seat.rejoin = s.seat.rejoin) : SeatsOk t :=
  ⟨fun _ => ho ▸ k.seated hs, fun h => (by rw [ht] at h; cases h), fun h => absurd h (stage_of_seated ht).2.2.2.1,
    fun p h => k.rejoin p (hr ▸ h)⟩

theorem seatsOk_of_none (hg : t.seated = false) (hc : t.seat.stage ≠ .claiming) (ho : t.seat.ownSeat = 0)
    (hr : t.seat.rejoin = none) : SeatsOk t :=
  ⟨fun h => (by rw [hg] at h; cases h), fun _ => ho, fun h => absurd h hc, fun p h => (by rw [hr] at h; cases h)⟩

theorem returnToPending_seatFields (s : State) :
    (returnToPending s).seat.stage = s.seat.stage ∧ (returnToPending s).seat.ownSeat = s.seat.ownSeat ∧
    (returnToPending s).seat.claimed = s.seat.claimed ∧ (returnToPending s).seat.rejoin = s.seat.rejoin ∧
    (returnToPending s).seat.fallbackMark = s.seat.fallbackMark ∧
    (returnToPending s).seat.headListen = s.seat.headListen := by
  obtain h | ⟨-, h⟩ := returnToPending_seat s <;> rw [h] <;> exact ⟨rfl, rfl, rfl, rfl, rfl, rfl⟩

theorem startedHead_fields (s : State) :
    (startHead s).seat.stage = s.seat.stage ∧ (startHead s).seat.ownSeat = s.seat.ownSeat ∧
    (startHead s).seat.claimed = s.seat.claimed ∧ (startHead s).seat.rejoin = s.seat.rejoin ∧
    (startHead s).seat.fallbackMark = s.seat.fallbackMark ∧ (startHead s).seat.headListen = s.seat.headListen ∧
    (startHead s).roster = s.roster ∧ (startHead s).loader = s.loader ∧ (startHead s).retention = s.retention ∧
    (startHead s).demand = s.demand ∧ (startHead s).sensor = s.sensor ∧ (startHead s).lamps = s.lamps ∧
    (startHead s).faults = s.faults ∧ (startHead s).now = s.now ∧ (startHead s).power = s.power := by
  obtain ⟨q, h | ⟨-, h⟩⟩ := startHead_cases s <;> rw [h] <;>
    exact ⟨rfl, rfl, rfl, rfl, rfl, rfl, rfl, rfl, rfl, rfl, rfl, rfl, rfl, rfl, rfl⟩

theorem loadListen_seat (p : LoadSample) (s : State) :
    (loadListen p s).seat.stage = .listen ∧ (loadListen p s).seat.ownSeat = s.seat.ownSeat ∧
    (((applyImage s).warmTest = true ∧ (loadListen p s).seat.rejoin = some s.retention.seat) ∨
      ((applyImage s).warmTest = false ∧ (loadListen p s).seat.rejoin = s.seat.rejoin)) := by
  refine ⟨rfl, ?_⟩
  simp only [loadListen, decideRetention]
  split
  · next h => exact ⟨rfl, .inl ⟨h, rfl⟩⟩
  · next h => exact ⟨rfl, .inr ⟨by simpa using h, rfl⟩⟩

theorem Move.seatsOk (h : Move R L s t) (w : UnderWay s) (k : SeatsOk s) : SeatsOk t := by
  cases h with
  | claim seat id b m hs _ _ hi =>
    exact ⟨fun h => (by cases h), fun _ => k.unseated hs, fun _ => hi k, k.rejoin⟩
  | forget => exact ⟨k.seated, k.unseated, k.claiming, fun p h => (by cases h)⟩
  | standalone | left => exact seatsOk_of_none rfl (by simp [enterStandalone]) rfl rfl
  | conflict | yielded => exact seatsOk_of_none rfl (by simp [startConflict, emptyQueue]) rfl rfl
  | seated hg => exact ⟨fun _ => k.claiming hg, fun h => (by cases h), fun h => (by cases h), k.rejoin⟩
  | sync hq hr | checking hq hr => exact (hq.seatsOk k).of_seated (hr w).1 rfl rfl rfl
  | joined hg => exact k.of_seated (by simp [State.seated, hg, Stage.seated]) rfl rfl rfl
  | testing | held | claimSent | sent => exact k.congr rfl rfl rfl rfl
  | started =>
    obtain ⟨h1, h2, h3, h4, -⟩ := startedHead_fields s
    exact k.congr h1 h2 h3 h4
  | returned =>
    obtain ⟨h1, h2, h3, h4, -⟩ := returnToPending_seatFields s
    exact k.congr h1 h2 h3 h4
  | muted _ hu => exact (hu.seatsOk (k.congr rfl rfl rfl rfl)).congr rfl rfl rfl rfl
  | loaded p hg =>
    obtain ⟨h1, h2, h3⟩ := loadListen_seat p s
    have hs : s.seated = false := by simp [State.seated, hg, Stage.seated]
    have hu : (loadListen p s).seated = false := by rw [State.seated, h1]; rfl
    refine ⟨fun h => (by rw [hu] at h; cases h), fun _ => h2.trans (k.unseated hs), fun h => (by rw [h1] at h; cases h),
      fun q hq => ?_⟩
    rcases h3 with ⟨hw, h3⟩ | ⟨-, h3⟩
    · simp only [State.warmTest, Bool.and_eq_true, decide_eq_true_eq] at hw
      rw [h3] at hq
      cases hq
      exact ⟨hw.1.2, hw.2⟩
    · exact k.rejoin q (h3 ▸ hq)

theorem Path.seatsOk (h : Path R L s t) (w : UnderWay s) (k : SeatsOk s) : SeatsOk t :=
  (h.keep (P := fun s => UnderWay s ∧ SeatsOk s) (fun h k => ⟨h.underWay k.1, h.seatsOk k.2⟩)
    (fun h k => ⟨h.underWay k.1, h.seatsOk k.1 k.2⟩) ⟨w, k⟩).2

theorem dropSeat_tablesOk {g : Stage} {all : Bool} (k : TablesOk s) : TablesOk (dropSeat g all s) :=
  k.congr (Table.wf_erase _ _) rfl rfl rfl

theorem Move.tablesOk (h : Move R L s t) (j : SeatsOk s) (k : TablesOk s) : TablesOk t := by
  have hl {g : Stage} {all : Bool} {u : State} (h : LeftSeat L s g all u) : TablesOk u :=
    h.keep (fun l hw => k.congr hw rfl rfl rfl) Quiet.tablesOk dropSeat_tablesOk
  cases h with
  | claim | forget | standalone | conflict | testing | joined | held | claimSent | sent =>
    exact k.congr id rfl rfl rfl
  | sync h | checking h => exact (h.tablesOk k).congr id rfl rfl rfl
  | left h | yielded h => exact (hl h).congr id rfl rfl rfl
  | seated hg => exact k.congr (fun hw => Table.wf_set _ _ _ hw (j.claiming hg).1 (j.claiming hg).2) rfl rfl rfl
  | started =>
    obtain ⟨-, -, -, -, -, -, hr, -, -, hd, hs, -⟩ := startedHead_fields s
    exact k.congr (by simp [noteStart, setLine, hr]) (by simp [noteStart, setLine, hr]) (by simp [noteStart, setLine, hd])
      (by simp [noteStart, setLine, hs])
  | returned =>
    obtain ⟨-, -, -, -, hr, -, hd, -, -, hs, -⟩ := returnToPending_keeps s
    exact k.congr (by simp [hr]) (by simp [hr]) (by simp [hd]) (by simp [hs])
  | muted _ hu => exact (hu.tablesOk (k.congr id rfl rfl rfl)).congr id rfl rfl rfl
  | loaded p =>
    obtain ⟨-, -, -, hr, -, hd, hs, -⟩ := loadListen_keeps (s := s) p
    exact k.congr (by simp [hr]) (by simp [hr]) hd hs

theorem Path.tablesOk (h : Path R L s t) (w : UnderWay s) (j : SeatsOk s) (k : TablesOk s) : TablesOk t :=
  (h.keep (P := fun s => UnderWay s ∧ SeatsOk s ∧ TablesOk s)
    (fun h k => ⟨h.underWay k.1, h.seatsOk k.2.1, h.tablesOk k.2.2⟩)
    (fun h k => ⟨h.underWay k.1, h.seatsOk k.1 k.2.1, h.tablesOk k.2.1 k.2.2⟩) ⟨w, j, k⟩).2.2

/-! ### The own entry -/

theorem OwnEntryOk.congr (k : OwnEntryOk s) (hs : t.seated = true → s.seated = true)
    (he : t.roster.entries = s.roster.entries) (ho : t.seat.ownSeat = s.seat.ownSeat)
    (hl : t.loader.identity = s.loader.identity) : OwnEntryOk t := by
  intro h
  rw [he, ho, hl]
  exact k (hs h)

theorem OwnSummaryOk.congr (k : OwnSummaryOk s) (hs : t.seated = true → s.seated = true)
    (he : t.roster.entries = s.roster.entries) (ho : t.seat.ownSeat = s.seat.ownSeat)
    (hl : t.loader.profile = s.loader.profile) (hf : t.faults.list = s.faults.list) : OwnSummaryOk t := by
  intro h
  have hsum : summaryOf t s.faults.list = summaryOf s s.faults.list := by
    simp only [summaryOf, hasLampFault, State.functionOf, hl]
  rw [he, ho, hf, hsum]
  exact k (hs h)

theorem ownEntryOk_of_unseated (h : t.seated = false) : OwnEntryOk t := fun hs => by rw [h] at hs; cases hs
theorem ownSummaryOk_of_unseated (h : t.seated = false) : OwnSummaryOk t := fun hs => by rw [h] at hs; cases hs

theorem loadListen_unseated (p : LoadSample) (s : State) : (loadListen p s).seated = false := rfl

theorem Move.ownEntryOk (h : Move R L s t) (w : UnderWay s) (k : OwnEntryOk s) : OwnEntryOk t := by
  cases h with
  | claim | standalone | conflict | left | yielded | loaded => exact ownEntryOk_of_unseated rfl
  | seated =>
    intro _
    simp only [takeSeat, Table.get_put]
    rfl
  | sync hq hr | checking hq hr => exact (hq.ownEntryOk k).congr (fun _ => (hr w).1) rfl rfl rfl
  | joined hg => exact k.congr (fun _ => by simp [State.seated, hg, Stage.seated]) rfl rfl rfl
  | forget | testing | held | claimSent | sent => exact k.congr id rfl rfl rfl
  | started =>
    obtain ⟨h1, h2, -, -, -, -, hr, hl, -⟩ := startedHead_fields s
    refine k.congr ?_ ?_ h2 ?_
    · simp only [State.seated, noteStart, setLine, h1]; exact id
    · simp [noteStart, setLine, hr]
    · simp [noteStart, setLine, hl]
  | returned =>
    obtain ⟨h1, h2, -⟩ := returnToPending_seatFields s
    obtain ⟨-, -, hl, -, hr, -⟩ := returnToPending_keeps s
    refine k.congr ?_ ?_ h2 ?_
    · simp only [State.seated, h1]; exact id
    · simp [hr]
    · simp [hl]
  | muted _ hu => exact (hu.ownEntryOk (k.congr id rfl rfl rfl)).congr id rfl rfl rfl

theorem Move.ownSummaryOk (h : Move R L s t) (w : UnderWay s) (k : OwnSummaryOk s) : OwnSummaryOk t := by
  cases h with
  | claim | standalone | conflict | left | yielded | loaded => exact ownSummaryOk_of_unseated rfl
  | seated =>
    intro _
    simp only [takeSeat, Table.get_put]
    rfl
  | sync hq hr | checking hq hr => exact (hq.ownSummaryOk k).congr (fun _ => (hr w).1) rfl rfl rfl rfl
  | joined hg => exact k.congr (fun _ => by simp [State.seated, hg, Stage.seated]) rfl rfl rfl rfl
  | forget | testing | held | claimSent | sent => exact k.congr id rfl rfl rfl rfl
  | started =>
    obtain ⟨h1, h2, -, -, -, -, hr, hl, -, -, -, -, hf, -⟩ := startedHead_fields s
    refine k.congr ?_ ?_ h2 ?_ ?_
    · simp only [State.seated, noteStart, setLine, h1]; exact id
    · simp [noteStart, setLine, hr]
    · simp [noteStart, setLine, hl]
    · simp [noteStart, setLine, hf]
  | returned =>
    obtain ⟨h1, h2, -⟩ := returnToPending_seatFields s
    obtain ⟨-, -, hl, -, hr, -, -, -, -, -, -, hf, -⟩ := returnToPending_keeps s
    refine k.congr ?_ ?_ h2 ?_ ?_
    · simp only [State.seated, h1]; exact id
    · simp [hr]
    · simp [hl]
    · simp [hf]
  | muted _ hu => exact (hu.ownSummaryOk (k.congr id rfl rfl rfl rfl)).congr id rfl rfl rfl rfl

theorem Path.ownEntryOk (h : Path R L s t) (w : UnderWay s) (k : OwnEntryOk s) : OwnEntryOk t :=
  (h.keep (P := fun s => UnderWay s ∧ OwnEntryOk s) (fun h k => ⟨h.underWay k.1, h.ownEntryOk k.2⟩)
    (fun h k => ⟨h.underWay k.1, h.ownEntryOk k.1 k.2⟩) ⟨w, k⟩).2

theorem Path.ownSummaryOk (h : Path R L s t) (w : UnderWay s) (k : OwnSummaryOk s) : OwnSummaryOk t :=
  (h.keep (P := fun s => UnderWay s ∧ OwnSummaryOk s) (fun h k => ⟨h.underWay k.1, h.ownSummaryOk k.2⟩)
    (fun h k => ⟨h.underWay k.1, h.ownSummaryOk k.1 k.2⟩) ⟨w, k⟩).2

/-! ### LOADING -/

theorem loadingOk_of_loaded (h : t.loaded = true) : LoadingOk t := by
  have hg : t.seat.stage ≠ .loading := by simpa [State.loaded] using h
  exact ⟨fun h => absurd h hg, fun h => absurd h hg, fun h => absurd h hg, fun h => absurd h hg⟩

theorem LoadingOk.congr (k : LoadingOk s) (hg : t.seat.stage = s.seat.stage)
    (hm : t.seat.fallbackMark = s.seat.fallbackMark) (hr : t.seat.rejoin = s.seat.rejoin ∨ t.seat.rejoin = none)
    (hh : t.seat.headListen = s.seat.headListen) (hc : t.lamps.channels = s.lamps.channels) : LoadingOk t := by
  refine ⟨?_, ?_, ?_, ?_⟩ <;> rw [hg] <;> intro h
  · rw [hm]; exact k.marker h
  · rcases hr with hr | hr <;> rw [hr]
    exact k.rejoin h
  · rw [hh]; exact k.headListen h
  · rw [hc]; exact k.channels h

/-- No move enters LOADING. -/
theorem Move.loaded_or (h : Move R L s t) : t.loaded = true ∨ t.seat.stage = s.seat.stage := by
  cases h with
  | claim | standalone | conflict | left | yielded | seated | sync | checking | joined => exact .inl rfl
  | loaded => exact .inl rfl
  | forget | testing | held | claimSent | sent => exact .inr rfl
  | started => exact .inr (startedHead_fields s).1
  | returned => exact .inr (returnToPending_seatFields s).1
  | muted _ hu => exact .inr hu.framed.stage

theorem Path.loaded (h : Path R L s t) : s.loaded = true → t.loaded = true := by
  refine h.keep (fun h k => h.framed.loaded.trans k) fun h k => ?_
  rcases h.loaded_or with h | h
  · exact h
  · simpa only [State.loaded, h] using k

theorem Move.loadingOk (h : Move R L s t) (hL : ¬L) (k : LoadingOk s) : LoadingOk t := by
  cases h with
  | claim | standalone | conflict | left | yielded | seated | sync | checking | joined | loaded =>
    exact loadingOk_of_loaded rfl
  | forget => exact k.congr rfl rfl (.inr rfl) rfl rfl
  | testing | held | claimSent | sent => exact k.congr rfl rfl (.inl rfl) rfl rfl
  | started =>
    obtain ⟨h1, -, -, h4, h5, h6, -, -, -, -, -, hl, -⟩ := startedHead_fields s
    exact k.congr h1 h5 (.inl h4) h6 (by simp [noteStart, setLine, hl])
  | returned =>
    obtain ⟨h1, -, -, h4, h5, h6⟩ := returnToPending_seatFields s
    obtain ⟨-, -, -, -, -, -, -, hl, -⟩ := returnToPending_keeps s
    exact k.congr h1 h5 (.inl h4) h6 (by simp [hl])
  | muted _ hu => exact (hu.loadingOk hL (k.congr rfl rfl (.inl rfl) rfl rfl)).congr rfl rfl (.inl rfl) rfl rfl

theorem Path.loadingOk (h : Path R L s t) (hL : ¬L ∨ s.loaded = true) (k : LoadingOk s) : LoadingOk t := by
  rcases hL with hL | hL
  · exact h.keep (fun h => h.loadingOk hL) (fun h => h.loadingOk hL) k
  · exact loadingOk_of_loaded (h.loaded hL)

/-! ### The fault list -/


theorem Move.faultsOk (h : Move R L s t) (k : FaultsOk s) : FaultsOk t := by
  have hl {g : Stage} {all : Bool} {u : State} (h : LeftSeat L s g all u) : FaultsOk u :=
    h.keep (fun _ _ => k.of_list le_rfl (.refl _)) Quiet.faultsOk fun h => h.of_list le_rfl (.refl _)
  cases h with
  | claim | forget | standalone | conflict | seated | testing | joined | held | claimSent | sent =>
    exact k.of_list le_rfl (.refl _)
  | sync h | checking h => exact (h.faultsOk k).of_list le_rfl (.refl _)
  | left h | yielded h => exact (hl h).of_list le_rfl (.refl _)
  | started =>
    obtain ⟨-, -, -, -, -, -, -, -, -, -, -, -, hf, hn, -⟩ := startedHead_fields s
    exact k.of_list (by simp [noteStart, setLine, hn]) (by simp [noteStart, setLine, hf])
  | returned =>
    obtain ⟨-, hn, -, -, -, -, -, -, -, -, -, hf, -⟩ := returnToPending_keeps s
    exact k.of_list (by simp [hn]) (by simp [hf])
  | muted _ hu => exact (hu.faultsOk (k.of_list le_rfl (.refl _))).of_list le_rfl (.refl _)
  | loaded p =>
    obtain ⟨-, hn, -, -, hf, -⟩ := loadListen_keeps (s := s) p
    exact k.of_list hn.ge (by rw [hf])

theorem Path.faultsOk (h : Path R L s t) : FaultsOk s → FaultsOk t := h.keep Quiet.faultsOk Move.faultsOk

theorem Move.latched (h : Move R L s t) (e : FaultEntry) (hl : e.code.latched = true) (he : e ∈ s.faults.list) :
    e ∈ t.faults.list := by
  have hk {g : Stage} {all : Bool} {u : State} (h : LeftSeat L s g all u) : e ∈ u.faults.list :=
    h.keep (P := fun u => e ∈ u.faults.list) (fun _ _ => he) (fun h => h.latched e hl) fun h => h
  cases h with
  | claim | forget | standalone | conflict | seated | testing | joined | held | claimSent | sent => exact he
  | sync h | checking h => exact h.latched e hl he
  | left h | yielded h =>
    have hm := hk h
    exact hm
  | started =>
    obtain ⟨-, -, -, -, -, -, -, -, -, -, -, -, hf, -⟩ := startedHead_fields s
    simpa [noteStart, setLine, hf] using he
  | returned =>
    obtain ⟨-, -, -, -, -, -, -, -, -, -, -, hf, -⟩ := returnToPending_keeps s
    simpa [hf] using he
  | muted _ hu => exact hu.latched e hl he
  | loaded p => rw [(loadListen_keeps p).2.2.2.2.1]; exact he

/-- An entry of a latched code stays along a path. -/
theorem Path.latched (h : Path R L s t) (e : FaultEntry) (hl : e.code.latched = true) :
    e ∈ s.faults.list → e ∈ t.faults.list :=
  h.keep (P := fun u => e ∈ u.faults.list) (fun h => h.latched e hl) (fun h => h.latched e hl)

/-- A fault that is not latched is gone once cleared. -/
theorem clearFault_hasFault (c : FaultCode) (u : Nat) (h : c.latched = false) : (clearFault c u s).hasFault c u = false := by
  unfold clearFault
  rw [if_neg (by simp [h])]
  split
  · next hn =>
    rw [hasFault_eq_false]
    simpa using hn
  · next x hx =>
    have hx := List.find?_some hx
    simp only [Bool.and_eq_true, beq_iff_eq] at hx
    rw [hasFault_eq_false, removeFault_list]
    intro e he hc
    have := List.of_mem_filter he
    simp [hc, hx] at this

theorem LeftSeat.frontLinkOk {g : Stage} {all : Bool} (h : LeftSeat L s g all t) : FrontLinkOk t := by
  obtain ⟨l, -, -, -, -, hu⟩ := h
  exact hu.frontLinkOk fun _ => clearFault_hasFault _ _ rfl

theorem FrontLinkOk.congr (k : FrontLinkOk s) (hs : t.seated = false → s.seated = false)
    (hf : t.faults.list = s.faults.list) : FrontLinkOk t := by
  intro h
  rw [State.hasFault, hf]
  exact k (hs h)

theorem frontLinkOk_of_seated (h : t.seated = true) : FrontLinkOk t := fun hs => by rw [h] at hs; cases hs

theorem Move.frontLinkOk (h : Move R L s t) (w : UnderWay s) (k : FrontLinkOk s) : FrontLinkOk t := by
  cases h with
  | claim _ _ _ _ hs => exact k.congr (fun _ => hs) rfl
  | standalone hs | conflict hs => exact k.congr (fun _ => (hs w).1) rfl
  | left h | yielded h =>
    have hu : _ := h.frontLinkOk
    exact hu.congr (fun _ => by rw [State.seated, h.stage]; rfl) rfl
  | seated | sync | checking | joined => exact frontLinkOk_of_seated rfl
  | forget | testing | held | claimSent | sent => exact k.congr id rfl
  | started =>
    obtain ⟨h1, -, -, -, -, -, -, -, -, -, -, -, hf, -⟩ := startedHead_fields s
    refine k.congr ?_ (by simp [noteStart, setLine, hf])
    simp only [State.seated, noteStart, setLine, h1]
    exact id
  | returned =>
    obtain ⟨-, -, -, -, -, -, -, -, -, -, -, hf, -⟩ := returnToPending_keeps s
    refine k.congr ?_ (by simp [hf])
    simp only [State.seated, (returnToPending_seatFields s).1]
    exact id
  | muted _ hu => exact (hu.frontLinkOk (k.congr id rfl)).congr id rfl
  | loaded p hg =>
    exact k.congr (fun _ => by simp [State.seated, hg, Stage.seated]) (by rw [(loadListen_keeps p).2.2.2.2.1])

theorem Path.frontLinkOk (h : Path R L s t) (w : UnderWay s) (k : FrontLinkOk s) : FrontLinkOk t :=
  (h.keep (P := fun s => UnderWay s ∧ FrontLinkOk s) (fun h k => ⟨h.underWay k.1, h.frontLinkOk k.2⟩)
    (fun h k => ⟨h.underWay k.1, h.frontLinkOk k.1 k.2⟩) ⟨w, k⟩).2

end Sys2Proof.Machine
end

section
/-! SUPPORT. What paths keep, continued: the channels, the circuit check and the retention record. -/

namespace Sys2Proof.Machine

variable {R L : Prop} {s t : State}

/-! ### Load done -/

theorem appliedProfile_lamps (i : Option (List Byte)) : (appliedProfile i).lamps.length = 12 := by
  unfold appliedProfile
  split
  · split <;> rfl
  · rfl

theorem restoredChannel_keeps (f : LampFn) (r : Health × Nat) (hr : r.2 ≤ 3) :
    (restoredChannel f r).ok ∧ (f ≠ .unassigned → (restoredChannel f r).health = r.1 ∧ (restoredChannel f r).retry = r.2) := by
  unfold restoredChannel
  split
  · next h => exact ⟨⟨fun _ => ⟨rfl, rfl⟩, Nat.zero_le 3⟩, fun hf => absurd h hf⟩
  · split
    · next h => exact ⟨⟨fun hh => (by cases h.symm.trans hh), hr⟩, fun _ => ⟨rfl, rfl⟩⟩
    · exact ⟨⟨fun _ => ⟨rfl, rfl⟩, hr⟩, fun _ => ⟨rfl, rfl⟩⟩

theorem restoredChannels_get (l : List LampCfg) (rs : List (Health × Nat)) (i : Nat) :
    (restoredChannels l rs)[i]? = (l[i]?).bind fun c => (rs[i]?).map fun r => restoredChannel c.function r := by
  induction l generalizing rs i with
  | nil => simp [restoredChannels]
  | cons c l ih =>
    cases rs with
    | nil => cases i <;> simp [restoredChannels]
    | cons r rs =>
      cases i with
      | zero => simp [restoredChannels]
      | succ i => simpa [restoredChannels] using ih rs i

/-- What load done makes of the channels and of the retention record: restored, or written afresh. -/
theorem loadListen_record (p : LoadSample) (s : State) :
    let t := loadListen p s
    t.loader.identity = (applyImage s).loader.identity ∧ t.loader.profile = (applyImage s).loader.profile ∧
    (((applyImage s).warmTest = true ∧ t.retention = s.retention ∧
        t.lamps.channels = restoredChannels (applyImage s).loader.profile.lamps s.retention.channels) ∨
      ((applyImage s).warmTest = false ∧ t.retention = freshRetention (applyImage s).loader.identity ∧
        t.lamps.channels = s.lamps.channels)) := by
  simp only [loadListen, decideRetention]
  split
  · next h => exact ⟨rfl, rfl, .inl ⟨h, rfl, rfl⟩⟩
  · next h => exact ⟨rfl, rfl, .inr ⟨by simpa using h, rfl, rfl⟩⟩

theorem loadListen_channelsOk (p : LoadSample) (k : ChannelsOk s) : ChannelsOk (loadListen p s) := by
  obtain ⟨-, -, ⟨-, hr, hl⟩ | ⟨-, hr, hl⟩⟩ := loadListen_record p s
  · refine ⟨?_, by rw [hr]; exact k.retained⟩
    rw [hl]
    intro c hc
    obtain ⟨i, hi⟩ := List.mem_iff_getElem?.mp hc
    rw [restoredChannels_get] at hi
    simp only [Option.bind_eq_some_iff, Option.map_eq_some_iff] at hi
    obtain ⟨e, -, r, hr, rfl⟩ := hi
    exact (restoredChannel_keeps _ r (k.retained r (List.mem_of_getElem? hr))).1
  · refine ⟨by rw [hl]; exact k.channels, ?_⟩
    rw [hr]
    intro r hm
    rw [List.eq_of_mem_replicate hm]
    exact Nat.zero_le 3

theorem loadListen_mirrored (p : LoadSample) (k : ∀ c ∈ s.lamps.channels, c = Channel.reset) :
    Mirrored (loadListen p s) := by
  intro n c hc hf
  obtain ⟨-, hp, ⟨-, hr, hl⟩ | ⟨-, hr, hl⟩⟩ := loadListen_record p s
  all_goals
    rw [hl] at hc
    rw [hr]
    simp only [State.functionOf, hp] at hf
    match n with
    | 0 => cases hc
    | n + 1 => ?_
  · rw [nth, restoredChannels_get] at hc
    simp only [Option.bind_eq_some_iff, Option.map_eq_some_iff] at hc
    obtain ⟨e, he, r, hr, rfl⟩ := hc
    simp only [nth, he, Option.map_some, Option.getD_some] at hf
    have hk : (restoredChannel e.function r).health = r.1 ∧ (restoredChannel e.function r).retry = r.2 := by
      unfold restoredChannel
      rw [if_neg hf]
      split <;> exact ⟨rfl, rfl⟩
    rw [nth, hr, hk.1, hk.2]
  · have h12 : (applyImage s).loader.profile.lamps.length = 12 := appliedProfile_lamps _
    have hn : n < 12 := by
      by_contra hge
      simp only [nth, List.getElem?_eq_none (show (applyImage s).loader.profile.lamps.length ≤ n by omega)] at hf
      exact hf rfl
    rw [k c (List.mem_of_getElem? hc)]
    exact (List.getElem?_replicate ..).trans (if_pos hn)

/-! ### The channels and the check -/

theorem Move.channelsOk (h : Move R L s t) (k : ChannelsOk s) : ChannelsOk t := by
  have hl {g : Stage} {all : Bool} {u : State} (h : LeftSeat L s g all u) : ChannelsOk u :=
    h.keep (fun _ _ => k.congr rfl rfl) Quiet.channelsOk fun h => h.congr rfl rfl
  cases h with
  | claim | forget | standalone | conflict | seated | testing | joined | held | claimSent | sent =>
    exact k.congr rfl rfl
  | sync h | checking h => exact (h.channelsOk k).congr rfl rfl
  | left h | yielded h => exact (hl h).congr rfl rfl
  | started =>
    obtain ⟨-, -, -, -, -, -, -, -, hr, -, -, hl, -⟩ := startedHead_fields s
    exact k.congr (by simp [noteStart, setLine, hl]) (by simp [noteStart, setLine, hr])
  | returned =>
    obtain ⟨-, -, -, hr, -, -, -, hl, -⟩ := returnToPending_keeps s
    exact k.congr (by simp [hl]) (by simp [hr])
  | muted _ hu => exact (hu.channelsOk (k.congr rfl rfl)).congr rfl rfl
  | loaded p => exact loadListen_channelsOk p k

theorem Path.channelsOk (h : Path R L s t) : ChannelsOk s → ChannelsOk t := h.keep Quiet.channelsOk Move.channelsOk

theorem checkOk_of_none (h : t.lamps.check = none) : CheckOk t := fun c hc => by rw [h] at hc; cases hc

theorem CheckOk.congr (k : CheckOk s) (hc : t.lamps.check = s.lamps.check) (hp : t.loader.profile = s.loader.profile) :
    CheckOk t := by
  intro c h
  rw [hc] at h
  simpa only [State.assigned, State.functionOf, hp] using k c h

theorem Move.checkOk (h : Move R L s t) (w : UnderWay s) (k : CheckOk s) : CheckOk t := by
  have hl {g : Stage} {all : Bool} {u : State} (h : LeftSeat L s g all u) : CheckOk u :=
    h.keep (fun _ _ => k.congr rfl rfl) Quiet.checkOk fun h => h.congr rfl rfl
  cases h with
  | claim | forget | standalone | conflict | seated | joined | held | claimSent | sent =>
    exact k.congr rfl rfl
  | sync h | checking h => exact (h.checkOk k).congr rfl rfl
  | testing c _ ht hn ha =>
    intro c' hc'
    cases hc'
    exact ⟨hn, ha k, fun _ => by omega, by omega⟩
  | left h | yielded h => exact (hl h).congr rfl rfl
  | started =>
    obtain ⟨-, -, -, -, -, -, -, hp, -, -, -, hl, -⟩ := startedHead_fields s
    exact k.congr (by simp [noteStart, setLine, hl]) (by simp [noteStart, setLine, hp])
  | returned =>
    obtain ⟨-, -, hp, -, -, -, -, hl, -⟩ := returnToPending_keeps s
    exact k.congr (by simp [hl]) (by simp [hp])
  | muted _ hu => exact (hu.checkOk (k.congr rfl rfl)).congr rfl rfl
  | loaded p hg =>
    exact checkOk_of_none ((loadListen_keeps p).2.2.2.2.2.2.2.trans
      (w.unchecked (by rw [hg]; decide) (by rw [hg]; decide)).1)

theorem Path.checkOk (h : Path R L s t) (w : UnderWay s) (k : CheckOk s) : CheckOk t :=
  (h.keep (P := fun s => UnderWay s ∧ CheckOk s) (fun h k => ⟨h.underWay k.1, h.checkOk k.2⟩)
    (fun h k => ⟨h.underWay k.1, h.checkOk k.1 k.2⟩) ⟨w, k⟩).2

/-! ### The retention record -/

/-- What `RetainedOk` says of a loaded running station, but for the seat. -/
structure RecordOk (s : State) : Prop where
  valid : s.retention.valid = true
  identity : s.retention.identity = s.loader.identity
  channels : Mirrored s

theorem RecordOk.congr (k : RecordOk s) (hr : t.retention = s.retention) (hl : t.loader = s.loader)
    (hc : t.lamps.channels = s.lamps.channels) : RecordOk t :=
  ⟨by rw [hr]; exact k.valid, by rw [hr, hl]; exact k.identity, k.channels.congr hc (by rw [hr]) (by rw [hl])⟩

theorem Quiet.recordOk (h : Quiet L s t) (k : RecordOk s) : RecordOk t :=
  ⟨h.framed.valid.trans k.valid, by rw [h.framed.retainedId, h.framed.identity, k.identity], h.mirrored k.channels⟩

/-- The seat in the record: the own one, or before it the one a rejoin waits for. -/
def SeatRetained (s : State) : Prop :=
  s.retention.seat = if s.seated = true then s.seat.ownSeat else s.seat.rejoin.getD 0

/-- `RetainedOk` of a running station. -/
def RetainedRunning (s : State) : Prop := s.loaded = true → RecordOk s ∧ SeatRetained s

theorem retainedOk_iff (hp : s.power ≠ .lost) : RetainedOk s ↔ RetainedRunning s :=
  ⟨fun h hl => ⟨⟨h.valid hp hl, h.identity hp hl, h.channels hp hl⟩, h.seat hp hl⟩,
    fun h => ⟨fun _ hl => (h hl).1.valid, fun _ hl => (h hl).1.identity, fun _ hl => (h hl).2,
      fun _ hl => (h hl).1.channels⟩⟩

theorem SeatRetained.congr (k : SeatRetained s) (hr : t.retention.seat = s.retention.seat)
    (hg : t.seat.stage = s.seat.stage) (ho : t.seat.ownSeat = s.seat.ownSeat) (hj : t.seat.rejoin = s.seat.rejoin) :
    SeatRetained t := by
  rw [SeatRetained, State.seated, hr, hg, ho, hj]
  exact k

theorem Quiet.retained (h : Quiet L s t) (k : RetainedRunning s) : RetainedRunning t := by
  intro hl
  obtain ⟨k1, k2⟩ := k (h.framed.loaded ▸ hl)
  exact ⟨h.recordOk k1, k2.congr h.framed.retainedSeat h.framed.stage h.framed.ownSeat h.framed.rejoin⟩

theorem LeftSeat.recordOk {g : Stage} {all : Bool} (h : LeftSeat L s g all t) (k : RecordOk s) : RecordOk t :=
  h.keep (fun _ _ => k.congr rfl rfl rfl) Quiet.recordOk fun h => h.congr rfl rfl rfl

/-- Giving up the retained seat, or taking none, keeps the rest of the record. -/
theorem RecordOk.retainSeat (k : RecordOk s) (hr : t.retention = { s.retention with valid := true, seat := 0 })
    (hl : t.loader = s.loader) (hc : t.lamps = s.lamps) : RecordOk t :=
  ⟨by rw [hr], by rw [hr, hl]; exact k.identity, k.channels.congr (by rw [hc]) (by rw [hr]) (by rw [hl])⟩

theorem loaded_of_seated (h : s.seated = true) : s.loaded = true := by
  simpa [State.loaded] using (stage_of_seated h).1

theorem LeftSeat.wasSeated {g : Stage} {all : Bool} (h : LeftSeat L s g all t) : s.seated = true := by
  obtain ⟨l, hs, -⟩ := h
  exact hs

theorem Move.retained (h : Move R L s t) (w : UnderWay s) (j : LoadingOk s) (k : RetainedRunning s) : RetainedRunning t := by
  intro hl
  cases h with
  | claim _ _ _ _ hs hd =>
    obtain ⟨k1, k2⟩ := k hd
    refine ⟨k1.congr rfl rfl rfl, ?_⟩
    rw [SeatRetained, if_neg (by simp [hs])] at k2
    exact k2
  | forget hs =>
    obtain ⟨k1, -⟩ := k hl
    refine ⟨k1.retainSeat rfl rfl rfl, ?_⟩
    rw [SeatRetained, if_neg (by rw [show (forgetRejoin s).seated = s.seated from rfl, hs]; decide)]
    rfl
  | standalone hs => exact ⟨(k (hs w).2).1.retainSeat rfl rfl rfl, rfl⟩
  | conflict hs => exact ⟨(k (hs w).2).1.retainSeat rfl rfl rfl, rfl⟩
  | left h => exact ⟨(h.recordOk (k (loaded_of_seated h.wasSeated)).1).retainSeat rfl rfl rfl, rfl⟩
  | yielded h => exact ⟨(h.recordOk (k (loaded_of_seated h.wasSeated)).1).retainSeat rfl rfl rfl, rfl⟩
  | seated hg =>
    obtain ⟨k1, -⟩ := k (by simp [State.loaded, hg])
    exact ⟨⟨rfl, rfl, k1.channels.congr rfl rfl rfl⟩, rfl⟩
  | sync hq hr | checking hq hr =>
    have hs := (hr w).1
    obtain ⟨k1, k2⟩ := hq.retained k (loaded_of_seated hs)
    refine ⟨k1.congr rfl rfl rfl, ?_⟩
    rw [SeatRetained, if_pos hs] at k2
    exact k2
  | joined hg =>
    have hs : s.seated = true := by simp [State.seated, hg, Stage.seated]
    obtain ⟨k1, k2⟩ := k (loaded_of_seated hs)
    refine ⟨k1.congr rfl rfl rfl, ?_⟩
    rw [SeatRetained, if_pos hs] at k2
    exact k2
  | testing | held | claimSent | sent =>
    obtain ⟨k1, k2⟩ := k hl
    exact ⟨k1.congr rfl rfl rfl, k2⟩
  | started =>
    obtain ⟨h1, h2, -, h4, -, -, -, h8, h9, -, -, hc, -⟩ := startedHead_fields s
    have hd : s.loaded = true := by simpa [State.loaded, noteStart, setLine, h1] using hl
    obtain ⟨k1, k2⟩ := k hd
    exact ⟨k1.congr h9 h8 (by simp [noteStart, setLine, hc]), k2.congr (by simp [noteStart, setLine, h9]) h1 h2 h4⟩
  | returned =>
    obtain ⟨h1, h2, -, h4, -⟩ := returnToPending_seatFields s
    obtain ⟨-, -, h8, h9, -, -, -, hc, -⟩ := returnToPending_keeps s
    have hd : s.loaded = true := by simpa [State.loaded, h1] using hl
    obtain ⟨k1, k2⟩ := k hd
    exact ⟨k1.congr h9 h8 (by simp [hc]), k2.congr (by simp [h9]) h1 h2 h4⟩
  | muted _ hu =>
    have hk : RetainedRunning _ := hu.retained fun hl => ⟨(k hl).1.congr rfl rfl rfl, (k hl).2⟩
    obtain ⟨k1, k2⟩ := hk hl
    exact ⟨k1.congr rfl rfl rfl, k2⟩
  | loaded p hg =>
    have hm : Mirrored (loadListen p s) := loadListen_mirrored p (j.channels hg)
    obtain ⟨hi, -, hr⟩ := loadListen_record p s
    obtain ⟨-, -, hj⟩ := loadListen_seat p s
    rw [SeatRetained, loadListen_unseated, if_neg (by decide)]
    rcases hr with ⟨hw, hr, -⟩ | ⟨hw, hr, -⟩
    · have hj := (hj.resolve_right fun h => by rw [h.1] at hw; cases hw).2
      simp only [State.warmTest, Bool.and_eq_true, beq_iff_eq] at hw
      exact ⟨⟨by rw [hr]; exact hw.1.1.1.1.2, by rw [hr, hi]; exact hw.1.1.2, hm⟩, by rw [hr, hj]; rfl⟩
    · have hj := (hj.resolve_left fun h => by rw [h.1] at hw; cases hw).2
      exact ⟨⟨by rw [hr]; rfl, by rw [hr, hi]; rfl, hm⟩, by rw [hr, hj, j.rejoin hg]; rfl⟩

theorem Path.retained (h : Path R L s t) (hL : ¬L ∨ s.loaded = true) (w : UnderWay s) (j : LoadingOk s)
    (k : RetainedRunning s) : RetainedRunning t := by
  induction h with
  | quiet h => exact h.retained k
  | move h => exact h.retained w j k
  | trans h1 _ ih1 ih2 => exact ih2 (hL.imp id h1.loaded) (h1.underWay w) (h1.loadingOk hL j) (ih1 hL w j k)

end Sys2Proof.Machine
end

section
/-! SUPPORT. Every effect is a path. -/

namespace Sys2Proof.Machine

variable {R L : Prop} {s t u : State}

theorem Quiet.path (h : Quiet L s t) : Path R L s t := .quiet h
theorem Move.path (h : Move R L s t) : Path R L s t := .move h

/-- A path, then a quiet change. -/
theorem Path.settled (h : Path R L s t) (k : Quiet L t u) : Path R L s u := .trans h (.quiet k)

/-- A quiet change, then a path. -/
theorem Quiet.then (h : Quiet L s t) (k : Path R L t u) : Path R L s u := .trans (.quiet h) k

/-! ### Claims -/

theorem queueClaim_path (seat : Nat) (b : Bool) (hs : s.seated = false) (hl : s.loaded = true)
    (hc : s.seat.claim = .pending ∨ s.seat.stage ≠ .claiming) (hi : SeatsOk s → isSeat seat) :
    Path R L s (queueClaim seat b s) :=
  (Move.claim seat s.line.nextId b s.seat.fallbackMark hs hl hc hi).path.settled (.offer _)

theorem tryWarmClaim_path : Path R L s (tryWarmClaim s) := by
  unfold tryWarmClaim
  split
  · exact .quiet (.refl L s)
  · next p hp =>
    split
    · next h =>
      simp only [Bool.and_eq_true, beq_iff_eq] at h
      have hg : s.seat.stage = .listen := h.1.1.1
      exact queueClaim_path p true (by simp [State.seated, hg, Stage.seated]) (by simp [State.loaded, hg])
        (.inr (by simp [hg])) fun k => k.rejoin p hp
    · exact .quiet (.refl L s)

theorem withdrawClaim_quiet : Quiet L s (withdrawClaim s) := by
  unfold withdrawClaim
  split
  · exact withdrawId_quiet _
  · exact .refl L s

theorem withdrawClaim_seat : (withdrawClaim s).seat = s.seat := by
  unfold withdrawClaim
  split <;> rfl

/-- A station in LISTEN or CLAIMING falls back to STANDALONE. -/
theorem seatUnavailable_path (h : UnderWay s → s.seat.stage = .listen ∨ s.seat.stage = .claiming) :
    Path R L s (seatUnavailable s) := by
  have hw : withdrawClaim s = s ∨ ∃ q, withdrawClaim s = s.setQueue q := by
    unfold withdrawClaim
    split
    · exact .inr ⟨_, rfl⟩
    · exact .inl rfl
  have hm : Move R L (withdrawClaim s) (enterStandalone (withdrawClaim s)) := by
    refine .standalone fun k => ?_
    have hk : UnderWay s ∧ (withdrawClaim s).seat = s.seat := by
      obtain hw | ⟨q, hw⟩ := hw <;> rw [hw] at k ⊢
      · exact ⟨k, rfl⟩
      · exact ⟨⟨k.claim, k.held, k.window, k.initial, k.check⟩, rfl⟩
    obtain hg | hg := h hk.1 <;> simp [State.seated, State.loaded, hk.2, hg, Stage.seated]
  exact withdrawClaim_quiet.then (hm.path.settled (raiseFault_quiet _ _ _ (by simp)))

theorem unseatedOver_path (h : s.seat.stage = .listen ∨ s.seat.stage = .claiming) : Path R L s (unseatedOver s) := by
  have h1 : Quiet L s { s with seat := { s.seat with unseated := .stopped } } := .plain rfl
  simp only [unseatedOver]
  split
  · next hc => exact h1.then (Move.held (s := { s with seat := { s.seat with unseated := .stopped } }) hc).path
  · exact h1.then (seatUnavailable_path fun _ => h)

theorem acceptOffer_path (p n : Nat) (ha : s.mayAccept p n = true) : Path R L s (acceptOffer n s) := by
  have hi : isSeat n := by
    simp only [State.mayAccept, Bool.and_eq_true, beq_iff_eq, decide_eq_true_eq] at ha
    exact ⟨by omega, ha.2⟩
  unfold acceptOffer
  split
  · next hg =>
    exact queueClaim_path n false (by simp [State.seated, hg, Stage.seated]) (by simp [State.loaded, hg])
      (.inr (by simp [hg])) fun _ => hi
  · next hg =>
    have h1 : Quiet L s { s with seat := { s.seat with unseated := Timer.start Config.unseatedMs } } := .plain rfl
    refine h1.then ((Move.claim n s.line.nextId false true ?_ ?_ (.inr ?_) fun _ => hi).path.settled (.offer _))
    · simp [State.seated, hg, Stage.seated]
    · simp [State.loaded, hg]
    · simp [hg]
  · next hg =>
    split
    · exact .quiet (.refl L s)
    · split
      · next hc =>
        have hq : Quiet L s (withdrawClaim s) := withdrawClaim_quiet
        have hu : (withdrawClaim s).seated = false := by
          rw [hq.framed.seated]
          simp [State.seated, hg, Stage.seated]
        have hf : forgetRejoin (withdrawClaim s) =
            retainSeat 0 { withdrawClaim s with seat := { s.seat with rejoin := none } } := by
          rw [forgetRejoin, withdrawClaim_seat]
        rw [← hf]
        refine hq.then ((Move.forget hu).path.trans
          (queueClaim_path (s := forgetRejoin (withdrawClaim s)) n false hu ?_ (.inl ?_) fun _ => hi))
        · exact hq.framed.loaded.trans (by simp [State.loaded, hg])
        · exact hq.framed.claim.trans hc.1
      · exact .quiet (.refl L s)
  all_goals exact .quiet (.refl L s)

/-! ### CONFLICT and the end of a seat -/

theorem abandonCheck_quiet : Quiet L s (abandonCheck s) := by
  unfold abandonCheck
  split
  · next hg =>
    have h := mapChannels_quiet (s := s) (L := L) (fun c => { c with lit := false, steady := none })
      (fun c hc => ⟨fun hh => ⟨rfl, (hc.1 hh).2⟩, hc.2⟩) (.inr (by simp [State.loaded, hg]))
    rw [setChannels_map (fun c => { c with lit := false, steady := none }) fun _ => ⟨rfl, rfl⟩] at h
    exact h.trans .unchecked
  · exact .unchecked

theorem abandonCheck_check : (abandonCheck s).lamps.check = none := by
  unfold abandonCheck
  split <;> rfl

theorem leaveSeat_eq (g : Stage) (all : Bool) (s : State) :
    leaveSeat g all s = clearFault .rearDeficient 0 (clearFault .combinationFull 0 (clearPresence
      (clearFault .frontLinkLost 0 (dropSeat g all (abandonCheck s))))) := by
  have h : (abandonCheck s).seat = s.seat := by
    unfold abandonCheck
    split <;> rfl
  simp only [leaveSeat, dropSeat, h]

/-- Leaving the seat, after quiet changes and with the own entry gone or not. -/
theorem leaveSeat_left (g : Stage) (all : Bool) (l : Table RosterEntry) (hs : s.seated = true)
    (hw : Table.wf s.roster.entries = true → Table.wf l = true)
    (hq : Quiet L { s with roster := { s.roster with entries := l } } u) : LeftSeat L s g all (leaveSeat g all u) := by
  rw [leaveSeat_eq]
  exact .intro l hs hw (hq.trans abandonCheck_quiet) abandonCheck_check
    (clearPresence_quiet.trans ((clearFault_quiet _ _).trans (clearFault_quiet _ _)))

theorem enterConflict_path (n : Nat) (h : s.seated = true ∨ s.seated = false ∧ s.loaded = true) :
    Path R L s (enterConflict n s) := by
  have key : Path R L s (startConflict (if s.seated then leaveSeat .conflict true s else s)) := by
    rcases h with h | ⟨h, hl⟩
    · rw [if_pos h]
      exact (Move.yielded (leaveSeat_left _ _ s.roster.entries h id (.refl L s))).path
    · rw [if_neg (by simp [h])]
      exact (Move.conflict fun _ => ⟨h, hl⟩).path
  exact key.settled (raiseFault_quiet _ _ _ (by simp))

theorem headListenOver_path (h : s.seat.stage = .listen) : Path R L s (headListenOver s) := by
  have h1 : Quiet L s { s with seat := { s.seat with headListen := .stopped } } := .headListen
  have hs : ({ s with seat := { s.seat with headListen := .stopped } } : State).seated = false := by
    simp [State.seated, h, Stage.seated]
  have hl : ({ s with seat := { s.seat with headListen := .stopped } } : State).loaded = true := by simp [State.loaded, h]
  simp only [headListenOver]
  split
  · exact h1.then (enterConflict_path 1 (.inr ⟨hs, hl⟩))
  · split
    · exact h1.then (queueClaim_path 1 false hs hl (.inr (by simp [h])) fun _ => ⟨le_rfl, by decide⟩)
    · exact h1.path

theorem takeDepart_path (l : List Nat) : Path R L s (takeDepart l s) := by
  simp only [takeDepart]
  split
  · next h =>
    simp only [Bool.and_eq_true, List.contains_iff_mem] at h
    have hr (v : State) (hv : v.seat = s.seat) : rearDepart l v = v := by
      simp [rearDepart, hv, h.2]
    have hq : Quiet L
        { s with
          roster :=
            { s.roster with
              entries := Table.erase s.roster.entries (l.filter fun p => Table.holds s.roster.entries p) } }
        (applyDepart l s) := by
      simp only [applyDepart]
      rw [hr]
      swap
      · rfl
      exact .trans (.reasm (Table.erase s.roster.reasm l) (Table.wf_erase _ _))
        (.trans (.demandTable (Table.erase s.demand.table _) (Table.wf_erase _ _))
          (.motionTable (Table.erase s.sensor.table _) (Table.wf_erase _ _)))
    exact (Move.left (leaveSeat_left .standalone false _ h.1 (Table.wf_erase _ _) hq)).path
  · next h =>
    refine .quiet (applyDepart_quiet l fun hs hm => h ?_)
    simp [hs, hm]

theorem claimOwn_path (i : Identity) (b : Bool) (h : s.seated = true) : Path R L s (claimOwn i b s) := by
  unfold claimOwn
  split
  · exact .quiet (.refl L s)
  · split
    · exact .quiet defendSeat_quiet
    · exact enterConflict_path _ (.inl h)

theorem takeClaim_path (n : Nat) (i : Identity) (c : UnitClass) (b : Bool) (h1 : 1 ≤ n) (h8 : n ≤ 8) :
    Path R L s (takeClaim n i c b s) := by
  unfold takeClaim
  extract_lets news v
  have hv : Quiet L s v := by
    unfold v
    split
    · exact .plain rfl
    · exact .refl L s
  refine hv.then ?_
  clear_value v
  split
  · next h => exact (claimOwn_path i b (Bool.and_eq_true_iff.mp h).1).settled actOnDue_quiet
  · next h =>
    have hi : Quiet L v (insertClaim n (claimEntry i c b) v) :=
      insertClaim_quiet n _ h1 h8 fun hs he => h (by simp [hs, he])
    refine hi.then ?_
    split
    · next hg =>
      have hq := withdrawClaim_quiet (L := L) (s := insertClaim n (claimEntry i c b) v)
      refine hq.then (enterConflict_path n (.inr ⟨?_, ?_⟩))
      · rw [hq.framed.seated, State.seated, hg.1]; rfl
      · rw [hq.framed.loaded, State.loaded, hg.1]; rfl
    · exact .quiet actOnDue_quiet

/-! ### SYNC, CHECKING and JOINED -/

theorem mem_numbersFrom (p : Nat → Channel → Bool) (k : Nat) (l : List Channel) (n : Nat) (h : n ∈ numbersFrom p k l) :
    ∃ c, p n c = true := by
  induction l generalizing k with
  | nil => cases h
  | cons c r ih =>
    simp only [numbersFrom] at h
    split at h
    · next hc =>
      rcases List.mem_cons.mp h with rfl | h
      · exact ⟨c, hc⟩
      · exact ih _ h
    · exact ih _ h

theorem assigned_of_underTest {n : Nat} (h : n ∈ s.underTest) : s.assigned n = true := by
  obtain ⟨c, hc⟩ := mem_numbersFrom _ _ _ _ h
  exact (Bool.and_eq_true_iff.mp hc).1


/-- What follows the entry into SYNC. -/
theorem enterSync_path (hq : Quiet L s u) (h : UnderWay s → Ready u) : Path R L s (enterSync u) :=
  (Move.sync hq h).path.settled
    (beginDemand_quiet.trans (queueCounts_quiet.trans (queueAnalog_quiet.trans (queueListedFaults_quiet.trans judgeFull_quiet))))

/-- A check is done in CHECKING. -/
theorem checkDone_path (hg : s.seat.stage = .checking) : Path R L s (checkDone s) := by
  unfold checkDone
  extract_lets r _ w v
  have hw : Quiet L s w := .unchecked
  have hv : Quiet L s v := hw.trans (.offer _)
  have hq : Quiet L s (modOwnEntry (fun e => { e with stage := .checked, check := some r }) v) :=
    hv.trans (modOwnEntry_quiet (fun e => { e with stage := .checked, check := some r }) fun _ => rfl)
  refine enterSync_path hq fun k => ?_
  have hu := hq.underWay k
  have hs := hq.framed.stage.trans hg
  refine ⟨by rw [State.seated, hs]; rfl, ?_, fun a ha hi => ?_⟩
  · by_contra hne
    have hc : v.lamps.check = none := by simp [v, w]
    have hm : (modOwnEntry (fun e => { e with stage := .checked, check := some r }) v).lamps = v.lamps := by
      unfold modOwnEntry
      split <;> rfl
    exact hne (by rw [hm, hc])
  · have := hu.initial a ha hi
    rw [hs] at this
    cases this

/-- CHECKING stands at its first turn, or is over where no channel is to be tested. -/
theorem enterChecking_path (hq : Quiet L s u) (h : UnderWay s → Ready u) : Path R L s (enterChecking u) := by
  have h1 : Path R L s (startChecking u) := (Move.checking hq h).path
  have hd : Quiet L (startChecking u) (darkenAll ((startChecking u).underTest.foldl prepareChannel (startChecking u))) := by
    have hp := foldl_prepareChannel_quiet (L := L) (startChecking u).underTest (.inr (rfl : (startChecking u).loaded = true))
    exact hp.trans (darkenAll_quiet (hp.admits (.inr rfl)))
  have hg := hd.framed.stage
  have ha := fun n => hd.framed.assigned n
  refine h1.trans (hd.then ?_)
  show Path R L _ (finishCheck (setCheck { todo := (startChecking u).underTest, turn := 0, pulse := true }
    (darkenAll ((startChecking u).underTest.foldl prepareChannel (startChecking u)))))
  generalize darkenAll ((startChecking u).underTest.foldl prepareChannel (startChecking u)) = v at hg ha
  simp only [finishCheck, setCheck]
  split
  · exact checkDone_path (s := v) hg
  · next hn =>
    refine (Move.testing _ hg rfl (by simpa using hn) fun _ n hm => ?_).path
    rw [ha]
    exact assigned_of_underTest hm

/-- The last segment has been sent, in PROFILING. -/
theorem profilingEnd_path (h : UnderWay s → s.seat.stage = .profiling) : Path R L s (profilingEnd s) := by
  have hq : Quiet L s (modOwnEntry (fun e => { e with stage := .profiled }) (setAnnounce none s)) :=
    .trans (.announced none fun x hx => by cases hx)
      (modOwnEntry_quiet (fun e => { e with stage := .profiled }) fun _ => rfl)
  have hr : UnderWay s → Ready (modOwnEntry (fun e => { e with stage := .profiled }) (setAnnounce none s)) := by
    intro k
    have hg := h k
    have hm : (modOwnEntry (fun e => { e with stage := .profiled }) (setAnnounce none s)).lamps = s.lamps ∧
        (modOwnEntry (fun e => { e with stage := .profiled }) (setAnnounce none s)).roster.announce = none := by
      unfold modOwnEntry
      split <;> exact ⟨rfl, rfl⟩
    refine ⟨by rw [State.seated, hq.framed.stage, hg]; rfl, ?_, fun a ha => by rw [hm.2] at ha; cases ha⟩
    rw [hm.1]
    by_contra hne
    have := k.check hne
    rw [hg] at this
    cases this
  simp only [profilingEnd]
  split
  · exact enterSync_path hq hr
  · exact enterChecking_path hq hr

theorem becomeSeated_path (hg : s.seat.stage = .claiming) (hw : s.seat.window.isRunning = true) :
    Path R L s (becomeSeated s) := by
  have hq : Quiet L (takeSeat s) (judgeFront (clearFault .seatUnavailable 0 (takeSeat s))) :=
    (clearFault_quiet ..).trans judgeFront_quiet
  have hp : (judgeFront (clearFault .seatUnavailable 0 (takeSeat s))).seat.stage = .profiling := hq.framed.stage
  refine (Move.seated hg hw).path.trans (hq.then ?_)
  show Path R L _ (if _ then _ else _)
  split
  · exact profilingEnd_path fun _ => hp
  · exact .quiet (beginSequence_quiet _ fun _ => .inl hp)

theorem enterJoined_path (hg : s.seat.stage = .sync) : Path R L s (enterJoined s) :=
  (Move.joined hg).path.settled
    ((modOwnEntry_quiet (fun e => { e with stage := .joined }) fun _ => rfl).trans (entryDecision_quiet.trans (.trans (.offer _) actOnDue_quiet)))

theorem syncOver_path (hg : s.seat.stage = .sync) : Path R L s (syncOver s) := by
  have h1 : Quiet L s { s with phase := { s.phase with lock := .own, quiet := 3 } } := .plain rfl
  exact h1.then (enterJoined_path hg)

theorem turnEnd_path (h : s.turnDue = true) : Path R L s (turnEnd s) := by
  simp only [State.turnDue, State.turnOver, Bool.and_eq_true, beq_iff_eq] at h
  obtain ⟨⟨hg, hp⟩, -⟩ := h
  cases hc : s.lamps.check with
  | none => simp [hc] at hp
  | some c =>
    simp only [turnEnd, finishCheck, hc, Option.map_some]
    split
    · exact checkDone_path (s := s) hg
    · next hn =>
      refine (Move.testing c.nextTurn hg rfl (by simpa using hn) fun k n hm => ?_).path
      exact (k c hc).2.1 n (List.mem_of_mem_drop hm)

theorem applyMark_path (p d l : Nat) (f : Int) : Path R L s (applyMark p d l f s) := by
  unfold applyMark
  split
  · exact .quiet (.refl L s)
  · split
    · next hg =>
      have h1 : Quiet L s { s with phase := s.phase.stepped p d l f } := .plain rfl
      have h2 : Path R L { s with phase := s.phase.stepped p d l f } _ := enterJoined_path hg
      have hl := h2.loaded (by simp [State.loaded, hg])
      have h3 := settle_quiet (L := L) (.inr (.inl hl))
      exact h1.then (h2.trans (h3.trans (wrapIfOver_quiet (.inr (h3.framed.loaded.trans hl)))).path)
    · next hg =>
      have h1 : Quiet L s { s with phase := s.phase.slewed p d l f } := .plain rfl
      exact (h1.trans (wrapIfOver_quiet (.inr (by simp [State.loaded, hg])))).path
    all_goals exact .quiet (.refl L s)

theorem takeMark_path (p d l : Nat) (f : Int) : Path R L s (takeMark p d l f s) := by
  have h1 : Quiet L s { s with phase := { s.phase with lastMark := some s.now } } := .plain rfl
  exact (h1.trans withdrawMark_quiet).then (applyMark_path ..)

end Sys2Proof.Machine
end

section
/-! SUPPORT. Every effect is a path: the events of the line, and all commands together. -/

namespace Sys2Proof.Machine

variable {R L : Prop} {s t u : State}

/-! ### Frames that return, and frames sent -/

theorem returnToPending_line (s : State) :
    ∃ q f, (returnToPending s).line = { s.line with queue := q, followOn := f } := by
  simp only [returnToPending]
  split
  · exact ⟨s.line.queue, s.line.followOn, rfl⟩
  · exact ⟨_, _, rfl⟩

theorem LineUnit.goOnReceiving_sending (l : LineUnit) : l.goOnReceiving.sending = false := by
  unfold LineUnit.goOnReceiving LineUnit.sending
  cases l.reception <;> rfl

theorem goOnReceiving_path (hR : R) : Path R L s (goOnReceiving (returnToPending s)) := by
  obtain ⟨q, f, h⟩ := returnToPending_line s
  refine (Move.returned (returnToPending s).line.goOnReceiving hR rfl rfl ?_ (LineUnit.goOnReceiving_sending _) ?_ ?_).path
  · simp [h, LineUnit.goOnReceiving]
  · rw [h]; exact fun k => { k with }
  · rw [h]; exact fun k => k

theorem readRecessive_path (hR : R) : Path R L s (readRecessive (returnToPending s)) := by
  unfold readRecessive
  split
  · split
    · exact (goOnReceiving_path hR).settled (.plain rfl)
    · obtain ⟨q, f, h⟩ := returnToPending_line s
      have hm : Move R L s { returnToPending s with line := (returnToPending s).line.readNoStart } := by
        refine .returned _ hR rfl rfl ?_ rfl ?_ ?_
        · simp [h, LineUnit.readNoStart]
        · rw [h]
          exact fun k => { k with recessive := Nat.min_le_right _ _, dominant := Nat.zero_le _ }
        · rw [h]; exact fun k => k
      exact hm.path.settled (.plain rfl)
  · exact goOnReceiving_path hR

theorem lapseClaim_path : Path R L s (lapseClaim s) := by
  unfold lapseClaim
  split
  · next h =>
    simp only [Bool.and_eq_true, beq_iff_eq] at h
    exact seatUnavailable_path fun k => .inr (k.claim (by rw [h.2]; decide))
  · exact .quiet (.refl L s)

/-- After the end of a lapsing claim a held expiry stands with a claim IN-FLIGHT only. -/
theorem lapseClaim_progressOk (k : UnderWay s) : ProgressOk (lapseClaim s) := by
  refine progressOk_iff.mpr ⟨(lapseClaim_path (R := True) (L := True)).underWay k, fun hh => ?_⟩
  unfold lapseClaim at hh ⊢
  split at hh
  · simp [seatUnavailable, enterStandalone, retainSeat] at hh
  · next h =>
    rw [if_neg h]
    rcases k.held hh with hc | hc
    · exact hc
    · simp [hh, hc] at h

theorem lapse_progressOk (h : Path R L s t) (k : ProgressOk s) : ProgressOk (lapseClaim t) :=
  lapseClaim_progressOk (h.underWay k.underWay)

theorem mutedAnnounce_path : Path R L s (mutedAnnounce s) := by
  unfold mutedAnnounce
  split
  · exact .quiet (.refl L s)
  · next a ha =>
    split
    · next hi => exact profilingEnd_path fun k => k.initial a ha hi
    · exact .quiet ((withdraw_quiet _).trans (.announced none fun x hx => by cases hx))

/-- A drive fault up to the lapse of a held claim. -/
def faulted (s : State) : State :=
  let v := readRecessive (returnToPending s)
  let n := min (v.line.driveFaults + 1) 3
  let w := { v with line := { v.line with disable := Timer.start Config.disableMs, driveFaults := n } }
  let z := raiseFault .lineDrive 0 2 w
  if n = 3 then becomeMute z else z

theorem driveFault_eq (s : State) : driveFault s = lapseClaim (faulted s) := rfl

theorem faulted_path (hR : R) : Path R L s (faulted s) := by
  have hr : Path R L s (readRecessive (returnToPending s)) := readRecessive_path hR
  unfold faulted
  extract_lets v n _ w z
  refine hr.trans ?_
  split
  · next hn =>
    have hq : Quiet L { v with line := { v.line with disable := Timer.start Config.disableMs, driveFaults := 3 } } z := by
      have he : w = { v with line := { v.line with disable := Timer.start Config.disableMs, driveFaults := 3 } } := by
        simp only [w, hn]
        rfl
      rw [← he]
      exact raiseFault_quiet _ _ _ (by simp)
    have hm : Move R L v { z with line := { z.line with mute := true } } := .muted (Timer.start Config.disableMs) hq
    exact hm.path.trans ((raiseFault_quiet _ _ _ (by simp)).then mutedAnnounce_path)
  · next hn =>
    have hw : Quiet L v w := .line _ rfl rfl rfl (fun _ => rfl) (fun k => { k with driveFaults := Nat.min_le_right _ _ })
      fun _ he => absurd he hn
    exact .quiet (hw.trans (raiseFault_quiet _ _ _ (by simp)))

/-- The line becomes STUCK, up to the lapse of a held claim. -/
def stuckLine (s : State) : State :=
  let b := (s.line.reception.map Reception.receiving).getD false
  let v := dropReception (returnToPending (if b then countMalformed s else s))
  raiseFault .lineStuck 0 2 (setLine .stuck 0 20 v)

theorem lineStuck_eq (s : State) : lineStuck s = lapseClaim (stuckLine s) := rfl

theorem stuckLine_path (hR : R) : Path R L s (stuckLine s) := by
  unfold stuckLine
  extract_lets b v
  have h1 : Quiet L s (if b then countMalformed s else s) := by
    split
    · exact countMalformed_quiet
    · exact .refl L s
  have h2 : Path R L (if b then countMalformed s else s) v := by
    obtain ⟨q, f, h⟩ := returnToPending_line (if b then countMalformed s else s)
    refine (Move.returned { (returnToPending (if b then countMalformed s else s)).line with reception := none }
      hR rfl rfl ?_ rfl ?_ ?_).path
    · simp [h]
    · rw [h]; exact fun k => { k with }
    · rw [h]; exact fun k => k
  have h3 : Quiet L v (setLine .stuck 0 20 v) :=
    .line _ rfl rfl rfl (fun _ => rfl)
      (fun k => ⟨Nat.zero_le _, le_refl 20, Nat.zero_le _, k.malformed, k.overflow, k.driveFaults⟩) fun k => k
  exact h1.then (h2.settled (h3.trans (raiseFault_quiet _ _ _ (by simp))))

theorem claimSent_path (id : Nat) : Path R L s (claimSent id s) := by
  unfold claimSent
  split
  · next h => exact (Move.claimSent h.1).path
  · exact .quiet (.refl L s)

theorem segmentSent_path : Path R L s (segmentSent s) := by
  unfold segmentSent
  split
  · exact .quiet (.refl L s)
  · next a ha =>
    have hk (b : Sending) (hb : b.purpose = a.purpose) : Quiet L s (setAnnounce (some b) s) :=
      .announced _ fun x hx hp => .inr ⟨a, ha, by cases hx; rw [← hb]; exact hp⟩
    have hn : Quiet L s (setAnnounce none s) := .announced none fun x hx => by cases hx
    split
    · exact .quiet (beginSequence_quiet _ fun hp => .inr ⟨a, ha, hp⟩)
    · split
      · exact .quiet ((hk { a with index := a.index + 1 } rfl).trans offerSegment_quiet)
      · split
        · next hi => exact profilingEnd_path fun k => k.initial a ha hi
        · exact .quiet (hn.trans (.offer _))
        · exact .quiet hn

theorem tellSent_path (x : Entry) : Path R L s (tellSent x s) := by
  unfold tellSent
  split
  · exact claimSent_path _
  · exact segmentSent_path
  · exact .quiet (relaySent_quiet _)
  · exact .quiet (querySent_quiet _)
  · exact .quiet (answerSent_quiet _)
  · exact .quiet (.refl L s)

/-- What leaves the queue with a frame sent, and what enters for it. -/
theorem leaveQueue_readOwnEnd (x : Entry) (s : State) :
    leaveQueue x (readOwnEnd s) =
      match s.line.followOn.find? fun g => x.frame.replaceClass.isSome && g.replaceClass == x.frame.replaceClass with
      | none => frameGone x s
      | some f => offer f (frameGone x s) := by
  obtain ⟨hq, hf, -⟩ := s.line.read_fields ((s.line.reception.map Reception.rest).getD [])
  simp only [leaveQueue, readOwnEnd, dropReception, frameGone, hq, hf] <;> rfl

theorem leaveQueue_path (x : Entry) (hx : s.inFlight = some x) : Path R L s (leaveQueue x (readOwnEnd s)) := by
  rw [leaveQueue_readOwnEnd]
  split
  · exact (Move.sent x hx).path
  · exact (Move.sent x hx).path.settled (.offer _)

theorem profileAgain_quiet (b : Bool) : Quiet L s (profileAgain b s) := by
  unfold profileAgain
  split
  · exact offerSegment_quiet
  · exact .refl L s

theorem noDriveFaults_quiet : Quiet L s { s with line := { s.line with driveFaults := 0 } } :=
  .line _ rfl rfl rfl (fun _ => rfl) (fun k => { k with driveFaults := Nat.zero_le _ }) fun _ h => by cases h

theorem sendEnd_path (x : Entry) (hx : s.inFlight = some x) : Path R L s (sendEnd x s) := by
  have h1 : Path R L s (tellSent x (leaveQueue x (readOwnEnd s))) := (leaveQueue_path x hx).trans (tellSent_path x)
  unfold sendEnd
  extract_lets o d a v _ w
  have h2 : Quiet L v w := noDriveFaults_quiet.trans (clearFault_quiet ..)
  exact h1.settled (h2.trans ((profileAgain_quiet a).trans (answerAgain_quiet o d)))

theorem takeRequest_quiet (r : Request) (h : r ≠ .restart) : Quiet L s (takeRequest r s) := by
  cases r
  case restart => exact absurd rfl h
  case query => exact requestQuery_quiet ..
  all_goals exact bodyRequest_quiet ..

theorem seatInRises_path : Path R L s (seatInRises s) := by
  have h1 : Quiet L s { s with seat := { s.seat with seatIn := true, seatInSeen := true } } := .plain rfl
  exact (h1.trans (clearFault_quiet ..)).then tryWarmClaim_path

theorem loadFaults_quiet : Quiet L s (loadFaults s) := by
  unfold loadFaults
  extract_lets v
  have hv : Quiet L s v := by
    unfold v
    split
    · exact raiseFault_quiet _ _ _ (by simp)
    · exact .refl L s
  split
  · exact hv.trans (raiseFault_quiet _ _ _ (by simp))
  · exact hv

theorem loadDone_path (p : LoadSample) (hg : s.seat.stage = .loading) : Path R L s (loadDone p s) := by
  have hr (v : State) : Quiet L v (restoredFaults v) := .foldl _ _ fun _ _ _ => raiseHealthFault_quiet ..
  exact (Move.loaded p hg).path.trans ((loadFaults_quiet.trans (hr _)).then tryWarmClaim_path)

/-! ### All commands -/

/-- The commands with which a frame returns to pending. -/
def returnsFrame : Instr → Prop
  | .arbitrationLost | .driveFault | .lineStuck => True
  | _ => False

/-- Changes of channels are admitted where LOADING is past, or is not as it should be. -/
def Awake (s : State) : Prop := s.loaded = true ∨ ¬LoadingOk s

/-- A channel that is not as a start leaves it tells that LOADING is past. -/
theorem awake_of_channel {n : Nat} (h : s.channel n ≠ Channel.reset) : Awake s := by
  by_cases hl : s.loaded = true
  · exact .inl hl
  · refine .inr fun k => h ?_
    have hg : s.seat.stage = .loading := by simpa [State.loaded] using hl
    unfold State.channel
    cases hn : nth s.lamps.channels n with
    | none => rfl
    | some c =>
      match n with
      | 0 => cases hn
      | n + 1 => exact k.channels hg c (List.mem_of_getElem? hn)

theorem awake_of_lit {n : Nat} (h : (s.channel n).lit = true) : Awake s :=
  awake_of_channel fun he => by rw [he] at h; cases h

/-- The effect of a command that moves nothing is quiet. -/
theorem Effect.quiet {c : Instr} (h : Effect c s t) (hc : movesStage c = false) : Quiet (Awake s) s t := by
  cases h
  case loadDone | seatInRises | seatInFalls | headListenOver | unseatedOver | becomeSeated | syncOver | turnEnd |
    frameStart | loseArbitration | driveFault | frameSent | lineStuck | slotTake => cases hc
  case presInRises => exact presInRises_quiet
  case presInFalls => exact presInFalls_quiet
  case offerOver => exact offerOver_quiet
  case judgeDeparture => exact judgeDeparture_quiet
  case takeWrap h => exact takeWrap_quiet (.inl (.inl (Bool.and_eq_true_iff.mp h).1))
  case withdrawMark => exact withdrawMark_quiet
  case litPartEdge => exact .refl _ _
  case inputChange => exact inputChange_quiet ..
  case holdOver => exact setHold_quiet ..
  case sendDemand => exact sendDemand_quiet
  case dropDemand => exact dropDemand_quiet _
  case pulseEnd i v n h =>
    refine pulseEnd_quiet n i v (.inr ?_)
    unfold State.pulsedChannel at h
    split at h
    · cases h
    · split at h
      · next hc =>
        simp only [Bool.and_eq_true, beq_iff_eq] at hc
        simp [State.loaded, hc.2]
      · cases h
  case checkTrip h _ =>
    have hl := (Bool.and_eq_true_iff.mp h).1
    exact checkTrip_quiet _ hl (.inl (awake_of_lit hl))
  case serviceTrip h _ =>
    have hl := (Bool.and_eq_true_iff.mp h).1
    exact serviceTrip_quiet _ hl (.inl (awake_of_lit hl))
  case steadySample h =>
    simp only [State.steadyDue, Bool.and_eq_true] at h
    exact sampleAt_quiet _ _ _ (.inl (awake_of_lit h.1.1.1.2))
  case flashSample h =>
    simp only [State.flashDue, Bool.and_eq_true] at h
    exact sampleAt_quiet _ _ _ (.inl (awake_of_lit h.1.1.2))
  case restOver h => exact restOver_quiet _ h (.inl (awake_of_channel fun he => by rw [he] at h; cases h))
  case provingOver h => exact provingOver_quiet _ (.inl (awake_of_channel fun he => by rw [he] at h; cases h))
  case conversion => exact conversion_quiet _
  case edge => exact edge_quiet ..
  case wheelOver => exact wheelOver_quiet
  case staleEntry => exact staleEntry_quiet _
  case queueCounts => exact queueCounts_quiet
  case queueAnalog => exact queueAnalog_quiet
  case runOver => exact endRun_quiet ..
  case bodyTrip => exact bodyTrip_quiet _
  case relayExpiry => exact relayExpiry_quiet
  case enableDriver => exact enableDriver_quiet
  case lineFreed => exact lineFreed_quiet
  case frameDiscarded => exact frameDiscarded_quiet _
  case queryExpiry => exact queryExpiry_quiet _
  case markInstant h => exact noteStart_quiet h
  case lineIdle h => exact lineQuiet_quiet h
  case received k p d f hv h => exact (frameHeard_quiet k p d).trans (received_quiet h hv hc)

/-- A request taken from the slot, but for RESTART. -/
theorem slotTake_quiet {r : Request} (h : s.port.slot = some r) (hp : s.power = .running)
    (hr : restarts .slotTake s = false) : Quiet L s (takeRequest r (emptySlot s)) := by
  have h1 : Quiet L s (emptySlot s) := .plain rfl
  refine h1.trans (takeRequest_quiet r ?_)
  rintro rfl
  simp [restarts, hp, h] at hr

/-- Every effect but a start is a path. -/
theorem Effect.path {c : Instr} (h : Effect c s t) (hp : s.power = .running) (hr : restarts c s = false) :
    Path (returnsFrame c) (Awake s) s t := by
  by_cases hc : movesStage c = false
  · exact .quiet (h.quiet hc)
  cases h
  case loadDone p h =>
    simp only [State.readOver, Bool.and_eq_true, beq_iff_eq] at h
    exact loadDone_path p h.1
  case seatInRises => exact seatInRises_path
  case seatInFalls => exact .quiet seatInFalls_quiet
  case headListenOver hg => exact headListenOver_path hg
  case unseatedOver h => exact unseatedOver_path h
  case becomeSeated hw hg => exact becomeSeated_path hg hw
  case syncOver hg => exact syncOver_path hg
  case turnEnd h => exact turnEnd_path h
  case frameStart h => exact (Move.started h).path
  case loseArbitration => exact (goOnReceiving_path trivial).trans lapseClaim_path
  case driveFault => exact (faulted_path trivial).trans lapseClaim_path
  case frameSent x h => exact sendEnd_path x h
  case lineStuck => exact (stuckLine_path trivial).trans lapseClaim_path
  case slotTake r h => exact .quiet (slotTake_quiet h hp hr)
  case received k p d f hv h =>
    refine (frameHeard_quiet k p d).then ?_
    generalize frameHeard k p d s = v
    cases h
    case mark =>
      have h1 : Quiet (Awake s) v (countFree s.line.reception.isSome v) := .plain rfl
      exact h1.then (takeMark_path ..)
    case depart => exact takeDepart_path _
    case seatOffer =>
      dsimp only
      split
      · next ha => exact acceptOffer_path _ _ ha
      · exact .quiet (.refl _ _)
    case seatClaim =>
      dsimp only
      split
      · next hn =>
        have h1 (m : Nat) : Quiet (Awake s) v (hearClaim m v) := .plain rfl
        exact (h1 _).then (takeClaim_path _ _ _ _ hn.1 hn.2)
      · exact .quiet (.refl _ _)
    all_goals exact absurd rfl hc
  all_goals exact absurd rfl hc

/-- With the judgements after it an effect is still a path. -/
theorem Effect.settledPath {c : Instr} (h : Effect c s u) (hp : s.power = .running) (hr : restarts c s = false) :
    Path (returnsFrame c) (Awake s) s (settle u) := by
  have hu := h.path hp hr
  refine hu.settled (settle_quiet ?_)
  by_cases hL : Awake s
  · exact .inl hL
  · have hk : LoadingOk u := hu.loadingOk (.inl hL) (by by_contra hne; exact hL (.inr hne))
    rcases Bool.eq_false_or_eq_true u.loaded with hl | hl
    · exact .inr (.inl hl)
    · exact .inr (.inr (hk.channels (by simpa [State.loaded] using hl)))

end Sys2Proof.Machine
end

section
/-! SUPPORT. What one step of the machine can do: a path of quiet changes and moves, a start, a stop, or a millisecond of own time. -/

namespace Sys2Proof.Machine

variable {R L : Prop} {s t u : State}

/-- The blocks that body runs and lit channels are judged by. -/
def State.outputs (s : State) : SeatCtl × BodyUnit × LampUnit × SensorUnit × RearEnd × Profile :=
  (s.seat, s.body, s.lamps, s.sensor, s.rear, s.loader.profile)

/-- The station stops: its outputs go dark, and with the supply the retention record is lost. -/
inductive Halts (s : State) : State → Prop where
  | stop (p : List Instr) (n : Nat) (hp : s.power = .running) :
      Halts s { stopStation s with pending := p, freeCount := n }
  | lose (p : List Instr) (n : Nat) : Halts s { loseSupply s with pending := p, freeCount := n }
  | both (p : List Instr) (n : Nat) : Halts s { loseSupply (stopStation s) with pending := p, freeCount := n }

/-- The state after a start, with the commands that wait. -/
def State.begun (k : StartKind) (r : Retention) (n : Nat) (p : List Instr) : State :=
  { State.atStart k r with pending := p, freeCount := n }

/-- What a command does to the state it is put to. -/
inductive Ran (c : Instr) (s : State) : State → Prop where
  | path {R : Prop} {t : State} (h : Path R (Awake s) s t) (hp : s.power ≠ .lost ∨ t.power = .lost)
      (hk : ProgressOk s → ProgressOk t) (ho : Settled t ∨ t.outputs = s.outputs) : Ran c s t
  | start (k : StartKind) (r : Retention) (n : Nat) (p : List Instr) (hr : r.channels = s.retention.channels)
      (hc : restarts c s = true) : Ran c s (State.begun k r n p)
  | halt {t : State} (h : Halts s t) : Ran c s t

/-- A change that moves nothing and leaves what the outputs are judged by. -/
theorem Ran.of_quiet {c : Instr} (h : Quiet (Awake s) s t) (ho : t.outputs = s.outputs) : Ran c s t := by
  refine .path (R := False) (.quiet h) ?_ h.progressOk (.inr ho)
  rw [h.framed.power]
  exact (em _).symm

theorem startUp_ran {c : Instr} (k : StartKind) (hc : restarts c s = true) : Ran c s (startUp k s) :=
  .start k s.retention _ _ rfl hc

/-- RESTART taken from the slot is a start: the judgements after it change nothing. -/
theorem commandedStart_ran {c : Instr} (hc : restarts c s = true) : Ran c s (settle (commandedStart (emptySlot s))) := by
  have h : settle (commandedStart (emptySlot s)) = commandedStart (emptySlot s) :=
    settle_of_settled (startUp_settled ..)
  rw [h]
  exact .start .commanded { s.retention with valid := false } _ _ rfl hc

/-- After every effect but a start what is under way fits the stage. -/
theorem Effect.progressOk {c : Instr} (h : Effect c s t) (hp : s.power = .running) (hr : restarts c s = false)
    (k : ProgressOk s) : ProgressOk t := by
  by_cases hc : returnsFrame c
  · cases h with
    | loseArbitration => exact lapse_progressOk (R := True) (L := True) (goOnReceiving_path trivial) k
    | driveFault => exact lapse_progressOk (R := True) (L := True) (faulted_path trivial) k
    | lineStuck => exact lapse_progressOk (R := True) (L := True) (stuckLine_path trivial) k
    | received _ h => cases h <;> cases hc
    | _ => cases hc
  · exact (h.path hp hr).progressOk hc k

/-- The judgements leave what is under way. -/
theorem settle_progressOk (k : ProgressOk t) : ProgressOk (settle t) :=
  (settle_quiet (L := True) (.inl trivial)).progressOk k

theorem Effect.ran {c : Instr} (h : Effect c s t) (hp : s.power = .running) : Ran c s (settle t) := by
  by_cases hr : restarts c s = false
  · exact .path (h.settledPath hp hr) (.inl (by simp [hp])) (fun k => settle_progressOk (h.progressOk hp hr k))
      (.inl (settle_settled t))
  · cases h with
    | slotTake h =>
      have hq : s.port.slot = some .restart := by simpa [restarts, hp] using hr
      rw [h] at hq
      injection hq with hq
      subst hq
      exact commandedStart_ran (by simpa using hr)
    | received _ h => cases h <;> exact absurd rfl hr
    | _ => exact absurd rfl hr

/-- The bits read so far are counted. -/
theorem readSoFar_quiet (b : List Bool) (h : s.readingOn b = true) : Quiet L s (readSoFar b s) := by
  have hk := s.line.readOther_heard b
  refine HeardLine.quiet ⟨hk.queue, hk.followOn, hk.nextId, ?_, fun k => { hk.fine k with }, hk.mute⟩
  unfold State.readingOn at h
  unfold LineUnit.sending
  cases hr : s.line.reception with
  | none => simp [hr] at h
  | some r => simp

theorem exec_ran {c : Instr} (he : exec c s = .next t) : Ran c s t := by
  cases exec_answers he with
  | same => exact .of_quiet (.refl _ _) rfl
  | judged hp h => exact h.ran hp
  | unjudged h =>
    cases h with
    | startUp k hp => exact startUp_ran k (by simpa [restarts] using hp)
    | stopStation hp => exact .halt (.stop s.pending s.freeCount hp)
    | supplyLost => exact .halt (.both s.pending s.freeCount)
    | stoppedLost => exact .halt (.lose s.pending s.freeCount)
    | readAttempt =>
      refine .of_quiet (.plain ?_) ?_ <;> unfold readAttempt failedAttempt <;> dsimp only <;> (repeat' split) <;> rfl
    | discarded h =>
      refine .of_quiet (Quiet.trans ?_ countMalformed_quiet) rfl
      exact ((s.line.readOther_heard _).trans (LineUnit.dropHeard_heard _)).quiet
    | readSoFar h => exact .of_quiet (readSoFar_quiet _ h) rfl
    | port _ _ h => exact .of_quiet (.plain (congrArg State.tracked h :)) (congrArg State.outputs h :)

/-- What a command does does not depend on the queue of commands and the uses of the free values. -/
theorem Ran.of_requeued {c : Instr} {p : List Instr} {n : Nat} (h : Ran c { s with pending := p, freeCount := n } t) :
    Ran c s t := by
  cases h with
  | path h hp hk ho =>
    have hv : Quiet (Awake s) s { s with pending := p, freeCount := n } := .plain rfl
    have ha : Awake { s with pending := p, freeCount := n } = Awake s :=
      propext (or_congr Iff.rfl (not_congr ⟨fun k => k.congr rfl rfl (.inl rfl) rfl rfl, fun k => k.congr rfl rfl (.inl rfl) rfl rfl⟩))
    rw [ha] at h
    exact .path (hv.then h) hp (fun k => hk (hv.progressOk k)) ho
  | start k r m q hr hc => exact .start k r m q hr hc
  | halt h =>
    cases h with
    | stop q m hp => exact .halt (.stop q m hp)
    | lose q m => exact .halt (.lose q m)
    | both q m => exact .halt (.both q m)

/-- One step takes a command, or lets a millisecond pass with nothing due. -/
theorem step_ran (h : step s = .next t) :
    (∃ c, s.taken = some c ∧ Ran c s t) ∨ (due s = none ∧ s.pulseDue = false ∧ t = tick s) := by
  unfold step at h
  cases hp : s.pending with
  | cons c r =>
    simp only [hp] at h
    exact .inl ⟨c, by simp [State.taken, hp], (exec_ran h).of_requeued⟩
  | nil =>
    simp only [hp, idle] at h
    cases hd : due s with
    | some c =>
      simp only [hd] at h
      exact .inl ⟨c, by simp [State.taken, hp, hd], exec_ran h⟩
    | none =>
      simp only [hd] at h
      split at h
      · next hq => exact .inl ⟨_, by simp [State.taken, hp, hd, hq], (exec_ran h).of_requeued⟩
      · next hq =>
        injection h with h
        exact .inr ⟨rfl, by simpa using hq, h.symm⟩

/-- What holds after a step: what paths, starts, stops and a millisecond with nothing due bring about. -/
theorem step_elim {P : Prop} (h : step s = .next t)
    (hpath : ∀ R : Prop, Path R (Awake s) s t → s.power ≠ .lost ∨ t.power = .lost → (ProgressOk s → ProgressOk t) →
      Settled t ∨ t.outputs = s.outputs → P)
    (hstart : ∀ k r n p, (∃ c, s.taken = some c ∧ restarts c s = true) → r.channels = s.retention.channels →
      t = State.begun k r n p → P)
    (hhalt : Halts s t → P) (htick : due s = none → s.pulseDue = false → t = tick s → P) : P := by
  rcases step_ran h with ⟨c, hc, hr⟩ | ⟨hd, hq, ht⟩
  · cases hr with
    | path h hp hk ho => exact hpath _ h hp hk ho
    | start k r n p hr hs => exact hstart k r n p ⟨c, hc, hs⟩ hr rfl
    | halt h => exact hhalt h
  · exact htick hd hq ht

end Sys2Proof.Machine
end

section
/-! SUPPORT. What a start, a stop and a millisecond of own time keep. -/

namespace Sys2Proof.Machine

variable {s t : State}

/-! ### A millisecond of own time -/

/-- A stopped station counts no time. -/
theorem tick_cases (s : State) : tick s = s ∨ (tick s = tickAll s ∧ s.power = .running) := by
  unfold tick
  split
  · next h => exact .inr ⟨rfl, h⟩
  · exact .inl rfl

/-- What a running station keeps in a millisecond, any station does. -/
theorem tick_keeps {P : State → Prop} (h : s.power = .running → P s → P (tickAll s)) (k : P s) : P (tick s) := by
  rcases tick_cases s with ht | ⟨ht, hp⟩ <;> rw [ht]
  · exact k
  · exact h hp k

theorem Table.wf_map_snd {α : Type} (f : α → α) (l : Table α) :
    Table.wf (l.map fun e => (e.1, f e.2)) = Table.wf l := by
  induction l using Table.wf.induct with
  | case1 => rfl
  | case2 e => rfl
  | case3 e g r ih => simp only [List.map_cons, Table.wf] at ih ⊢; rw [ih]

theorem LineUnit.tick_heard (l : LineUnit) : HeardLine l l.tick := by
  have hr (m : LineUnit) (b : List Bool) : HeardLine m (m.read b) := by
    obtain ⟨hq, hf, hn, hr, -, -, -, hd, hm⟩ := m.read_fields b
    exact ⟨hq, hf, hn, by simp only [LineUnit.sending, hr], fun h => h.read _, by simp only [MuteOk, hd, hm]; exact id⟩
  have h0 : HeardLine l { l with disable := l.disable.tick } := ⟨rfl, rfl, rfl, rfl, fun k => { k with }, id⟩
  unfold LineUnit.tick
  extract_lets m
  refine h0.trans ?_
  split
  · have h := hr m (List.replicate m.cutOff false)
    exact ⟨h.queue, h.followOn, h.nextId, h.sending, fun k => { h.fine k with cutOff := Nat.zero_le _ }, h.mute⟩
  · split
    · next r hr' =>
      split
      · exact ⟨rfl, rfl, rfl, rfl, id, id⟩
      · next hs =>
        have h := hr m (r.rest.take Config.bitsPerMs)
        refine ⟨h.queue, h.followOn, h.nextId, ?_, fun k => { h.fine k with }, h.mute⟩
        rw [show l.reception = some r from hr']
        rfl
    · split
      · exact hr m _
      · exact ⟨rfl, rfl, rfl, rfl, id, id⟩

theorem tick_queueOk : QueueOk s → QueueOk (tick s) :=
  tick_keeps fun _ k =>
    have h := s.line.tick_heard
    k.congr h.queue h.nextId h.sending

theorem tick_silenceOk : SilenceOk s → SilenceOk (tick s) :=
  tick_keeps fun _ k =>
    have h := s.line.tick_heard
    k.congr rfl h.queue h.followOn

theorem tick_lineOk : LineOk s → LineOk (tick s) :=
  tick_keeps fun _ k =>
    have h := s.line.tick_heard
    lineOk_iff.mpr ⟨h.fine (lineOk_iff.mp k).1, h.mute (lineOk_iff.mp k).2⟩

theorem tick_progressOk : ProgressOk s → ProgressOk (tick s) :=
  tick_keeps fun _ k =>
    { claim := k.claim
      held := k.held
      window := fun h => k.window (by rw [← Timer.tick_isRunning]; exact h)
      initial := k.initial
      check := fun h => k.check fun hn => h (by simp [tickAll, hn]) }

theorem tick_seatsOk : SeatsOk s → SeatsOk (tick s) := tick_keeps fun _ k => k.congr rfl rfl rfl rfl

theorem tick_tablesOk : TablesOk s → TablesOk (tick s) :=
  tick_keeps fun _ k =>
    ⟨k.roster, k.reasm, (Table.wf_map_snd (fun e : DemandEntry => { e with age := min (e.age + 1) Config.demandAgeMs }) _).trans k.demand,
      (Table.wf_map_snd (fun e : MotionEntry => { e with age := min (e.age + 1) Config.motionAgeMs }) _).trans k.motion⟩

theorem tick_ownEntryOk : OwnEntryOk s → OwnEntryOk (tick s) := tick_keeps fun _ k => k.congr id rfl rfl rfl

theorem tick_ownSummaryOk : OwnSummaryOk s → OwnSummaryOk (tick s) := tick_keeps fun _ k => k.congr id rfl rfl rfl rfl

theorem tick_loadingOk : LoadingOk s → LoadingOk (tick s) :=
  tick_keeps fun _ k =>
    { marker := k.marker
      rejoin := k.rejoin
      headListen := fun h => (congrArg Timer.tick (k.headListen h) :)
      channels := fun h c hc => by
        obtain ⟨b, hb, rfl⟩ := List.mem_map.mp hc
        rw [k.channels h b hb]
        rfl }

theorem tick_frontLinkOk : FrontLinkOk s → FrontLinkOk (tick s) := tick_keeps fun _ k => k.congr id rfl

theorem tick_faultsOk : FaultsOk s → FaultsOk (tick s) := tick_keeps fun _ k => k.of_list (Nat.le_succ _) (List.Sublist.refl _)

theorem tick_faults : (tick s).faults = s.faults := by rcases tick_cases s with h | ⟨h, -⟩ <;> rw [h]; rfl

theorem tick_channelsOk : ChannelsOk s → ChannelsOk (tick s) :=
  tick_keeps fun _ k =>
    { channels := fun c hc => by
        obtain ⟨b, hb, rfl⟩ := List.mem_map.mp hc
        exact k.channels b hb
      retained := k.retained }

theorem nth_map {α β : Type} (f : α → β) (l : List α) (n : Nat) : nth (l.map f) n = (nth l n).map f := by
  cases n with
  | zero => rfl
  | succ n => exact List.getElem?_map

theorem tick_bodiesOk : BodiesOk s → BodiesOk (tick s) := by
  refine tick_keeps fun _ k n hn h => k n hn ?_
  simp only [State.bodyChannel, tickAll, BodyUnit.tick, nth_map] at h ⊢
  cases hc : nth s.body.channels n with
  | none => simp [hc, BodyChannel.reset] at h
  | some c => simpa [hc] using h

/-- With nothing due a check's pulse has not lasted its 20 ms, nor its turn its 50 ms. -/
theorem tick_checkOk (hd : due s = none) (hq : s.pulseDue = false) (w : ProgressOk s) : CheckOk s → CheckOk (tick s) := by
  refine tick_keeps fun hp k => ?_
  intro c hc
  obtain ⟨b, hb, rfl⟩ := Option.map_eq_some_iff.mp hc
  obtain ⟨hne, ha, h20, h50⟩ := k b hb
  have hg : s.seat.stage = .checking := w.check (by simp [hb])
  have hturn : s.turnDue = false := by
    simp only [due, hp, if_true, List.head?_eq_none_iff, List.append_eq_nil_iff, dueLamps, dueIf] at hd
    obtain ⟨⟨⟨-, ⟨⟨ht, -⟩, -⟩⟩, -⟩, -⟩ := hd
    simpa using ht
  have h20' (hpulse : b.pulse = true) : b.turn < 20 := by
    obtain ⟨n, r, htodo⟩ := List.exists_cons_of_ne_nil hne
    simp [State.pulseDue, hp, State.pulsedChannel, hb, hpulse, hg, htodo, State.turnLasted, Config.checkPulseMs] at hq
    exact Nat.lt_of_not_le (of_decide_eq_false hq)
  refine ⟨hne, ha, h20', ?_⟩
  rcases Bool.eq_false_or_eq_true b.pulse with hpulse | hpulse
  · exact Nat.le_of_lt (Nat.lt_of_lt_of_le (Nat.succ_lt_succ (h20' hpulse)) (by decide))
  · simp [State.turnDue, State.turnOver, hg, hb, hpulse, State.turnLasted, Config.checkTurnMs] at hturn
    exact Nat.lt_of_not_le (of_decide_eq_false hturn)

/-- Lit channels are no more, and what allows them is as before. -/
theorem tick_lampGateOk : LampGateOk s → LampGateOk (tick s) := by
  refine tick_keeps fun _ k e he => ?_
  have hz : (tickAll s).loader.profile.lamps.zip (tickAll s).lamps.channels =
      (s.loader.profile.lamps.zip s.lamps.channels).map (Prod.map id Channel.tick) := List.zip_map_right ..
  rw [hz] at he
  obtain ⟨b, hb, rfl⟩ := List.mem_map.mp he
  exact k b hb

theorem tick_retainedOk : RetainedOk s → RetainedOk (tick s) := by
  refine tick_keeps fun _ k => ⟨k.valid, k.identity, k.seat, fun hp hl n c hc hf => ?_⟩
  obtain ⟨b, hb, rfl⟩ := Option.map_eq_some_iff.mp ((nth_map _ _ _).symm.trans hc)
  exact k.channels hp hl n b hb hf

/-! ### A stop -/

/-- What a stop leaves of the blocks that hold the queue, the seat and the lists. -/
theorem Halts.blocks (h : Halts s t) :
    t.line = s.line ∧ t.seat = s.seat ∧ t.roster = s.roster ∧ t.demand = s.demand ∧ t.sensor = s.sensor ∧
      t.faults = s.faults ∧ t.loader = s.loader ∧ t.now = s.now ∧ t.rear = s.rear ∧ t.lamps.check = s.lamps.check := by
  cases h <;> exact ⟨rfl, rfl, rfl, rfl, rfl, rfl, rfl, rfl, rfl, rfl⟩

/-- A channel as a stop leaves it. -/
def Channel.dark (c : Channel) : Channel := { c with lit := false, steady := none }

/-- A stop leaves the channels as they are, or dark. -/
theorem Halts.channels (h : Halts s t) :
    t.lamps.channels = s.lamps.channels ∨ t.lamps.channels = s.lamps.channels.map Channel.dark := by
  cases h with
  | lose => exact .inl rfl
  | stop | both => exact .inr rfl

/-- A stop leaves the retention record, or loses it with the supply. -/
theorem Halts.retention (h : Halts s t) :
    (s.power ≠ .lost ∧ t.retention = s.retention) ∨ (t.power = .lost ∧ t.retention = .lost) := by
  cases h with
  | stop _ _ hp => exact .inl ⟨by simp [hp], rfl⟩
  | lose | both => exact .inr ⟨rfl, rfl⟩

theorem Halts.queueOk (h : Halts s t) (k : QueueOk s) : QueueOk t := by
  obtain ⟨hl, -⟩ := h.blocks
  exact k.congr (by rw [hl]) (by rw [hl]) (by rw [hl])

theorem Halts.silenceOk (h : Halts s t) (k : SilenceOk s) : SilenceOk t := by
  obtain ⟨hl, hs, -⟩ := h.blocks
  exact k.congr (by rw [hs]) (by rw [hl]) (by rw [hl])

theorem Halts.lineOk (h : Halts s t) (k : LineOk s) : LineOk t := by
  obtain ⟨hl, -⟩ := h.blocks
  rw [lineOk_iff, hl, ← lineOk_iff]
  exact k

theorem Halts.progressOk (h : Halts s t) (k : ProgressOk s) : ProgressOk t := by
  obtain ⟨-, hs, hr, -, -, -, -, -, -, hc⟩ := h.blocks
  exact ⟨by rw [hs]; exact k.claim, by rw [hs]; exact k.held, by rw [hs]; exact k.window,
    by rw [hs, hr]; exact k.initial, by rw [hs, hc]; exact k.check⟩

theorem Halts.seatsOk (h : Halts s t) (k : SeatsOk s) : SeatsOk t := by
  obtain ⟨-, hs, -⟩ := h.blocks
  exact k.congr (by rw [hs]) (by rw [hs]) (by rw [hs]) (by rw [hs])

theorem Halts.tablesOk (h : Halts s t) (k : TablesOk s) : TablesOk t := by
  obtain ⟨-, -, hr, hd, hm, -⟩ := h.blocks
  exact k.congr (by rw [hr]; exact id) (by rw [hr]) (by rw [hd]) (by rw [hm])

theorem Halts.ownEntryOk (h : Halts s t) (k : OwnEntryOk s) : OwnEntryOk t := by
  obtain ⟨-, hs, hr, -, -, -, hl, -⟩ := h.blocks
  exact k.congr (by rw [State.seated, hs]; exact id) (by rw [hr]) (by rw [hs]) (by rw [hl])

theorem Halts.ownSummaryOk (h : Halts s t) (k : OwnSummaryOk s) : OwnSummaryOk t := by
  obtain ⟨-, hs, hr, -, -, hf, hl, -⟩ := h.blocks
  exact k.congr (by rw [State.seated, hs]; exact id) (by rw [hr]) (by rw [hs]) (by rw [hl]) (by rw [hf])

theorem Channel.dark_reset : Channel.reset.dark = Channel.reset := rfl

theorem Halts.loadingOk (h : Halts s t) (k : LoadingOk s) : LoadingOk t := by
  obtain ⟨-, hs, -⟩ := h.blocks
  refine ⟨by rw [hs]; exact k.marker, by rw [hs]; exact k.rejoin, by rw [hs]; exact k.headListen, fun hg c hc => ?_⟩
  rw [hs] at hg
  rcases h.channels with hl | hl <;> rw [hl] at hc
  · exact k.channels hg c hc
  · obtain ⟨b, hb, rfl⟩ := List.mem_map.mp hc
    rw [k.channels hg b hb, Channel.dark_reset]

theorem Halts.frontLinkOk (h : Halts s t) (k : FrontLinkOk s) : FrontLinkOk t := by
  obtain ⟨-, hs, -, -, -, hf, -⟩ := h.blocks
  exact k.congr (by rw [State.seated, hs]; exact id) (by rw [hf])

theorem Halts.faultsOk (h : Halts s t) (k : FaultsOk s) : FaultsOk t := by
  obtain ⟨-, -, -, -, -, hf, -, hn, -⟩ := h.blocks
  exact k.of_list hn.ge (by rw [hf])

theorem Halts.channelsOk (h : Halts s t) (k : ChannelsOk s) : ChannelsOk t := by
  constructor
  · intro c hc
    rcases h.channels with hl | hl <;> rw [hl] at hc
    · exact k.channels c hc
    · obtain ⟨b, hb, rfl⟩ := List.mem_map.mp hc
      exact ⟨fun hk => ⟨rfl, ((k.channels b hb).1 hk).2⟩, (k.channels b hb).2⟩
  · rcases h.retention with ⟨-, hr⟩ | ⟨-, hr⟩ <;> rw [hr]
    · exact k.retained
    · decide

theorem Halts.bodiesOk (h : Halts s t) (k : BodiesOk s) : BodiesOk t := by
  intro n hn hr
  cases h with
  | lose => exact k n hn hr
  | stop | both =>
    simp only [State.bodyChannel, loseSupply, stopStation, nth_map] at hr
    cases hc : nth s.body.channels n <;> simp [hc, BodyChannel.reset] at hr

theorem Halts.checkOk (h : Halts s t) (k : CheckOk s) : CheckOk t := by
  obtain ⟨-, -, -, -, -, -, hl, -, -, hc⟩ := h.blocks
  exact k.congr hc (by rw [hl])

theorem Halts.lampGateOk (h : Halts s t) (k : LampGateOk s) : LampGateOk t := by
  obtain ⟨-, hs, -, -, hm, -, hl, -, hr, -⟩ := h.blocks
  intro e he hlit
  have ha : t.stageAllows = s.stageAllows := by
    funext f
    simp only [State.stageAllows, State.brakeOn, hs, hm, hl, hr]
  rw [ha]
  rw [hl] at he
  rcases h.channels with hc | hc <;> rw [hc] at he
  · exact k e he hlit
  · rw [List.zip_map_right] at he
    obtain ⟨b, -, rfl⟩ := List.mem_map.mp he
    cases hlit

theorem Halts.retainedOk (h : Halts s t) (k : RetainedOk s) : RetainedOk t := by
  obtain ⟨-, hs, -, -, -, -, hl, -⟩ := h.blocks
  rcases h.retention with ⟨hp, hr⟩ | ⟨hp, -⟩
  · refine ⟨fun _ hg => ?_, fun _ hg => ?_, fun _ hg => ?_, fun _ hg n c hc hf => ?_⟩
    all_goals rw [State.loaded, hs] at hg
    · rw [hr]; exact k.valid hp hg
    · rw [hr, hl]; exact k.identity hp hg
    · rw [hr, State.seated, hs]; exact k.seat hp hg
    · rw [State.functionOf, hl] at hf
      rw [hr]
      rcases h.channels with ht | ht <;> rw [ht] at hc
      · exact k.channels hp hg n c hc hf
      · rw [nth_map] at hc
        obtain ⟨b, hb, rfl⟩ := Option.map_eq_some_iff.mp hc
        exact k.channels hp hg n b hb hf
  · exact ⟨fun h => absurd hp h, fun h => absurd hp h, fun h => absurd hp h, fun h => absurd hp h⟩

/-! ### A start -/

section
variable (k : StartKind) (r : Retention) (n : Nat) (p : List Instr)

theorem begun_queueOk : QueueOk (State.begun k r n p) where
  size := Nat.zero_le _
  order := .nil
  oneInFlight := Nat.zero_le _
  classes := fun _ => Nat.zero_le _
  profile := Nat.zero_le _
  answer := Nat.zero_le _
  onLine := rfl
  distinct := .nil
  fresh := by intro e he; cases he

theorem begun_silenceOk : SilenceOk (State.begun k r n p) where
  unseated := fun _ => ⟨fun _ h => (by cases h), rfl⟩
  loading := fun _ => rfl
  conflict := fun h => (by cases h)

theorem begun_lineOk : LineOk (State.begun k r n p) :=
  ⟨Nat.zero_le _, Nat.zero_le _, Nat.zero_le _, Nat.zero_le _, Nat.zero_le _, Nat.zero_le _, fun h => (by cases h)⟩

theorem begun_progressOk : ProgressOk (State.begun k r n p) where
  claim := fun h => absurd rfl h
  held := fun h => (by cases h)
  window := fun h => (by cases h)
  initial := fun _ h => (by cases h)
  check := fun h => absurd rfl h

theorem begun_seatsOk : SeatsOk (State.begun k r n p) where
  seated := fun h => (by cases h)
  unseated := fun _ => rfl
  claiming := fun h => (by cases h)
  rejoin := fun _ h => (by cases h)

theorem begun_tablesOk : TablesOk (State.begun k r n p) := ⟨rfl, rfl, rfl, rfl⟩

theorem begun_unseated : (State.begun k r n p).seated = false := rfl

theorem begun_loadingOk : LoadingOk (State.begun k r n p) where
  marker := fun _ => rfl
  rejoin := fun _ => rfl
  headListen := fun _ => rfl
  channels := fun _ _ h => List.eq_of_mem_replicate h

theorem begun_faultsOk : FaultsOk (State.begun k r n p) :=
  ⟨Nat.zero_le _, .nil, .nil, fun _ h => (by cases h)⟩

theorem begun_channelsOk (h : ChannelsOk s) (hr : r.channels = s.retention.channels) :
    ChannelsOk (State.begun k r n p) := by
  refine ⟨fun c hc => ?_, fun e he => h.retained e (hr ▸ he)⟩
  rw [show c = Channel.reset from List.eq_of_mem_replicate hc]
  exact ⟨fun h => (by cases h), Nat.zero_le _⟩

theorem begun_bodiesOk : BodiesOk (State.begun k r n p) := by
  intro m hm hr
  have h : ∀ m ∈ bodyNumbers, (State.reset.bodyChannel m).running = false := by decide
  exact absurd ((h m hm).symm.trans hr) (by decide)

theorem begun_lampGateOk : LampGateOk (State.begun k r n p) := by
  intro e he hl
  rw [show e.2 = Channel.reset from List.eq_of_mem_replicate (List.of_mem_zip he).2] at hl
  cases hl

theorem begun_retainedOk : RetainedOk (State.begun k r n p) :=
  ⟨fun _ h => (by cases h), fun _ h => (by cases h), fun _ h => (by cases h), fun _ h => (by cases h)⟩
end

end Sys2Proof.Machine
end

section
/-! SUPPORT. What every step keeps (O53, O54, O56, O57). -/

namespace Sys2Proof.Machine

variable {s t : State}

/-! ### The queue and the line -/

theorem step_queueOk (h : step s = .next t) (k : QueueOk s) : QueueOk t := by
  refine step_elim h (fun _ h _ _ _ => h.queueOk k) ?_ (fun h => h.queueOk k) ?_
  · rintro _ _ _ _ - - rfl
    exact begun_queueOk ..
  · rintro - - rfl
    exact tick_queueOk k

theorem step_silenceOk (h : step s = .next t) (w : ProgressOk s) (k : SilenceOk s) : SilenceOk t := by
  refine step_elim h (fun _ h _ _ _ => h.silenceOk w.underWay k) ?_ (fun h => h.silenceOk k) ?_
  · rintro _ _ _ _ - - rfl
    exact begun_silenceOk ..
  · rintro - - rfl
    exact tick_silenceOk k

theorem step_lineOk (h : step s = .next t) (k : LineOk s) : LineOk t := by
  refine step_elim h (fun _ h _ _ _ => h.lineOk k) ?_ (fun h => h.lineOk k) ?_
  · rintro _ _ _ _ - - rfl
    exact begun_lineOk ..
  · rintro - - rfl
    exact tick_lineOk k

/-! ### The seat and the roster -/

theorem step_progressOk (h : step s = .next t) (k : ProgressOk s) : ProgressOk t := by
  refine step_elim h (fun _ _ _ hk _ => hk k) ?_ (fun h => h.progressOk k) ?_
  · rintro _ _ _ _ - - rfl
    exact begun_progressOk ..
  · rintro - - rfl
    exact tick_progressOk k

theorem step_seatsOk (h : step s = .next t) (w : ProgressOk s) (k : SeatsOk s) : SeatsOk t := by
  refine step_elim h (fun _ h _ _ _ => h.seatsOk w.underWay k) ?_ (fun h => h.seatsOk k) ?_
  · rintro _ _ _ _ - - rfl
    exact begun_seatsOk ..
  · rintro - - rfl
    exact tick_seatsOk k

theorem step_tablesOk (h : step s = .next t) (w : ProgressOk s) (j : SeatsOk s) (k : TablesOk s) : TablesOk t := by
  refine step_elim h (fun _ h _ _ _ => h.tablesOk w.underWay j k) ?_ (fun h => h.tablesOk k) ?_
  · rintro _ _ _ _ - - rfl
    exact begun_tablesOk ..
  · rintro - - rfl
    exact tick_tablesOk k

theorem step_ownEntryOk (h : step s = .next t) (w : ProgressOk s) (k : OwnEntryOk s) : OwnEntryOk t := by
  refine step_elim h (fun _ h _ _ _ => h.ownEntryOk w.underWay k) ?_ (fun h => h.ownEntryOk k) ?_
  · rintro _ _ _ _ - - rfl hs
    cases hs
  · rintro - - rfl
    exact tick_ownEntryOk k

theorem step_ownSummaryOk (h : step s = .next t) (w : ProgressOk s) (k : OwnSummaryOk s) : OwnSummaryOk t := by
  refine step_elim h (fun _ h _ _ _ => h.ownSummaryOk w.underWay k) ?_ (fun h => h.ownSummaryOk k) ?_
  · rintro _ _ _ _ - - rfl hs
    cases hs
  · rintro - - rfl
    exact tick_ownSummaryOk k

/-- LOADING is past, or channels change in no quiet way, or LOADING is not as it should be. -/
theorem not_awake_or (k : LoadingOk s) : ¬Awake s ∨ s.loaded = true :=
  (em (s.loaded = true)).symm.imp (fun hl ha => ha.elim hl fun h => h k) id

theorem step_loadingOk (h : step s = .next t) (k : LoadingOk s) : LoadingOk t := by
  refine step_elim h (fun _ h _ _ _ => h.loadingOk (not_awake_or k) k) ?_ (fun h => h.loadingOk k) ?_
  · rintro _ _ _ _ - - rfl
    exact begun_loadingOk ..
  · rintro - - rfl
    exact tick_loadingOk k

/-! ### The outputs and the retention record -/

theorem step_channelsOk (h : step s = .next t) (k : ChannelsOk s) : ChannelsOk t := by
  refine step_elim h (fun _ h _ _ _ => h.channelsOk k) ?_ (fun h => h.channelsOk k) ?_
  · rintro _ _ _ _ - hr rfl
    exact begun_channelsOk _ _ _ _ k hr
  · rintro - - rfl
    exact tick_channelsOk k

theorem Settled.bodiesOk (h : Settled t) : BodiesOk t := fun n hn hr =>
  have hk := h.runs n hn hr
  ⟨hk.1, hk.2.1⟩

theorem BodiesOk.of_outputs (k : BodiesOk s) (h : t.outputs = s.outputs) : BodiesOk t := by
  simp only [State.outputs, Prod.mk.injEq] at h
  obtain ⟨hs, hb, -, hm, -, hp⟩ := h
  intro n hn hr
  simp only [State.joined, State.bodyChannel, State.bodyCfg, hs, hb, hm, hp] at hr ⊢
  exact k n hn hr

theorem step_bodiesOk (h : step s = .next t) (k : BodiesOk s) : BodiesOk t := by
  refine step_elim h (fun _ _ _ _ ho => ho.elim Settled.bodiesOk k.of_outputs) ?_ (fun h => h.bodiesOk k) ?_
  · rintro _ _ _ _ - - rfl
    exact begun_bodiesOk _ _ _ _
  · rintro - - rfl
    exact tick_bodiesOk k

theorem step_checkOk (h : step s = .next t) (w : ProgressOk s) (k : CheckOk s) : CheckOk t := by
  refine step_elim h (fun _ h _ _ _ => h.checkOk w.underWay k) ?_ (fun h => h.checkOk k) ?_
  · rintro _ _ _ _ - - rfl
    exact checkOk_of_none rfl
  · rintro hd hq rfl
    exact tick_checkOk hd hq w k

theorem stageAllows_of_fallback {f : LampFn} (h : t.fallbackCalls f = true) :
    (f != .unassigned) = true ∧ (f == .tail || f == .marker || (f == .stop && t.brakeOn)) = true := by
  rcases (fallbackCalls_iff t f).mp h with rfl | rfl | ⟨rfl, hb⟩
  · exact ⟨rfl, rfl⟩
  · exact ⟨rfl, rfl⟩
  · simp [hb]

theorem stageAllows_of_steady {f : LampFn} (h : t.steadyCalls f = true) :
    (f != .unassigned) = true ∧ f.isFlash = false ∧ (!f.isRear || t.rear.status.lighting) = true := by
  unfold State.steadyCalls at h
  cases f <;> simp_all [LampFn.isFlash, LampFn.isRear, DemandSet.asks]

theorem stageAllows_of_flash {f : LampFn} (h : t.flashCalls f = true) :
    (f != .unassigned) = true ∧ f.isRear = false := by
  unfold State.flashCalls at h
  cases f <;> simp_all [LampFn.isRear]

/-- What is called for is allowed by the stage: in CHECKING, for the channels a check tests are assigned. -/
theorem stageAllows_of_calledFor (k : CheckOk t) (n : Nat) (h : t.calledFor n = true) :
    t.stageAllows (t.functionOf n) = true := by
  cases hg : t.seat.stage
  case loading | listen => simp [State.calledFor, hg] at h
  case standalone | conflict =>
    simp only [State.calledFor, hg] at h
    simp only [State.stageAllows, hg, stageAllows_of_fallback h, Bool.and_self]
  case claiming | profiling =>
    simp only [State.calledFor, hg, Bool.and_eq_true] at h
    simp only [State.stageAllows, hg, stageAllows_of_fallback h.2, h.1, Bool.and_self]
  case checking =>
    simp only [State.calledFor, hg] at h
    obtain ⟨c, hc, -, hn⟩ := (pulsed_iff t n).mp h
    have ha := (k c hc).2.1 n (List.mem_of_head? hn)
    simpa [State.stageAllows, hg, State.assigned] using ha
  case sync =>
    simp only [State.calledFor, hg] at h
    obtain ⟨hu, hf, hr⟩ := stageAllows_of_steady h
    simp only [State.stageAllows, hg, hu, hf, hr, Bool.not_false, Bool.and_self]
  case joined =>
    simp only [State.calledFor, hg, Bool.or_eq_true] at h
    rcases h with h | h
    · obtain ⟨hu, -, hr⟩ := stageAllows_of_steady h
      simp only [State.stageAllows, hg, hu, hr, Bool.and_self]
    · obtain ⟨hu, hr⟩ := stageAllows_of_flash h
      simp [State.stageAllows, hg, hu, hr]

theorem Settled.lampGateOk (h : Settled t) (k : CheckOk t) : LampGateOk t := by
  intro e he hlit
  obtain ⟨i, hi⟩ := List.mem_iff_getElem?.mp he
  obtain ⟨hp, hc⟩ := List.getElem?_zip_eq_some.mp hi
  have hcall := ((h.lit (i + 1) e.2 hc).mp hlit).1
  have hf : t.functionOf (i + 1) = e.1.function := by
    simp [State.functionOf, nth, hp]
  exact hf ▸ stageAllows_of_calledFor k _ hcall

theorem LampGateOk.of_outputs (k : LampGateOk s) (h : t.outputs = s.outputs) : LampGateOk t := by
  simp only [State.outputs, Prod.mk.injEq] at h
  obtain ⟨hs, -, hl, hm, hr, hp⟩ := h
  intro e he hlit
  rw [hl, hp] at he
  have hk := k e he hlit
  simpa only [State.stageAllows, State.brakeOn, hs, hm, hr, hp] using hk

theorem step_lampGateOk (h : step s = .next t) (w : ProgressOk s) (j : CheckOk s) (k : LampGateOk s) : LampGateOk t := by
  have hj := step_checkOk h w j
  refine step_elim h (fun _ _ _ _ ho => ho.elim (fun h => h.lampGateOk hj) k.of_outputs) ?_ (fun h => h.lampGateOk k) ?_
  · rintro _ _ _ _ - - rfl
    exact begun_lampGateOk _ _ _ _
  · rintro - - rfl
    exact tick_lampGateOk k

/-- With the supply lost the record holds nothing. -/
theorem retainedOk_of_lost (h : t.power = .lost) : RetainedOk t :=
  ⟨fun hp => absurd h hp, fun hp => absurd h hp, fun hp => absurd h hp, fun hp => absurd h hp⟩

theorem step_retainedOk (h : step s = .next t) (w : ProgressOk s) (j : LoadingOk s) (k : RetainedOk s) : RetainedOk t := by
  refine step_elim h (fun _ h hp _ _ => ?_) ?_ (fun h => h.retainedOk k) ?_
  · rcases hp with hp | hp
    · have hr := h.retained (not_awake_or j) w.underWay j ((retainedOk_iff hp).mp k)
      exact ⟨fun _ hl => (hr hl).1.valid, fun _ hl => (hr hl).1.identity, fun _ hl => (hr hl).2,
        fun _ hl => (hr hl).1.channels⟩
    · exact retainedOk_of_lost hp
  · rintro _ _ _ _ - - rfl
    exact begun_retainedOk ..
  · rintro - - rfl
    exact tick_retainedOk k

/-! ### The fault list -/

theorem step_faultsOk (h : step s = .next t) (k : FaultsOk s) : FaultsOk t := by
  refine step_elim h (fun _ h _ _ _ => h.faultsOk k) ?_ (fun h => h.faultsOk k) ?_
  · rintro _ _ _ _ - - rfl
    exact begun_faultsOk ..
  · rintro - - rfl
    exact tick_faultsOk k

theorem step_frontLinkOk (h : step s = .next t) (w : ProgressOk s) (k : FrontLinkOk s) : FrontLinkOk t := by
  refine step_elim h (fun _ h _ _ _ => h.frontLinkOk w.underWay k) ?_ (fun h => h.frontLinkOk k) ?_
  · rintro _ _ _ _ - - rfl _
    rfl
  · rintro - - rfl
    exact tick_frontLinkOk k

theorem step_latched (h : step s = .next t) (hr : ∀ c, s.taken = some c → restarts c s = false) (e : FaultEntry)
    (he : e ∈ s.faults.list) (hl : e.code.latched = true) : e ∈ t.faults.list := by
  refine step_elim h (fun _ h _ _ _ => h.latched e hl he) ?_ (fun h => ?_) ?_
  · rintro _ _ _ _ ⟨c, hc, hs⟩ - -
    rw [hr c hc] at hs
    cases hs
  · obtain ⟨-, -, -, -, -, hf, -⟩ := h.blocks
    rw [hf]
    exact he
  · rintro - - rfl
    rw [tick_faults]
    exact he

end Sys2Proof.Machine

open Sys2Proof Sys2Proof.Machine

/-- Settles O53: every change of the queue and the line on a path of changes keeps their form, as starts, stops and ticks do. -/
theorem queueKept : Obligations.QueueKept := fun _ _ h =>
  ⟨step_queueOk h, step_silenceOk h, step_lineOk h⟩

/-- Settles O54, by the path of changes that a step is. -/
theorem rosterKept : Obligations.RosterKept := fun _ _ h =>
  ⟨fun w k => ⟨step_progressOk h w, step_seatsOk h w k, step_tablesOk h w k, step_ownEntryOk h w,
    fun _ => step_ownSummaryOk h w⟩, step_loadingOk h⟩

/-- Settles O56: a judged state is in agreement, and a change that is not judged leaves the outputs and what they follow from. -/
theorem outputsKept : Obligations.OutputsKept := fun _ _ h =>
  ⟨step_channelsOk h, step_bodiesOk h, fun w k => ⟨step_checkOk h w k, step_lampGateOk h w k⟩, step_retainedOk h⟩

/-- Settles O57: on a path faults that are not latched leave the list, and a start alone empties it. -/
theorem faultListKept : Obligations.FaultListKept := fun _ _ h =>
  ⟨step_faultsOk h, step_frontLinkOk h, step_latched h⟩

end

section
/-! SUPPORT. The stage that each stage change leads to, and O58: no command moves the station otherwise. -/

namespace Sys2Proof.Machine

variable {s t u : State}

theorem Quiet.stage (h : Quiet True s t) : t.seat.stage = s.seat.stage := h.framed.stage

@[simp] theorem queueClaim_stage (n : Nat) (b : Bool) (s : State) : (queueClaim n b s).seat.stage = .claiming := by
  simp [queueClaim]

@[simp] theorem seatUnavailable_stage (s : State) : (seatUnavailable s).seat.stage = .standalone := by
  simp [seatUnavailable, enterStandalone, retainSeat]

@[simp] theorem enterConflict_stage (n : Nat) (s : State) : (enterConflict n s).seat.stage = .conflict := by
  simp only [enterConflict, raiseFault_keeps]
  rfl

@[simp] theorem enterSync_stage (s : State) : (enterSync s).seat.stage = .sync :=
  (Quiet.trans beginDemand_quiet
    (queueCounts_quiet.trans (queueAnalog_quiet.trans (queueListedFaults_quiet.trans judgeFull_quiet)))).stage

@[simp] theorem checkDone_stage (s : State) : (checkDone s).seat.stage = .sync := enterSync_stage _

theorem finishCheck_stage (s : State) :
    (finishCheck s).seat.stage = s.seat.stage ∨ (finishCheck s).seat.stage = .sync := by
  unfold finishCheck
  split
  · exact .inl rfl
  · split
    · exact .inr (checkDone_stage s)
    · exact .inl rfl

theorem beginCheck_stage (s : State) : (beginCheck s).seat.stage = s.seat.stage := by
  have hp := foldl_prepareChannel_quiet (L := True) (s := s) s.underTest (.inl trivial)
  exact (hp.trans (darkenAll_quiet (.inl trivial))).stage

theorem enterChecking_stage (s : State) :
    (enterChecking s).seat.stage = .checking ∨ (enterChecking s).seat.stage = .sync := by
  rcases finishCheck_stage (beginCheck (startChecking s)) with h | h
  · exact .inl (h.trans (beginCheck_stage _))
  · exact .inr h

theorem profilingEnd_stage (s : State) :
    (profilingEnd s).seat.stage = .checking ∨ (profilingEnd s).seat.stage = .sync := by
  simp only [profilingEnd]
  split
  · exact .inr (enterSync_stage _)
  · exact enterChecking_stage _

theorem becomeSeated_stage (s : State) :
    (becomeSeated s).seat.stage = .profiling ∨ (becomeSeated s).seat.stage = .checking ∨
      (becomeSeated s).seat.stage = .sync := by
  have hq : (judgeFront (clearFault .seatUnavailable 0 (takeSeat s))).seat.stage = .profiling :=
    ((clearFault_quiet ..).trans judgeFront_quiet : Quiet True (takeSeat s) _).stage
  show (State.seat (if _ then _ else _)).stage = _ ∨ (State.seat (if _ then _ else _)).stage = _ ∨
    (State.seat (if _ then _ else _)).stage = _
  split
  · exact .inr (profilingEnd_stage _)
  · exact .inl ((beginSequence_quiet _ fun _ => .inl hq : Quiet True _ _).stage.trans hq)

@[simp] theorem enterJoined_stage (s : State) : (enterJoined s).seat.stage = .joined :=
  (Quiet.trans (modOwnEntry_quiet (fun e => { e with stage := .joined }) fun _ => rfl)
    (entryDecision_quiet.trans (.trans (.offer _) actOnDue_quiet))).stage (s := startJoined s)

theorem tryWarmClaim_stage (s : State) :
    (tryWarmClaim s).seat.stage = s.seat.stage ∨
      (s.seat.stage = .listen ∧ (tryWarmClaim s).seat.stage = .claiming) := by
  unfold tryWarmClaim
  split
  · exact .inl rfl
  · split
    · next h =>
      simp only [Bool.and_eq_true, beq_iff_eq] at h
      exact .inr ⟨h.1.1.1, queueClaim_stage ..⟩
    · exact .inl rfl

theorem lapseClaim_stage (w : UnderWay s) :
    (lapseClaim s).seat.stage = s.seat.stage ∨
      (s.seat.stage = .claiming ∧ (lapseClaim s).seat.stage = .standalone) := by
  unfold lapseClaim
  split
  · next h =>
    simp only [Bool.and_eq_true, beq_iff_eq] at h
    exact .inr ⟨w.claim (by simp [h.2]), seatUnavailable_stage s⟩
  · exact .inl rfl

theorem returnToPending_stage (s : State) : (returnToPending s).seat.stage = s.seat.stage := by
  rcases returnToPending_seat s with h | ⟨-, h⟩ <;> rw [h]

theorem readRecessive_stage (s : State) : (readRecessive s).seat.stage = s.seat.stage := by
  unfold readRecessive
  split <;> rfl

theorem mutedAnnounce_stage (w : UnderWay s) :
    (mutedAnnounce s).seat.stage = s.seat.stage ∨
      (s.seat.stage = .profiling ∧
        ((mutedAnnounce s).seat.stage = .checking ∨ (mutedAnnounce s).seat.stage = .sync)) := by
  unfold mutedAnnounce
  split
  · exact .inl rfl
  · next a ha =>
    split
    · next hi => exact .inr ⟨w.initial a ha hi, profilingEnd_stage s⟩
    · exact .inl rfl

theorem UnderWay.of_line (k : UnderWay s) (l : LineUnit) : UnderWay { s with line := l } :=
  ⟨k.claim, k.held, k.window, k.initial, k.check⟩

theorem becomeMute_stage (w : UnderWay s) :
    (becomeMute s).seat.stage = s.seat.stage ∨
      (s.seat.stage = .profiling ∧ ((becomeMute s).seat.stage = .checking ∨ (becomeMute s).seat.stage = .sync)) := by
  have hq : Quiet True _ (raiseFault .lineMute 0 3 { s with line := { s.line with mute := true } }) :=
    raiseFault_quiet _ _ _ (by simp)
  have hg : (raiseFault .lineMute 0 3 { s with line := { s.line with mute := true } }).seat.stage = s.seat.stage := hq.stage
  have h := mutedAnnounce_stage (hq.underWay (w.of_line _))
  rw [hg] at h
  exact h

theorem faulted_stage (k : UnderWay s) :
    (faulted s).seat.stage = s.seat.stage ∨
      (s.seat.stage = .profiling ∧ ((faulted s).seat.stage = .checking ∨ (faulted s).seat.stage = .sync)) := by
  have hw : UnderWay (readRecessive (returnToPending s)) := (readRecessive_path (R := True) (L := True) trivial).underWay k
  unfold faulted
  extract_lets v n _ w z
  have hg : z.seat.stage = s.seat.stage := by
    have hv : v.seat.stage = s.seat.stage := (readRecessive_stage _).trans (returnToPending_stage s)
    rw [← hv]
    simp [z, w]
  have hz : UnderWay z := (raiseFault_quiet (L := True) _ _ _ (by simp)).underWay (hw.of_line _)
  split
  · rw [← hg]
    exact becomeMute_stage hz
  · exact .inl hg

theorem stuckLine_stage (s : State) : (stuckLine s).seat.stage = s.seat.stage := by
  unfold stuckLine
  extract_lets b v
  have hv : v.seat.stage = s.seat.stage := by
    refine (returnToPending_stage _).trans ?_
    split <;> rfl
  rw [← hv]
  simp [setLine]

theorem segmentSent_stage (w : UnderWay s) :
    (segmentSent s).seat.stage = s.seat.stage ∨
      (s.seat.stage = .profiling ∧ ((segmentSent s).seat.stage = .checking ∨ (segmentSent s).seat.stage = .sync)) := by
  unfold segmentSent
  split
  · exact .inl rfl
  · next a ha =>
    split
    · exact .inl (beginSequence_quiet _ fun hp => .inr ⟨a, ha, hp⟩ : Quiet True _ _).stage
    · split
      · exact .inl (offerSegment_quiet : Quiet True _ _).stage
      · split
        · next hi => exact .inr ⟨w.initial a ha hi, profilingEnd_stage s⟩
        · exact .inl (by simp [setAnnounce])
        · exact .inl rfl

theorem claimSent_stage (n : Nat) (s : State) : (claimSent n s).seat.stage = s.seat.stage := by
  unfold claimSent
  split <;> rfl

theorem tellSent_stage (x : Entry) (w : UnderWay s) :
    (tellSent x s).seat.stage = s.seat.stage ∨
      (s.seat.stage = .profiling ∧ ((tellSent x s).seat.stage = .checking ∨ (tellSent x s).seat.stage = .sync)) := by
  unfold tellSent
  split
  · exact .inl (claimSent_stage _ _)
  · exact segmentSent_stage w
  · exact .inl (relaySent_quiet _ : Quiet True _ _).stage
  · exact .inl (querySent_quiet _ : Quiet True _ _).stage
  · exact .inl (answerSent_quiet _ : Quiet True _ _).stage
  · exact .inl rfl

theorem sendEnd_stage (x : Entry) (hx : s.inFlight = some x) (w : UnderWay s) :
    (sendEnd x s).seat.stage = s.seat.stage ∨
      (s.seat.stage = .profiling ∧ ((sendEnd x s).seat.stage = .checking ∨ (sendEnd x s).seat.stage = .sync)) := by
  have hl : (leaveQueue x (readOwnEnd s)).seat.stage = s.seat.stage := by
    rw [leaveQueue_readOwnEnd]
    split
    · rfl
    · exact (Quiet.offer _ : Quiet True _ _).stage
  have ht := tellSent_stage x ((leaveQueue_path (R := True) (L := True) x hx).underWay w)
  unfold sendEnd
  extract_lets o d a v _ z
  have hz : Quiet True v (answerAgain o d (profileAgain a z)) :=
    noDriveFaults_quiet.trans ((clearFault_quiet ..).trans ((profileAgain_quiet a).trans (answerAgain_quiet o d)))
  rw [hz.stage, ← hl]
  exact ht

theorem applyMark_stage (p d l : Nat) (f : Int) (s : State) :
    (applyMark p d l f s).seat.stage = s.seat.stage ∨
      (s.seat.stage = .sync ∧ (applyMark p d l f s).seat.stage = .joined) := by
  unfold applyMark
  split
  · exact .inl rfl
  · split
    · next hg =>
      have h := enterJoined_stage { s with phase := s.phase.stepped p d l f }
      have hq := settle_quiet (L := True) (s := enterJoined { s with phase := s.phase.stepped p d l f }) (.inl trivial)
      exact .inr ⟨hg, (hq.trans (wrapIfOver_quiet (.inl trivial))).stage.trans h⟩
    · exact .inl (wrapIfOver_quiet (.inl trivial)).stage
    all_goals exact .inl rfl

theorem takeDepart_stage (l : List Nat) (s : State) :
    (takeDepart l s).seat.stage = s.seat.stage ∨
      (s.seated = true ∧ (takeDepart l s).seat.stage = .standalone) := by
  simp only [takeDepart]
  split
  · next h => exact .inr ⟨(Bool.and_eq_true_iff.mp h).1, rfl⟩
  · next h => exact .inl (applyDepart_quiet l fun hs hm => h (by simp [hs, hm]) : Quiet True _ _).stage

theorem acceptOffer_stage (n : Nat) (s : State) :
    (acceptOffer n s).seat.stage = s.seat.stage ∨
      ((s.seat.stage = .listen ∨ s.seat.stage = .standalone) ∧ (acceptOffer n s).seat.stage = .claiming) := by
  unfold acceptOffer
  split
  · next hg => exact .inr ⟨.inl hg, queueClaim_stage ..⟩
  · next hg => exact .inr ⟨.inr hg, queueClaim_stage ..⟩
  · next hg =>
    split
    · exact .inl rfl
    · split
      · exact .inl ((queueClaim_stage ..).trans hg.symm)
      · exact .inl rfl
  all_goals exact .inl rfl

theorem claimOwn_stage (i : Identity) (b : Bool) (s : State) :
    (claimOwn i b s).seat.stage = s.seat.stage ∨ (claimOwn i b s).seat.stage = .conflict := by
  unfold claimOwn
  split
  · exact .inl rfl
  · split
    · exact .inl (defendSeat_quiet : Quiet True _ _).stage
    · exact .inr (enterConflict_stage ..)

theorem takeClaim_stage (n : Nat) (i : Identity) (c : UnitClass) (b : Bool) (s : State) :
    (takeClaim n i c b s).seat.stage = s.seat.stage ∨
      ((s.seat.stage = .claiming ∨ s.seated = true) ∧ (takeClaim n i c b s).seat.stage = .conflict) := by
  unfold takeClaim
  extract_lets news v
  have hv : v.seat = s.seat := by
    unfold v
    split <;> rfl
  have hs : v.seated = s.seated := by rw [State.seated, hv, State.seated]
  rw [← hs, ← hv]
  clear_value v
  have ha (u : State) : (actOnDue u).seat.stage = u.seat.stage := (actOnDue_quiet : Quiet True _ _).stage
  split
  · next h =>
    rw [ha]
    exact (claimOwn_stage i b v).imp id fun h' => ⟨.inr (Bool.and_eq_true_iff.mp h).1, h'⟩
  · split
    · next hg => exact .inr ⟨.inl hg.1, enterConflict_stage ..⟩
    · exact .inl (ha _)

theorem headListenOver_stage (hg : s.seat.stage = .listen) :
    (headListenOver s).seat.stage = .listen ∨ (headListenOver s).seat.stage = .claiming ∨
      (headListenOver s).seat.stage = .conflict := by
  simp only [headListenOver]
  split
  · exact .inr (.inr (enterConflict_stage ..))
  · split
    · exact .inr (.inl (queueClaim_stage ..))
    · exact .inl hg

theorem unseatedOver_stage (s : State) :
    (unseatedOver s).seat.stage = s.seat.stage ∨ (unseatedOver s).seat.stage = .standalone := by
  simp only [unseatedOver]
  split
  · exact .inl rfl
  · exact .inr (seatUnavailable_stage _)

theorem seatInRises_stage (s : State) :
    (seatInRises s).seat.stage = s.seat.stage ∨
      (s.seat.stage = .listen ∧ (seatInRises s).seat.stage = .claiming) := by
  have h1 : (clearFault .frontLinkLost 0
      { s with seat := { s.seat with seatIn := true, seatInSeen := true } }).seat.stage = s.seat.stage := by simp
  have h := tryWarmClaim_stage (clearFault .frontLinkLost 0
      { s with seat := { s.seat with seatIn := true, seatInSeen := true } })
  rw [h1] at h
  exact h

theorem loadDone_stage (p : LoadSample) (s : State) :
    (loadDone p s).seat.stage = .listen ∨ (loadDone p s).seat.stage = .claiming := by
  have he : loadDone p s = tryWarmClaim (restoredFaults (loadFaults (loadListen p s))) := rfl
  have hl := (loadListen_seat p s).1
  rw [he]
  generalize loadListen p s = v at hl
  have hr (v : State) : Quiet True v (restoredFaults v) := .foldl _ _ fun _ _ _ => raiseHealthFault_quiet ..
  have hq : Quiet True v (restoredFaults (loadFaults v)) := loadFaults_quiet.trans (hr _)
  rcases tryWarmClaim_stage (restoredFaults (loadFaults v)) with h | ⟨-, h⟩
  · exact .inl (h.trans (hq.stage.trans hl))
  · exact .inr h

theorem turnEnd_stage (s : State) : (turnEnd s).seat.stage = s.seat.stage ∨ (turnEnd s).seat.stage = .sync :=
  finishCheck_stage _

/-- The stage stays, or moves as the command may move it. -/
def Goes (c : Instr) (s t : State) : Prop :=
  t.seat.stage = s.seat.stage ∨ stageMove c s.seat.stage t.seat.stage = true

theorem Goes.of {c : Instr} {f g : Stage} (hs : s.seat.stage = f) (ht : t.seat.stage = g) (h : stageMove c f g = true) :
    Goes c s t :=
  .inr (hs ▸ ht ▸ h)

/-- The first announcement's end may come with the command. -/
theorem Goes.of_profilingEnd {c : Instr}
    (h : t.seat.stage = s.seat.stage ∨
      (s.seat.stage = .profiling ∧ (t.seat.stage = .checking ∨ t.seat.stage = .sync)))
    (hc : stageMove c .profiling .checking = true) (hy : stageMove c .profiling .sync = true) : Goes c s t := by
  rcases h with h | ⟨hs, ht | ht⟩
  · exact .inl h
  · exact .of hs ht hc
  · exact .of hs ht hy

/-- A held claim may lapse with the command. -/
theorem Goes.after_lapse {c : Instr} (w : UnderWay t) (h : Goes c s t) (hm : stageMove c .claiming .standalone = true)
    (hc : t.seat.stage = .claiming → s.seat.stage = .claiming) : Goes c s (lapseClaim t) := by
  rcases lapseClaim_stage w with hl | ⟨hg, hl⟩
  · rw [Goes, hl]
    exact h
  · exact .of (hc hg) hl hm

/-- A frame received leaves the stage, or moves it by the table of R9. -/
theorem ReceivedAs.goes {c : Instr} {k p : Nat} {d : List Byte} {f : State → State} (h : ReceivedAs s c k p d f)
    (hc : movesStage c = true) : Goes c s (f (frameHeard k p d s)) := by
  have hg : (frameHeard k p d s).seat.stage = s.seat.stage := rfl
  rw [Goes, ← hg]
  generalize frameHeard k p d s = v
  cases h
  case mark =>
    rcases applyMark_stage _ _ _ _ _ with h | ⟨hg, ht⟩
    · exact .inl h
    · exact Goes.of (s := v) hg ht rfl
  case depart l r =>
    refine (takeDepart_stage _ v).imp id fun ⟨hs, ht⟩ => ?_
    rw [ht]
    exact Bool.and_eq_true_iff.mpr ⟨hs, rfl⟩
  case seatOffer =>
    dsimp only
    split
    · rcases acceptOffer_stage _ v with h | ⟨hg | hg, ht⟩
      · exact .inl h
      all_goals exact Goes.of hg ht rfl
    · exact .inl rfl
  case seatClaim =>
    dsimp only
    split
    · rcases takeClaim_stage _ _ _ _ (hearClaim _ v) with h | ⟨hg, ht⟩
      · exact .inl h
      · refine .inr ?_
        rw [ht]
        refine Bool.and_eq_true_iff.mpr ⟨?_, rfl⟩
        rcases hg with hg | hg
        · exact Bool.or_eq_true_iff.mpr (.inl (beq_iff_eq.mpr hg))
        · exact Bool.or_eq_true_iff.mpr (.inr hg)
    · exact .inl rfl
  all_goals cases hc

/-- An effect leaves the stage, or moves it by the table of R9. -/
theorem Effect.goes {c : Instr} (h : Effect c s t) (k : ProgressOk s) (hp : s.power = .running)
    (hr : restarts c s = false) : Goes c s t := by
  by_cases hc : movesStage c = false
  · exact .inl (h.quiet hc).framed.stage
  have hw := k.underWay
  cases h
  case loadDone p h =>
    simp only [State.readOver, Bool.and_eq_true, beq_iff_eq] at h
    rcases loadDone_stage p s with hg | hg <;> exact .of h.1 hg rfl
  case seatInRises =>
    rcases seatInRises_stage s with h | ⟨hg, ht⟩
    · exact .inl h
    · exact .of hg ht rfl
  case seatInFalls => exact .inl (seatInFalls_quiet : Quiet True _ _).stage
  case headListenOver hg =>
    rcases headListenOver_stage hg with h | h | h
    · exact .inl (h.trans hg.symm)
    all_goals exact .of hg h rfl
  case unseatedOver hg =>
    rcases unseatedOver_stage s with h | h
    · exact .inl h
    · rcases hg with hg | hg <;> exact .of hg h rfl
  case becomeSeated hg =>
    rcases becomeSeated_stage s with h | h | h <;> exact .of hg h rfl
  case syncOver hg => exact .of hg (enterJoined_stage _) rfl
  case turnEnd h =>
    simp only [State.turnDue, State.turnOver, Bool.and_eq_true, beq_iff_eq] at h
    rcases turnEnd_stage s with ht | ht
    · exact .inl ht
    · exact .of h.1.1 ht rfl
  case frameStart h =>
    obtain ⟨q, h | ⟨-, h⟩⟩ := startHead_cases s <;> exact .inl (by rw [h]; rfl)
  case loseArbitration =>
    exact .after_lapse ((goOnReceiving_path (R := True) (L := True) trivial).underWay hw)
      (.inl (returnToPending_stage s)) rfl fun hg => (returnToPending_stage s).symm.trans hg
  case driveFault =>
    rw [driveFault_eq]
    have hf := faulted_stage hw
    have hu : UnderWay (faulted s) := (faulted_path (R := True) (L := True) trivial).underWay hw
    generalize faulted s = v at hf hu
    refine .after_lapse hu (.of_profilingEnd hf rfl rfl) rfl fun hg => ?_
    rcases hf with ht | ⟨-, ht | ht⟩
    · exact ht.symm.trans hg
    all_goals rw [hg] at ht; cases ht
  case frameSent x hx => exact .of_profilingEnd (sendEnd_stage x hx hw) rfl rfl
  case lineStuck =>
    rw [lineStuck_eq]
    have hf := stuckLine_stage s
    have hu : UnderWay (stuckLine s) := (stuckLine_path (R := True) (L := True) trivial).underWay hw
    generalize stuckLine s = v at hf hu
    exact .after_lapse hu (.inl hf) rfl fun hg => hf.symm.trans hg
  case slotTake r h => exact .inl (slotTake_quiet (L := True) h hp hr).stage
  case received hv h => exact h.goes (by simpa using hc)
  all_goals exact absurd rfl hc

/-- A start leads to LOADING. -/
theorem Effect.goes_of_restarts {c : Instr} (h : Effect c s t) (hr : restarts c s = true) : Goes c s t := by
  cases h
  case slotTake r h =>
    have hq : s.port.slot = some .restart := (beq_iff_eq.mp (Bool.and_eq_true_iff.mp hr).2)
    rw [h] at hq
    cases hq
    exact .inr rfl
  case received hv h => cases h <;> cases hr
  all_goals cases hr

theorem exec_goes {c : Instr} (he : exec c s = .next t) (k : ProgressOk s) : Goes c s t := by
  cases exec_answers he with
  | same => exact .inl rfl
  | @judged u hp h =>
    have hu : Goes c s u := by
      rcases Bool.eq_false_or_eq_true (restarts c s) with hr | hr
      · exact h.goes_of_restarts hr
      · exact h.goes k hp hr
    rw [Goes, (settle_quiet (L := True) (s := u) (.inl trivial)).stage]
    exact hu
  | unjudged h =>
    cases h with
    | startUp => exact .inr rfl
    | stopStation | supplyLost | stoppedLost | discarded | readSoFar => exact .inl rfl
    | readAttempt =>
      refine .inl ?_
      unfold readAttempt failedAttempt
      dsimp only
      (repeat' split) <;> rfl
    | port _ _ h => exact .inl (congrArg (fun u : State => u.seat.stage) h :)

end Sys2Proof.Machine

open Sys2Proof Sys2Proof.Machine

/-- Settles O58: of the commands that move the stage each does so along its row of the table, by what is under way before it. -/
theorem stagesMoveByRule : Obligations.StagesMoveByRule := fun _ _ _ he k => exec_goes he k

end

section
/-! SUPPORT. How a command that the state admits runs; the offer condition and its timer (O15). -/

namespace Sys2Proof.Machine

variable {s t u : State}

/-! ### Commands admitted and excluded -/

section
variable (b : State → Bool) {f : State → State}

/-- A command that the state admits has its effect, with the judgements after it. -/
theorem whenRunning_admitted (hp : s.power = .running) (hb : b s = true) :
    whenRunning s (fun s => takeIf (b s) s f) = .next (settle (f s)) := by
  rw [whenRunning_running _ _ hp, hb, takeIf_admitted]

/-- A command that the state excludes changes nothing. -/
theorem whenRunning_excluded (hb : b s = false) : whenRunning s (fun s => takeIf (b s) s f) = .next s := by
  simp [whenRunning, hb]

end

/-! ### The offer condition -/

theorem Table.holds_eq_false {α : Type} (t : Table α) (p : Nat) : Table.holds t p = false ↔ Table.get t p = none := by
  simp [Table.holds]

theorem offerDue_iff : s.offerDue = true ↔ (s.seat.stage = .sync ∨ s.seat.stage = .joined) ∧ s.seat.presIn = true ∧
    s.seat.ownSeat < 8 ∧ Table.get s.roster.entries (s.seat.ownSeat + 1) = none := by
  have hs : s.serving = true ↔ s.seat.stage = .sync ∨ s.seat.stage = .joined := by
    unfold State.serving
    cases s.seat.stage <;> simp [Stage.serving]
  simp [State.offerDue, hs, Table.holds_eq_false, and_assoc]

theorem offerOver_of_pending (h : ∃ e ∈ s.line.queue, e.frame.isOffer = true ∧ e.inFlight = false) :
    offerOver s = { s with seat := { s.seat with offer := .running 0 500 } } := by
  have ha : (s.line.queue.any fun e => e.frame.isOffer && !e.inFlight) = true := by
    obtain ⟨e, he, ho, hf⟩ := h
    exact List.any_eq_true.mpr ⟨e, he, by simp [ho, hf]⟩
  rw [offerOver, if_pos ha]
  rfl

theorem offerOver_of_not_pending (h : ∀ e ∈ s.line.queue, e.frame.isOffer = true → e.inFlight = true) :
    offerOver s =
      { offer (.seatOffer (s.seat.ownSeat + 1)) s with seat := { s.seat with offer := .running 0 500 } } := by
  have ha : ¬(s.line.queue.any fun e => e.frame.isOffer && !e.inFlight) = true := by
    simp only [List.any_eq_true, not_exists, not_and, Bool.and_eq_true, Bool.not_eq_true', Bool.not_eq_false]
    exact h
  rw [offerOver, if_neg ha, startOfferTimer, sendOffer, (offer_keeps s _).2.2.2.2.1]
  rfl

end Sys2Proof.Machine

open Sys2Proof Sys2Proof.Machine

/-- Settles O15, by the cases of the offer condition and of the offer timer. -/
theorem offerConditionActs : Obligations.OfferConditionActs := by
  intro s
  refine ⟨offerDue_iff, fun hd hr => ?_, fun hd => ?_, fun hd hr => ?_, fun hp hd hr => ?_⟩
  · rw [judgeOffer, if_pos hd, if_neg (by simp [hr]), startOfferTimer, sendOffer, (offer_keeps s _).2.2.2.2.1]
    rfl
  · unfold judgeOffer
    rw [if_neg (by simp [hd])]
    split
    · exact ⟨rfl, fun _ => rfl⟩
    · next hr =>
      refine ⟨?_, fun h => absurd h hr⟩
      cases hm : s.seat.offer with
      | stopped => rfl
      | running => simp [hm, Timer.isRunning] at hr
  · rw [judgeOffer, if_pos hd, if_pos hr]
  · have hx : exec .offerTimerExpiry s = .next (settle (offerOver s)) :=
      whenRunning_admitted (fun s => s.seat.offer.isRunning && s.offerDue) hp (Bool.and_eq_true_iff.mpr ⟨hr, hd⟩)
    exact ⟨fun h => by rw [hx, offerOver_of_pending h], fun h => by rw [hx, offerOver_of_not_pending h]⟩

end

section
/-! SUPPORT. The frame's Start: what begins it, what is captured with it, and a quiet line (O43). -/

namespace Sys2Proof.Machine

variable {s t u : State}

theorem inFlight_eq_none : s.inFlight = none ↔ ∀ e ∈ s.line.queue, e.inFlight = false := by
  simp [State.inFlight]

theorem inFlight_ne_none (h : ∃ e ∈ s.line.queue, e.inFlight = true) : s.inFlight.isNone = false := by
  obtain ⟨e, he, hf⟩ := h
  cases hn : s.inFlight with
  | some x => rfl
  | none => exact absurd hf (by simp [inFlight_eq_none.mp hn e he])

/-- What keeps a frame from beginning (R8, R172). -/
theorem mayStart_iff : s.mayStart = true ↔ s.seat.stage ≠ .standalone ∧ s.line.state = .idle ∧
    s.line.disable.isRunning = false ∧ s.line.mute = false ∧ (∀ e ∈ s.line.queue, e.inFlight = false) ∧ s.line.queue ≠ [] := by
  simp [State.mayStart, inFlight_eq_none, and_assoc]

/-- The head entry in flight, captured. -/
theorem startHead_eq {x : Entry} {r : List Entry} (h : s.line.queue = x :: r) :
    startHead s =
      { s with
        line := { s.line with queue := { x with inFlight := true, frame := captureFrame s x.frame } :: r }
        seat :=
          if s.seat.claim = .pending ∧ x.id = s.seat.claimId then { s.seat with claim := .inFlight } else s.seat } := by
  unfold startHead
  simp only [h]
  split <;> rfl

/-- Capturing leaves the frames other than MARK and REPORT. -/
theorem captureFrame_other (f : Frame) (h : f.kind ≠ 1 ∧ f.kind ≠ 9) : captureFrame s f = f := by
  cases f with
  | mark => exact absurd rfl h.1
  | reportCounts | reportAnalog => exact absurd rfl h.2
  | _ => rfl

end Sys2Proof.Machine

open Sys2Proof Sys2Proof.Machine

/-- Settles O43, by what admits each of the three commands and what each makes of the line. -/
theorem framesBegin : Obligations.FramesBegin := by
  intro s hp
  refine ⟨fun x hx hl hd hm hf hg => ⟨?_, ?_, ?_, ?_, captureFrame_other x.frame⟩, fun h => ?_, fun hl hf => ?_,
    fun hl hf => ?_, fun h => ?_, fun h => ?_⟩
  · obtain ⟨r, hr⟩ := List.head?_eq_some_iff.mp hx
    have hs : s.mayStart = true := mayStart_iff.mpr ⟨hg, hl, by simp [hd], hm, hf, by simp [hr]⟩
    have he : exec .frameStart s = .next (settle (noteStart false (startHead s))) := whenRunning_admitted State.mayStart hp hs
    rw [he, startHead_eq hr]
    simp only [hr]
    split <;> rfl
  · rintro p d l h; rw [h]; rfl
  · rintro c h; rw [h]; rfl
  · rintro c h; rw [h]; rfl
  · refine whenRunning_excluded State.mayStart ?_
    by_contra hne
    obtain ⟨h1, h2, h3, h4, h5, h6⟩ := mayStart_iff.mp (Bool.not_eq_false _ ▸ hne)
    rcases h with h | h | h | h | h | ⟨e, he, h⟩ <;> simp_all
  · exact whenRunning_admitted (fun s => s.line.state == .idle && s.inFlight.isNone) hp (by simp [hl, inFlight_eq_none.mpr hf])
  · exact whenRunning_admitted (fun s => s.line.state == .busy && s.inFlight.isNone) hp (by simp [hl, inFlight_eq_none.mpr hf])
  · refine whenRunning_excluded (fun s => s.line.state == .idle && s.inFlight.isNone) (Bool.and_eq_false_iff.mpr ?_)
    exact h.elim (fun h => .inr (inFlight_ne_none h)) fun h => .inl (by simp [h])
  · refine whenRunning_excluded (fun s => s.line.state == .busy && s.inFlight.isNone) (Bool.and_eq_false_iff.mpr ?_)
    exact h.elim (fun h => .inr (inFlight_ne_none h)) fun h => .inl (by simp [h])

end

section
/-! SUPPORT. The tests of R178 spelled out, and what each command of a received frame that fails one of them leaves (O17). -/

namespace Sys2Proof.Machine

variable {s t u : State}

/-- The lengths by kind and sub-kind. -/
theorem lengthOk_iff (k sub n : Nat) : lengthOk k sub n = true ↔
    (n = 1 ∧ k = 5 ∧ (sub = 3 ∨ sub = 5)) ∨
    (n = 2 ∧ (k = 0 ∨ k = 2 ∨ (k = 3 ∧ sub = 1) ∨ (k = 4 ∧ (sub = 1 ∨ sub = 2)) ∨
      (k = 5 ∧ (sub = 2 ∨ sub = 4)))) ∨
    (n = 4 ∧ ((k = 5 ∧ sub = 1) ∨ k = 6 ∨ k = 10)) ∨
    (n = 5 ∧ (k = 1 ∨ (k = 7 ∧ (sub = 1 ∨ sub = 2)))) ∨
    (n = 9 ∧ k = 3 ∧ sub = 2) ∨ (n = 10 ∧ k = 9 ∧ (sub = 1 ∨ sub = 2)) ∨
    (2 ≤ n ∧ n ≤ 12 ∧ k = 8) ∨ (4 ≤ n ∧ n ≤ 12 ∧ k = 11) := by
  match k with
  | 0 | 1 | 2 | 3 | 4 | 5 | 6 | 7 | 8 | 9 | 10 | 11 => simp [lengthOk] <;> omega
  | k + 12 => simp [lengthOk]

theorem frameValid_iff (own k p : Nat) (d : List Byte) : frameValid own k p d = true ↔
    lengthOk k (byteAt d 0).toNat d.length = true ∧
    ((1 ≤ p ∧ p ≤ 8) ∨ (p = 0 ∧ k = 3 ∧ (byteAt d 0).toNat = 2)) ∧
    (k = 1 → markOk own (word2 (byteAt d 0) (byteAt d 1)) (byteAt d 2).toNat
      (word2 (byteAt d 3) (byteAt d 4)) = true) := by
  simp only [frameValid, Bool.and_eq_true, senderOk_iff, Bool.or_eq_true, bne_iff_ne, beq_iff_eq, and_assoc,
    ← imp_iff_not_or]

theorem markOk_iff (own p d l : Nat) :
    markOk own p d l = true ↔ 500 ≤ p ∧ p ≤ 1000 ∧ 30 ≤ d ∧ d ≤ 70 ∧ l < own := by
  simp [markOk, and_assoc]

/-- A sender position outside 1..8 fails in every kind but SEAT CLAIM. -/
theorem frameValid_sender {own k p : Nat} {d : List Byte} (hp : p = 0 ∨ 8 < p) (hd : ¬(k = 3 ∧ (byteAt d 0).toNat = 2)) :
    frameValid own k p d = false := by
  refine Bool.eq_false_iff.mpr fun h => ?_
  obtain ⟨-, h, -⟩ := (frameValid_iff ..).mp h
  omega

/-- A sender position above 8 fails. -/
theorem frameValid_high {own k p : Nat} {d : List Byte} (hp : 8 < p) : frameValid own k p d = false := by
  refine Bool.eq_false_iff.mpr fun h => ?_
  obtain ⟨-, h, -⟩ := (frameValid_iff ..).mp h
  omega

theorem frameValid_length {own k p : Nat} {d : List Byte} (hd : lengthOk k (byteAt d 0).toNat d.length = false) :
    frameValid own k p d = false := by
  refine Bool.eq_false_iff.mpr fun h => ?_
  rw [((frameValid_iff ..).mp h).1] at hd
  cases hd

/-- A frame of another station dropped is dropped. -/
theorem LineUnit.dropHeard_dropHeard (l : LineUnit) : l.dropHeard.dropHeard = l.dropHeard := by
  unfold LineUnit.dropHeard
  split
  · rfl
  · simp [LineUnit.sending]

theorem LineUnit.heard_malformed (l : LineUnit) (k p : Nat) (d : List Byte) : (l.heard k p d).malformed = l.malformed :=
  (congrArg LineUnit.malformed (l.heard_keeps k p d) :)

/-- The state after a frame that fails a test. -/
theorem countMalformed_heard (k p : Nat) (d : List Byte) :
    countMalformed { s with line := s.line.heard k p d } =
      { s with
        line :=
          { s.line.heard k p d with
            malformed := if s.line.malformed < 65535 then s.line.malformed + 1 else s.line.malformed } } := by
  have h : (s.line.heard k p d).dropHeard = s.line.heard k p d := LineUnit.dropHeard_dropHeard _
  simp only [countMalformed, h, s.line.heard_malformed]
  rfl

/-- A command is discarded: it is counted, its bits are read, and nothing more changes. -/
def Discards (s : State) (m : Instr) : Prop :=
  ∃ t, exec m s = .next t ∧ { t with line := s.line } = s ∧
    { t.line with
      state := s.line.state, recessive := s.line.recessive, dominant := s.line.dominant
      reception := s.line.reception, malformed := s.line.malformed } = s.line ∧
    t.line.malformed = (if s.line.malformed < 65535 then s.line.malformed + 1 else s.line.malformed)

theorem ReceivedAs.discards {c : Instr} {k p : Nat} {d : List Byte} {f : State → State} (h : ReceivedAs s c k p d f)
    (hp : s.power = .running) (hv : frameValid s.phase.period k p d = false) : Discards s c := by
  refine ⟨_, (exec_of_receivedAs h).trans ((receive_invalid s f hp hv).trans (congrArg _ (countMalformed_heard k p d))),
    rfl, ?_, rfl⟩
  exact (congrArg (fun m : LineUnit => { m with malformed := s.line.malformed }) (s.line.heard_keeps k p d) :)

theorem word2_bytes2 {n : Nat} (h : n < 65536) : word2 (byte (n / 256)) (byte n) = n := by
  simp only [word2, byte, BitVec.toNat_ofNat]
  omega

/-- What a MARK's payload is put to. -/
theorem frameValid_mark {own p : Nat} {x y : Half} {a : Byte} (h : frameValid own 1 p (markBytes x a y) = true) :
    500 ≤ x.toNat ∧ x.toNat ≤ 1000 ∧ 30 ≤ a.toNat ∧ a.toNat ≤ 70 ∧ y.toNat < own := by
  obtain ⟨-, -, h⟩ := (frameValid_iff ..).mp h
  have h := (markOk_iff ..).mp (h rfl)
  simp only [markBytes, bytes2, byteAt, List.cons_append, List.nil_append, List.getD_cons_zero, List.getD_cons_succ] at h
  rwa [word2_bytes2 x.isLt, word2_bytes2 y.isLt] at h

theorem length_flatMap_bytes2 (l : List Half) : (l.flatMap fun c => bytes2 c.toNat).length = 2 * l.length := by
  induction l with
  | nil => rfl
  | cons c r ih =>
    rw [List.flatMap_cons, List.length_append, ih, List.length_cons]
    simp only [bytes2, List.length_cons, List.length_nil]
    omega

/-- A REPORT of other than four values has no allowed length. -/
theorem frameValid_report {own p : Nat} {b m : Byte} {l : List Half} (h : l.length ≠ 4) :
    frameValid own 9 p ([b, m] ++ l.flatMap fun c => bytes2 c.toNat) = false := by
  refine frameValid_length ?_
  rw [List.length_append, length_flatMap_bytes2]
  simp [lengthOk]
  omega

end Sys2Proof.Machine

open Sys2Proof Sys2Proof.Machine

/-- Settles O17, by the tests spelled out: a command of a frame that fails one is counted only. -/
theorem receptionTests : Obligations.ReceptionTests := by
  intro s k p d f hp
  refine ⟨fun hv => receive_valid s f hp hv, fun hv => ?_, ?_, fun sub n => lengthOk_iff k sub n, ?_⟩
  · rw [receive_invalid s f hp hv, countMalformed_heard]
  · simp only [frameValid_iff, markOk_iff]
  intro n a b c e g x y i l
  refine ⟨fun hn => ?_, fun hn => ?_, fun hx => ?_, fun hd => ?_, fun hd => ?_, fun hl => ⟨?_, ?_⟩⟩
  · have hv {k : Nat} {d : List Byte} (hd : ¬(k = 3 ∧ (byteAt d 0).toNat = 2)) :
        frameValid s.phase.period k n.toNat d = false := frameValid_sender hn hd
    simp only [List.forall_mem_cons]
    refine ⟨ReceivedAs.demand.discards hp (hv (by simp)), ReceivedAs.mark.discards hp (hv (by simp)),
      ReceivedAs.depart.discards hp (hv (by simp)), ReceivedAs.seatOffer.discards hp (hv (by simp [byteAt])),
      ReceivedAs.probe.discards hp (hv (by simp)), ReceivedAs.probePresent.discards hp (hv (by simp)),
      ReceivedAs.stageChecked.discards hp (hv (by simp)), ReceivedAs.stageJoined.discards hp (hv (by simp)),
      ReceivedAs.stageTake.discards hp (hv (by simp)), ReceivedAs.stageDecline.discards hp (hv (by simp)),
      ReceivedAs.stageYield.discards hp (hv (by simp)), ReceivedAs.fault.discards hp (hv (by simp)),
      ReceivedAs.bodyRequest.discards hp (hv (by simp)), ReceivedAs.bodyStatus.discards hp (hv (by simp)),
      ReceivedAs.profileSegment.discards hp (hv (by simp)), ReceivedAs.reportCounts.discards hp (hv (by simp)),
      ReceivedAs.reportAnalog.discards hp (hv (by simp)), ReceivedAs.query.discards hp (hv (by simp)),
      ReceivedAs.answer.discards hp (hv (by simp)), fun _ h => (by cases h)⟩
  · exact ReceivedAs.seatClaim.discards hp (frameValid_high hn)
  · refine ReceivedAs.mark.discards hp (Bool.eq_false_iff.mpr fun h => ?_)
    have := frameValid_mark h
    omega
  · refine ReceivedAs.profileSegment.discards hp (frameValid_length ?_)
    rcases hd with rfl | hd
    · simp [lengthOk]
    · simp only [lengthOk, List.length_cons, Bool.and_eq_false_iff, decide_eq_false_iff_not]
      omega
  · refine ReceivedAs.answer.discards hp (frameValid_length ?_)
    simp only [lengthOk, List.length_append, List.length_cons, List.length_nil, Bool.and_eq_false_iff,
      decide_eq_false_iff_not]
    omega
  · exact ReceivedAs.reportCounts.discards hp (frameValid_report hl)
  · exact ReceivedAs.reportAnalog.discards hp (frameValid_report hl)

end

section
/-! SUPPORT. What raising, clearing and the judgements make of the fault list, and what else the judgements leave. -/

namespace Sys2Proof.Machine

variable {s t u : State}

/-! ### The fault list -/

theorem hasFault_iff (c : FaultCode) (k : Nat) :
    s.hasFault c k = true ↔ ∃ e ∈ s.faults.list, e.code = c ∧ e.subject = k := by
  simp [State.hasFault]

theorem hasFault_congr (h : t.faults.list = s.faults.list) (c : FaultCode) (k : Nat) : t.hasFault c k = s.hasFault c k := by
  rw [State.hasFault, h, State.hasFault]

theorem addFault_list (c : FaultCode) (k n : Nat) (s : State) :
    (addFault c k n s).faults.list =
      s.faults.list ++ [{ code := c, subject := k, severity := n, onset := min s.now Config.onsetTop }] := by
  have ha (v : State) : (attnForFault n v).faults = v.faults := by
    unfold attnForFault
    split <;> rfl
  have hq (e : FaultEntry) (v : State) : (queueFault e true v).faults = v.faults :=
    (unqueued_fields (queueFault_unqueued v e true)).2.2.2.2.2.2.2.2.2.2.1
  simp only [addFault, ha, hq, setFaultList_faults]

/-- The list after a raise: one not held joins it, on a full list in place of an entry of lower severity that is not latched. -/
def raisedList (e : FaultEntry) (l : List FaultEntry) : List FaultEntry :=
  if l.any fun x => x.code == e.code && x.subject == e.subject then l
  else if l.length < 8 then l ++ [e]
  else ((evictable e.severity l).map fun x => l.filter (fun y => !(y.code == x.code && y.subject == x.subject)) ++ [e]).getD l

theorem raiseFault_list (c : FaultCode) (k n : Nat) (s : State) :
    (raiseFault c k n s).faults.list =
      raisedList { code := c, subject := k, severity := n, onset := min s.now Config.onsetTop } s.faults.list := by
  unfold raiseFault raisedList
  split
  · next h => exact (if_pos h).symm
  · next h =>
    rw [if_neg (show ¬(s.faults.list.any fun x => x.code == c && x.subject == k) = true from h)]
    have h8 : Config.faultListSize = 8 := rfl
    rw [h8]
    split
    · exact addFault_list ..
    · dsimp only
      cases hx : evictable n s.faults.list with
      | none => rfl
      | some x =>
        have hn : (removeFault x s).now = s.now := (removeFault_quiet (L := True) x (evictable_mem hx).2).framed.now
        show (addFault c k n (removeFault x s)).faults.list = _
        rw [addFault_list, removeFault_list, hn]
        rfl

/-- An entry evicted is of a lower severity. -/
theorem evictable_severity {n : Nat} {l : List FaultEntry} {x : FaultEntry} (h : evictable n l = some x) : x.severity < n := by
  unfold evictable at h
  split at h
  · cases h
  · split at h
    · have hx := List.find?_some h
      simp only [Bool.and_eq_true, beq_iff_eq] at hx
      omega
    · cases h

/-- The ways a raise can go. -/
theorem raisedList_cases (e : FaultEntry) (l : List FaultEntry) :
    (raisedList e l = l ∧ ((∃ x ∈ l, x.code = e.code ∧ x.subject = e.subject) ∨ 8 ≤ l.length)) ∨
      (raisedList e l = l ++ [e] ∧ l.length < 8) ∨
      ∃ x ∈ l, x.code.latched = false ∧ x.severity < e.severity ∧ 8 ≤ l.length ∧
        raisedList e l = l.filter (fun y => !(y.code == x.code && y.subject == x.subject)) ++ [e] := by
  unfold raisedList
  split
  · next h => exact .inl ⟨rfl, .inl (by simpa using h)⟩
  · split
    · next h => exact .inr (.inl ⟨rfl, h⟩)
    · next h =>
      cases hx : evictable e.severity l with
      | none => exact .inl ⟨rfl, .inr (Nat.le_of_not_lt h)⟩
      | some x =>
        exact .inr (.inr ⟨x, (evictable_mem hx).1, (evictable_mem hx).2, evictable_severity hx, Nat.le_of_not_lt h, rfl⟩)

/-- A fault raised is listed where the list has room. -/
theorem raiseFault_hasFault (c : FaultCode) (k n : Nat) (h : s.faults.list.length < 8) :
    (raiseFault c k n s).hasFault c k = true := by
  rw [hasFault_iff, raiseFault_list]
  rcases raisedList_cases { code := c, subject := k, severity := n, onset := min s.now Config.onsetTop } s.faults.list with
    ⟨hl, hx | h8⟩ | ⟨hl, -⟩ | ⟨x, -, -, -, h8, -⟩
  · rw [hl]
    exact hx
  · omega
  · rw [hl]
    exact ⟨_, List.mem_append_right _ (.head _), rfl, rfl⟩
  · omega

theorem raiseFault_length (c : FaultCode) (k n : Nat) (s : State) :
    (raiseFault c k n s).faults.list.length ≤ s.faults.list.length + 1 := by
  rw [raiseFault_list]
  rcases raisedList_cases { code := c, subject := k, severity := n, onset := min s.now Config.onsetTop } s.faults.list with
    ⟨hl, -⟩ | ⟨hl, -⟩ | ⟨x, -, -, -, -, hl⟩ <;> rw [hl]
  · omega
  · simp
  · have := List.length_filter_le (fun y => !(y.code == x.code && y.subject == x.subject)) s.faults.list
    simp only [List.length_append, List.length_cons, List.length_nil]
    omega

/-- An entry stays through a raise where the list has room, or where no entry of its code and subject is one to evict. -/
theorem raiseFault_mem {c : FaultCode} {k n : Nat} {e : FaultEntry} (he : e ∈ s.faults.list)
    (h : s.faults.list.length < 8 ∨ ∀ x ∈ s.faults.list, x.code = e.code → x.subject = e.subject →
      n ≤ x.severity ∨ x.code.latched = true) : e ∈ (raiseFault c k n s).faults.list := by
  rw [raiseFault_list]
  rcases raisedList_cases { code := c, subject := k, severity := n, onset := min s.now Config.onsetTop } s.faults.list with
    ⟨hl, -⟩ | ⟨hl, -⟩ | ⟨x, hm, hlat, hsev, h8, hl⟩ <;> rw [hl]
  · exact he
  · exact List.mem_append_left _ he
  · refine List.mem_append_left _ (List.mem_filter.mpr ⟨he, ?_⟩)
    by_contra hne
    simp only [Bool.not_eq_true, Bool.not_eq_false', Bool.and_eq_true, beq_iff_eq] at hne
    rcases h with h | h
    · omega
    · rcases h x hm hne.1.symm hne.2.symm with hs | hs
      · exact absurd hsev (Nat.not_lt.mpr hs)
      · rw [hlat] at hs
        cases hs

/-- No other fault is listed by a raise. -/
theorem raiseFault_only {c d : FaultCode} {k j n : Nat} (hne : ¬(d = c ∧ j = k))
    (h : (raiseFault c k n s).hasFault d j = true) : s.hasFault d j = true := by
  rw [hasFault_iff] at h ⊢
  obtain ⟨e, he, hd⟩ := h
  refine ⟨e, ?_, hd⟩
  have hlast {l : List FaultEntry} {m : Nat}
      (hm : e ∈ l ++ [{ code := c, subject := k, severity := n, onset := m }]) : e ∈ l := by
    rcases List.mem_append.mp hm with hm | hm
    · exact hm
    · rw [List.mem_singleton] at hm
      subst hm
      exact absurd ⟨hd.1.symm, hd.2.symm⟩ hne
  rw [raiseFault_list] at he
  rcases raisedList_cases { code := c, subject := k, severity := n, onset := min s.now Config.onsetTop } s.faults.list with
    ⟨hl, -⟩ | ⟨hl, -⟩ | ⟨x, -, -, -, -, hl⟩ <;> rw [hl] at he
  · exact he
  · exact hlast he
  · exact List.mem_of_mem_filter (hlast he)

/-- Where the list has room a raise leaves what is listed of every other fault. -/
theorem raiseFault_other {c d : FaultCode} {k j n : Nat} (hne : ¬(d = c ∧ j = k)) (hl : s.faults.list.length < 8) :
    (raiseFault c k n s).hasFault d j = s.hasFault d j := by
  rw [Bool.eq_iff_iff]
  refine ⟨raiseFault_only hne, fun h => ?_⟩
  rw [hasFault_iff] at h ⊢
  obtain ⟨e, he, hd⟩ := h
  exact ⟨e, raiseFault_mem he (.inl hl), hd⟩

/-- A clear takes the entries of its code and subject. -/
theorem clearFault_list (c : FaultCode) (k : Nat) (h : c.latched = false) :
    (clearFault c k s).faults.list = s.faults.list.filter fun y => !(y.code == c && y.subject == k) := by
  unfold clearFault
  rw [if_neg (by simp [h])]
  split
  · next hn =>
    refine (List.filter_eq_self.mpr fun e he => ?_).symm
    simpa [imp_iff_not_or] using List.find?_eq_none.mp hn e he
  · next x hx =>
    have hc := List.find?_some hx
    simp only [Bool.and_eq_true, beq_iff_eq] at hc
    rw [removeFault_list, hc.1, hc.2]

theorem clearFault_length (c : FaultCode) (k : Nat) (s : State) :
    (clearFault c k s).faults.list.length ≤ s.faults.list.length := by
  cases h : c.latched with
  | true => simp [clearFault, h]
  | false => rw [clearFault_list c k h]; exact List.length_filter_le ..

theorem clearFault_other {c d : FaultCode} {k j : Nat} (hne : ¬(d = c ∧ j = k)) :
    (clearFault c k s).hasFault d j = s.hasFault d j := by
  cases h : c.latched with
  | true => simp [clearFault, h]
  | false =>
    rw [Bool.eq_iff_iff, hasFault_iff, hasFault_iff, clearFault_list c k h]
    refine ⟨fun ⟨e, he, hd⟩ => ⟨e, List.mem_of_mem_filter he, hd⟩, fun ⟨e, he, hd⟩ => ⟨e, List.mem_filter.mpr ⟨he, ?_⟩, hd⟩⟩
    simp only [Bool.not_eq_true', Bool.and_eq_false_iff, beq_eq_false_iff_ne]
    by_contra hcon
    simp only [not_or, not_not] at hcon
    exact hne ⟨hd.1.symm.trans hcon.1, hd.2.symm.trans hcon.2⟩

/-! ### The judgements and the fault list -/

/-- The judgements after the second one of the own contribution leave the fault list. -/
theorem settle_faults_sets (u : State) : (settle u).faults = (judgeSets u).faults := by
  rw [settle_eq]
  generalize judgeSets u = v
  rw [(unqueued_fields (judgeOffer_keeps _).1).2.2.2.2.2.2.2.2.2.2.1]
  rfl

/-- Of the fault list the judgements change DEMAND-LOST alone, when fallback begins or ends. -/
theorem settle_faults (u : State) : ∃ v : State, v.faults = u.faults ∧ v.now = u.now ∧
    v.demand.fallback = u.demand.fallback ∧ v.fallbackDue = u.fallbackDue ∧
    (settle u).faults = (judgeFallback v).faults := by
  have k3 : SameBut (judgeView u) (judgeOwn (endMotion (endWithdrawn (judgeView u)))) :=
    ((endWithdrawn_keeps _).1.trans (endMotion_keeps _).1).trans (judgeOwn_keeps _).1
  have hs : judgeSets u = judgeOwn (endPark (judgeEff (judgeFallback (judgeOwn (endMotion (endWithdrawn (judgeView u))))))) := rfl
  rw [settle_faults_sets, hs]
  generalize judgeOwn (endMotion (endWithdrawn (judgeView u))) = v at k3
  obtain ⟨-, -, ht, -, hf, -⟩ := k3.demand_fields
  refine ⟨v, k3.faults, k3.now, hf, ?_, ?_⟩
  · simp only [State.fallbackDue, State.serving, k3.loader, k3.seat, ht]
    rfl
  · exact ((endPark_keeps _).1.trans (judgeOwn_keeps _).1).faults

/-- No fault but DEMAND-LOST is listed by the judgements. -/
theorem settle_hasFault_only {d : FaultCode} {j : Nat} (hd : d ≠ .demandLost) (h : (settle u).hasFault d j = true) :
    u.hasFault d j = true := by
  obtain ⟨v, hv, -, -, -, hs⟩ := settle_faults u
  rw [hasFault_congr (s := judgeFallback v) (by rw [hs])] at h
  rw [← hasFault_congr (s := u) (t := v) (by rw [hv])]
  unfold judgeFallback at h
  dsimp only at h
  split at h
  · exact h
  · split at h
    · exact raiseFault_only (s := { v with demand := { v.demand with fallback := v.fallbackDue } }) (by simp [hd]) h
    · rw [clearFault_other (by simp [hd])] at h
      exact h

/-- An entry other than of DEMAND-LOST stays through the judgements where the list has room, where fallback does not begin, or where no
entry of its code and subject is one to evict. -/
theorem settle_fault_mem {e : FaultEntry} (he : e ∈ u.faults.list) (hd : e.code ≠ .demandLost)
    (h : u.faults.list.length < 8 ∨ (u.fallbackDue = true → u.demand.fallback = true) ∨
      ∀ x ∈ u.faults.list, x.code = e.code → x.subject = e.subject → 2 ≤ x.severity ∨ x.code.latched = true) :
    e ∈ (settle u).faults.list := by
  obtain ⟨v, hv, -, hb, hdue, hs⟩ := settle_faults u
  rw [hs]
  rw [← hv] at he h
  rw [← hb, ← hdue] at h
  unfold judgeFallback
  dsimp only
  split
  · exact he
  · next hne =>
    split
    · next hf =>
      refine raiseFault_mem he ?_
      rcases h with h | h | h
      · exact .inl h
      · exact absurd (hf.trans (h hf).symm) hne
      · exact .inr h
    · rw [clearFault_list _ _ rfl]
      exact List.mem_filter.mpr ⟨he, by simp [hd]⟩

/-- Where the list has room or fallback does not begin, the judgements leave what is listed of every fault but DEMAND-LOST. -/
theorem settle_hasFault {d : FaultCode} {j : Nat} (hd : d ≠ .demandLost)
    (h : u.faults.list.length < 8 ∨ (u.fallbackDue = true → u.demand.fallback = true)) :
    (settle u).hasFault d j = u.hasFault d j := by
  rw [Bool.eq_iff_iff]
  refine ⟨settle_hasFault_only hd, fun hf => ?_⟩
  rw [hasFault_iff] at hf ⊢
  obtain ⟨e, he, hc, hj⟩ := hf
  exact ⟨e, settle_fault_mem he (hc ▸ hd) (h.imp id .inl), hc, hj⟩

/-- A fault raised at severity 2 or above, or of a latched code, on a list with room, stays through the judgements of a state with that
list. -/
theorem settle_raised {c : FaultCode} {k n : Nat} (hc : c ≠ .demandLost) (h2 : 2 ≤ n ∨ c.latched = true)
    (h : s.faults.list.length < 8) (hl : u.faults.list = (raiseFault c k n s).faults.list) : (settle u).hasFault c k = true := by
  by_cases hs : s.hasFault c k = true
  · have hr : (raiseFault c k n s).faults.list = s.faults.list := by rw [raiseFault, if_pos hs]
    rw [hr] at hl
    rw [settle_hasFault hc (.inl (by rw [hl]; exact h)), hasFault_congr hl]
    exact hs
  · rw [raiseFault_list] at hl
    rcases raisedList_cases { code := c, subject := k, severity := n, onset := min s.now Config.onsetTop } s.faults.list with
      ⟨-, hx | h8⟩ | ⟨hx, -⟩ | ⟨x, -, -, -, h8, -⟩
    · exact absurd ((hasFault_iff ..).mpr hx) hs
    · omega
    · rw [hx] at hl
      refine (hasFault_iff ..).mpr ⟨_, settle_fault_mem (hl ▸ List.mem_append_right _ (.head _)) hc (.inr (.inr ?_)), rfl, rfl⟩
      intro x hm hxc hxk
      rw [hl, List.mem_append, List.mem_singleton] at hm
      rcases hm with hm | rfl
      · exact absurd ((hasFault_iff ..).mpr ⟨x, hm, hxc, hxk⟩) hs
      · exact h2
    · omega

/-! ### The judgements and the other blocks -/

/-- Two states that agree in what an event's own effect writes agree in the Seat Controller but for the offer timer. -/
theorem seat_of_primary (h : t.primary = s.primary) : t.seat = { s.seat with offer := t.seat.offer } :=
  (congrArg (fun v : State => { v.seat with offer := t.seat.offer }) h :)

/-- Of the Seat Controller the judgements change the offer timer alone. -/
theorem settle_seat (u : State) : (settle u).seat = { u.seat with offer := (settle u).seat.offer } :=
  seat_of_primary (settle_primary u)

/-- Of the line they change the queue with what goes with it. -/
theorem line_of_primary (h : t.primary = s.primary) :
    t.line = { s.line with
      queue := t.line.queue, followOn := t.line.followOn, overflow := t.line.overflow, nextId := t.line.nextId } :=
  (congrArg (fun v : State => { v.line with
      queue := t.line.queue, followOn := t.line.followOn, overflow := t.line.overflow, nextId := t.line.nextId }) h :)

/-- Of the roster they change the fault summary of the own entry. -/
theorem entries_of_primary (h : t.primary = s.primary) :
    Table.modify t.roster.entries s.seat.ownSeat (fun e => { e with fault := none }) =
      Table.modify s.roster.entries s.seat.ownSeat fun e => { e with fault := none } := by
  have ho : t.seat.ownSeat = s.seat.ownSeat := (primary_fields h).2.2.2.2.2.2.2.2.1
  have he := congrArg (·.roster.entries) h
  simp only [State.primary, State.unfaulted, State.unqueued] at he
  rw [ho] at he
  exact he

theorem get_of_primary (h : t.primary = s.primary) {q : Nat} (hq : q ≠ s.seat.ownSeat) :
    Table.get t.roster.entries q = Table.get s.roster.entries q := by
  have he := congrArg (fun l => Table.get l q) (entries_of_primary h)
  simpa only [Table.get_modify, if_neg hq] using he

theorem getOwn_of_primary (h : t.primary = s.primary) :
    (Table.get t.roster.entries s.seat.ownSeat).map (fun e => { e with fault := none }) =
      (Table.get s.roster.entries s.seat.ownSeat).map fun e => { e with fault := none } := by
  have he := congrArg (fun l => Table.get l s.seat.ownSeat) (entries_of_primary h)
  simpa only [Table.get_modify, if_pos] using he

/-! ### The judgements of an unseated station -/

/-- An unseated station's judgements leave what its owners hold and, of the line, all but the next entry's number. -/
structure Hushed (s t : State) : Prop where
  roster : t.roster = s.roster
  relay : t.body.relay = s.body.relay
  port : t.port = s.port
  line : t.line = { s.line with nextId := t.line.nextId }
  seat : t.seat = s.seat
  active : t.demand.active = s.demand.active
  repeatTimer : t.demand.repeatTimer = s.demand.repeatTimer

theorem Hushed.refl (s : State) : Hushed s s := ⟨rfl, rfl, rfl, rfl, rfl, rfl, rfl⟩

theorem Hushed.unseated (h : Hushed s t) (hs : s.seated = false) : t.seated = false := by
  rw [State.seated, h.seat]
  exact hs

theorem Hushed.trans (h : Hushed s t) (k : Hushed t u) : Hushed s u where
  roster := k.roster.trans h.roster
  relay := k.relay.trans h.relay
  port := k.port.trans h.port
  line := by rw [k.line, h.line]
  seat := k.seat.trans h.seat
  active := k.active.trans h.active
  repeatTimer := k.repeatTimer.trans h.repeatTimer

/-- A frame that the stage does not allow goes nowhere (R4). -/
theorem offer_refused {f : Frame} (h : s.queueTakes f = false) :
    offer f s = { s with line := { s.line with nextId := s.line.nextId + 1 } } :=
  if_neg (by rw [show State.queueTakes { s with line := { s.line with nextId := s.line.nextId + 1 } } f = s.queueTakes f from rfl, h]; simp)

theorem queueTakes_unseated {f : Frame} (h : s.seated = false) (hf : f.isSeatClaim = false) : s.queueTakes f = false := by
  unfold State.queueTakes
  cases hg : s.seat.stage <;> simp_all [State.seated, Stage.seated]

theorem offer_hushed {f : Frame} (h : s.seated = false) (hf : f.isSeatClaim = false) : Hushed s (offer f s) := by
  rw [offer_refused (queueTakes_unseated h hf)]
  exact ⟨rfl, rfl, rfl, rfl, rfl, rfl, rfl⟩

theorem unserving_of_unseated (h : s.seated = false) : s.serving = false := by
  unfold State.serving
  cases hg : s.seat.stage <;> simp_all [State.seated, Stage.seated, Stage.serving]

theorem judgeOwn_hushed (h : s.seated = false) : Hushed s (judgeOwn s) := by
  simp only [judgeOwn]
  split
  · exact .refl s
  · have hv : ∀ v : State, v.seat = s.seat → sendChange v = v := fun v hv => by
      unfold sendChange
      rw [if_pos (by rw [State.serving, hv]; simpa [State.serving] using unserving_of_unseated h)]
    rw [hv]
    · exact ⟨rfl, rfl, rfl, rfl, rfl, rfl, rfl⟩
    · rfl

theorem endRun_hushed (o : BodyOutcome) (n : Nat) (h : s.seated = false) : Hushed s (endRun o s n) := by
  unfold endRun
  split
  · have h1 : Hushed s (stopRun n o s) := by
      have h2 : Hushed s (modBody n (fun c => { c with running := false, timer := .stopped, outcome := o }) s) :=
        ⟨rfl, rfl, rfl, rfl, rfl, rfl, rfl⟩
      exact h2.trans (judgeOwn_hushed h)
    exact h1.trans (offer_hushed (h1.unseated h) rfl)
  · exact .refl s

theorem endRuns_hushed (o : BodyOutcome) (p : BodyCfg → Bool) (h : s.seated = false) : Hushed s (endRuns o p s) := by
  unfold endRuns
  generalize bodyNumbers.filter (fun n => p (s.bodyCfg n)) = l
  induction l generalizing s with
  | nil => exact .refl s
  | cons n l ih =>
    have h1 := endRun_hushed o n h
    exact h1.trans (ih (h1.unseated h))

/-- Clearing at an unseated station touches the fault list alone. -/
theorem clearFault_unseated (c : FaultCode) (k : Nat) (h : s.seated = false) :
    ∃ l, clearFault c k s = { s with faults := { s.faults with list := l } } := by
  unfold clearFault
  split
  · exact ⟨s.faults.list, rfl⟩
  · split
    · exact ⟨s.faults.list, rfl⟩
    · next x _ =>
      refine ⟨s.faults.list.filter fun y => !(y.code == x.code && y.subject == x.subject), ?_⟩
      simp only [removeFault, queueFault, setFaultList, h, Bool.false_eq_true, if_false]
      rw [if_neg]
      simpa [State.serving] using unserving_of_unseated h

/-- An unseated station has no fallback to begin. -/
theorem judgeFallback_hushed (h : s.seated = false) : Hushed s (judgeFallback s) := by
  have hf : s.fallbackDue = false := by simp [State.fallbackDue, unserving_of_unseated h]
  simp only [judgeFallback, hf]
  split
  · exact .refl s
  · obtain ⟨l, hl⟩ := clearFault_unseated (s := { s with demand := { s.demand with fallback := false } }) .demandLost 0 h
    simp only [Bool.false_eq_true, if_false, hl]
    exact ⟨rfl, rfl, rfl, rfl, rfl, rfl, rfl⟩

theorem judgeSets_hushed (h : s.seated = false) : Hushed s (judgeSets s) := by
  have h0 : Hushed s (judgeView s) := ⟨rfl, rfl, rfl, rfl, rfl, rfl, rfl⟩
  have h1 : Hushed s (endWithdrawn (judgeView s)) := by
    refine h0.trans ?_
    unfold endWithdrawn
    split
    · exact .refl _
    · exact endRuns_hushed _ _ h
  have h2 : Hushed s (endMotion (endWithdrawn (judgeView s))) := by
    refine h1.trans ?_
    unfold endMotion
    split
    · exact endRuns_hushed _ _ (h1.unseated h)
    · exact .refl _
  have h3 := h2.trans (judgeOwn_hushed (h2.unseated h))
  have h4 := h3.trans (judgeFallback_hushed (h3.unseated h))
  have h5 : Hushed s (judgeEff (judgeFallback (judgeOwn (endMotion (endWithdrawn (judgeView s)))))) :=
    h4.trans ⟨rfl, rfl, rfl, rfl, rfl, rfl, rfl⟩
  have h6 : Hushed s (endPark (judgeEff (judgeFallback (judgeOwn (endMotion (endWithdrawn (judgeView s))))))) := by
    refine h5.trans ?_
    unfold endPark
    split
    · exact .refl _
    · exact endRuns_hushed _ _ (h5.unseated h)
  exact h6.trans (judgeOwn_hushed (h6.unseated h))

/-- The offer's judgement at an unseated station withdraws a SEAT OFFER, where its timer runs. -/
theorem judgeOffer_unseated (h : s.seated = false) :
    judgeOffer s =
      if s.seat.offer.isRunning then withdraw Frame.isOffer { s with seat := { s.seat with offer := .stopped } } else s := by
  have hd : s.offerDue = false := by simp [State.offerDue, unserving_of_unseated h]
  simp only [judgeOffer, hd, Bool.false_eq_true, if_false]

/-- The judgements before the offer's at an unseated station. -/
theorem judged_hushed (h : u.seated = false) : Hushed u (judgeLamps (judgeGates (judgeEff (judgeSets u)))) := by
  have h1 := judgeSets_hushed h
  generalize judgeSets u = v at h1 ⊢
  exact h1.trans ⟨rfl, rfl, rfl, rfl, rfl, rfl, rfl⟩

/-- DEMAND sending stands as it did after an unseated station's judgements. -/
theorem settle_unseated_sending (h : u.seated = false) :
    (settle u).demand.active = u.demand.active ∧ (settle u).demand.repeatTimer = u.demand.repeatTimer := by
  have h3 := judged_hushed h
  rw [settle_eq]
  generalize judgeLamps (judgeGates (judgeEff (judgeSets u))) = w at h3
  have hd : (judgeOffer w).demand = w.demand := (unqueued_fields (judgeOffer_keeps w).1).2.2.2.2.2.2.1
  rw [hd]
  exact ⟨h3.active, h3.repeatTimer⟩

/-- What an unseated station's judgements leave: the roster, the relay, the port, and of the line all but a pending SEAT OFFER. -/
theorem settle_unseated (h : u.seated = false) :
    (settle u).roster = u.roster ∧ (settle u).body.relay = u.body.relay ∧ (settle u).port = u.port ∧
    (settle u).line =
      { u.line with
        nextId := (settle u).line.nextId
        queue :=
          if u.seat.offer.isRunning then u.line.queue.filter fun e => e.inFlight || !e.frame.isOffer else u.line.queue } := by
  have h3 := judged_hushed h
  rw [settle_eq]
  generalize judgeLamps (judgeGates (judgeEff (judgeSets u))) = w at h3
  rw [judgeOffer_unseated (h3.unseated h), h3.seat]
  split
  · refine ⟨h3.roster, h3.relay, h3.port, ?_⟩
    simp only [withdraw, State.setQueue]
    rw [h3.line]
  · exact ⟨h3.roster, h3.relay, h3.port, h3.line⟩

end Sys2Proof.Machine
end

section
/-! SUPPORT. The frames of chapter 1 received: PROBE and its answers, the SEAT OFFER (O21, O18). -/

namespace Sys2Proof.Machine

variable {s t u : State}

/-- A frame of any kind but MARK with an allowed length and a sender position in 1..8 is valid. -/
theorem frameValid_of {own k p : Nat} {d : List Byte} (hk : k ≠ 1) (h1 : 1 ≤ p) (h8 : p ≤ 8)
    (hd : lengthOk k (byteAt d 0).toNat d.length = true) : frameValid own k p d = true :=
  (frameValid_iff ..).mpr ⟨hd, .inl ⟨h1, h8⟩, fun h => absurd h hk⟩

/-- A valid frame has its effect, with the judgements after it. -/
theorem ReceivedAs.next {c : Instr} {k p : Nat} {d : List Byte} {f : State → State} (h : ReceivedAs s c k p d f)
    (hp : s.power = .running) (hv : frameValid s.phase.period k p d = true) :
    exec c s = .next (settle (f (frameHeard k p d s))) :=
  (exec_of_receivedAs h).trans (receive_valid s f hp hv)

/-- The same for a sender position in 1..8. -/
theorem ReceivedAs.next_of {c : Instr} {k p : Nat} {d : List Byte} {f : State → State} (h : ReceivedAs s c k p d f)
    (hp : s.power = .running) (hk : k ≠ 1) (h1 : 1 ≤ p) (h8 : p ≤ 8)
    (hd : lengthOk k (byteAt d 0).toNat d.length = true) :
    exec c s = .next (settle (f (frameHeard k p d s))) :=
  h.next hp (frameValid_of hk h1 h8 hd)

theorem lengthOk_sub {k : Nat} {b : Byte} {d : List Byte} (m : Nat) (hb : b.toNat = m) (h : lengthOk k m (d.length + 1) = true) :
    lengthOk k (byteAt (b :: d) 0).toNat (b :: d).length = true := by
  rw [show byteAt (b :: d) 0 = b from rfl, hb]
  exact h

/-! ### Claims -/

/-- Of the retention record the judgements change the channels alone. -/
theorem retention_of_primary (h : t.primary = s.primary) :
    t.retention = { s.retention with channels := t.retention.channels } :=
  (congrArg (fun v : State => { v.retention with channels := t.retention.channels }) h :)

@[simp] theorem frameHeard_queue (k p : Nat) (d : List Byte) : (frameHeard k p d s).line.queue = s.line.queue :=
  (congrArg (·.queue) (s.line.heard_keeps k p d) :)

@[simp] theorem frameHeard_nextId (k p : Nat) (d : List Byte) : (frameHeard k p d s).line.nextId = s.line.nextId :=
  (congrArg (·.nextId) (s.line.heard_keeps k p d) :)

@[simp] theorem frameHeard_mute (k p : Nat) (d : List Byte) : (frameHeard k p d s).line.mute = s.line.mute :=
  (congrArg (·.mute) (s.line.heard_keeps k p d) :)

theorem queueClaim_seat (n : Nat) (b : Bool) (s : State) :
    (queueClaim n b s).seat =
      { s.seat with
        stage := .claiming, claimed := n, claim := .pending, claimId := s.line.nextId, claimRejoin := b } := by
  simp [queueClaim]

theorem queueClaim_primary (n : Nat) (b : Bool) (s : State) :
    (queueClaim n b s).primary =
      State.primary
        { s with
          seat :=
            { s.seat with
              stage := .claiming, claimed := n, claim := .pending, claimId := s.line.nextId, claimRejoin := b } } :=
  offer_primary ..

/-- The own claim enters a queue that has room. -/
theorem queueClaim_queue (n : Nat) (b : Bool) (h : s.line.queue.length < 8) :
    (queueClaim n b s).line.queue =
      insertEntry
        { id := s.line.nextId, frame := .seatClaim n s.loader.identity s.loader.profile.cls b, inFlight := false, dying := false }
        s.line.queue :=
  congrArg (fun v : State => v.line.queue) (if_pos h)

theorem queueClaim_unseated (n : Nat) (b : Bool) (s : State) : (queueClaim n b s).seated = false := by
  rw [State.seated, queueClaim_seat]
  rfl

/-- The claim stands after the judgements of its event. -/
theorem settle_queueClaim_seat (n : Nat) (b : Bool) (s : State) :
    (settle (queueClaim n b s)).seat =
      { s.seat with
        stage := .claiming, claimed := n, claim := .pending, claimId := s.line.nextId, claimRejoin := b
        offer := (settle (queueClaim n b s)).seat.offer } := by
  rw [settle_seat, queueClaim_seat]

/-- On an empty queue the claim is the one frame. -/
theorem settle_queueClaim_frames (n : Nat) (b : Bool) (h : s.line.queue = []) :
    (settle (queueClaim n b s)).line.queue.map Entry.frame =
      [.seatClaim n s.loader.identity s.loader.profile.cls b] := by
  obtain ⟨-, -, -, hl⟩ := settle_unseated (queueClaim_unseated n b s)
  have hq := queueClaim_queue n b (s := s) (by simp [h])
  rw [hl]
  dsimp only
  rw [hq, h]
  split <;> rfl

/-- The entry inserted is the one of its number. -/
theorem filter_insertEntry_same {e : Entry} {q : List Entry} (h : ∀ x ∈ q, x.id ≠ e.id) :
    (insertEntry e q).filter (fun x => x.id == e.id) = [e] := by
  induction q with
  | nil => simp [insertEntry]
  | cons x r ih =>
    have hx : (x.id == e.id) = false := by simpa using h x (.head _)
    have hr : r.filter (fun y => y.id == e.id) = [] := by
      simpa [List.filter_eq_nil_iff] using fun y hy => h y (List.mem_cons_of_mem _ hy)
    unfold insertEntry
    split
    · simp [hx, hr]
    · simp only [List.filter_cons, hx, Bool.false_eq_true, if_false]
      exact ih fun y hy => h y (.tail _ hy)

/-- The others stand as they did. -/
theorem filter_insertEntry_other {e : Entry} {q : List Entry} (h : ∀ x ∈ q, x.id ≠ e.id) :
    (insertEntry e q).filter (fun x => x.id != e.id) = q := by
  induction q with
  | nil => simp [insertEntry]
  | cons x r ih =>
    have hx : (x.id != e.id) = true := by simpa using h x (.head _)
    have hr : r.filter (fun y => y.id != e.id) = r := by
      simpa [List.filter_eq_self] using fun y hy => h y (List.mem_cons_of_mem _ hy)
    unfold insertEntry
    split
    · simp [hx, hr]
    · simp only [List.filter_cons, hx, if_true]
      rw [ih fun y hy => h y (.tail _ hy)]

/-- The conditions of R14 other than the stage. -/
theorem mayAccept_iff (p n : Nat) :
    s.mayAccept p n = true ↔
      s.seat.head = false ∧ s.seat.seatIn = true ∧ s.loader.identity ≠ 0 ∧ s.line.mute = false ∧ n = p + 1 ∧ n ≤ 8 := by
  simp [State.mayAccept, State.hasIdentity, and_assoc]

/-- The state from which the new claim is offered. -/
def claimYielded (s : State) : State :=
  retainSeat 0 { withdrawId s.seat.claimId s with seat := { s.seat with rejoin := none } }

/-- A warm rejoin claim that waits gives way to one for the seat offered (R24). -/
def givenWay (n : Nat) (s : State) : State := queueClaim n false (claimYielded s)

theorem givenWay_seat (n : Nat) (s : State) :
    (settle (givenWay n s)).seat =
      { s.seat with
        stage := .claiming, rejoin := none, claimed := n, claim := .pending, claimId := s.line.nextId, claimRejoin := false
        offer := (settle (givenWay n s)).seat.offer } :=
  settle_queueClaim_seat n false (claimYielded s)

theorem givenWay_primary (n : Nat) (s : State) :
    (settle (givenWay n s)).primary =
      State.primary
        { s with
          seat :=
            { s.seat with
              stage := .claiming, rejoin := none, claimed := n, claim := .pending, claimId := s.line.nextId
              claimRejoin := false }
          retention := { s.retention with valid := true, seat := 0 } } :=
  (settle_primary _).trans ((queueClaim_primary n false (claimYielded s)).trans rfl)

theorem givenWay_retention (n : Nat) (s : State) : (settle (givenWay n s)).retention.seat = 0 := by
  have h := givenWay_primary n s
  generalize settle (givenWay n s) = t at h
  rw [retention_of_primary h]

/-- The old claim leaves the queue, and the new one enters the place it leaves. -/
theorem givenWay_queue (n : Nat) (ho : s.seat.offer.isRunning = false)
    (hp : s.pendingId s.seat.claimId = true) (h8 : s.line.queue.length ≤ 8) :
    (settle (givenWay n s)).line.queue =
      insertEntry
        { id := s.line.nextId, frame := .seatClaim n s.loader.identity s.loader.profile.cls false
          inFlight := false, dying := false }
        (s.line.queue.filter fun e => e.inFlight || e.id != s.seat.claimId) := by
  obtain ⟨-, -, -, hl⟩ := settle_unseated (queueClaim_unseated n false (claimYielded s))
  have hlen : (claimYielded s).line.queue.length < 8 := by
    refine Nat.lt_of_lt_of_le (List.length_filter_lt_length_iff_exists.mpr ?_) h8
    obtain ⟨e, he, hc⟩ := List.any_eq_true.mp hp
    exact ⟨e, he, by simpa [and_comm] using hc.symm⟩
  have hq := queueClaim_queue n false hlen
  have hr : (queueClaim n false (claimYielded s)).seat.offer.isRunning = false := by rw [queueClaim_seat]; exact ho
  rw [show givenWay n s = queueClaim n false (claimYielded s) from rfl, hl]
  dsimp only
  rw [hr, if_neg Bool.false_ne_true]
  exact hq

theorem acceptOffer_listen {n : Nat} (h : s.seat.stage = .listen) : acceptOffer n s = queueClaim n false s := by
  simp only [acceptOffer, h]

theorem acceptOffer_standalone {n : Nat} (h : s.seat.stage = .standalone) :
    acceptOffer n s =
      queueClaim n false
        { s with seat := { s.seat with fallbackMark := true, unseated := Timer.start Config.unseatedMs } } := by
  simp only [acceptOffer, h]

theorem acceptOffer_claiming {n r : Nat} (h : s.seat.stage = .claiming) (hr : s.seat.rejoin = some r)
    (hc : s.seat.claim = .pending) (hj : s.seat.claimRejoin = true) (hn : n ≠ r) : acceptOffer n s = givenWay n s := by
  simp only [acceptOffer, h, hr, hc, hj, withdrawClaim, givenWay, claimYielded, if_pos, true_and, if_pos hn]

theorem acceptOffer_ignored {n : Nat} (h1 : s.seat.stage ≠ .listen) (h2 : s.seat.stage ≠ .standalone)
    (h3 : ¬(s.seat.stage = .claiming ∧
      ∃ r, s.seat.rejoin = some r ∧ s.seat.claimRejoin = true ∧ s.seat.claim = .pending ∧ n ≠ r)) :
    acceptOffer n s = s := by
  unfold acceptOffer
  split
  · next h => exact absurd h h1
  · next h => exact absurd h h2
  · next h =>
    split
    · rfl
    · next r hr =>
      refine if_neg fun hc => h3 ⟨h, r, hr, ?_⟩
      obtain ⟨hp, hj, hn⟩ := hc
      exact ⟨hj, hp, hn⟩
  all_goals rfl

end Sys2Proof.Machine

open Sys2Proof Sys2Proof.Machine

/-- Settles O21, by the conditions of R27 at the station asked and at the one that asks. -/
theorem probesAnswered : Obligations.ProbesAnswered := by
  intro s n p hp h1 h8
  have ha := (ReceivedAs.probe (s := s) (p := n) (n := p)).next_of hp (by decide) h1 h8 rfl
  have hb := (ReceivedAs.probePresent (s := s) (p := n) (n := p)).next_of hp (by decide) h1 h8 rfl
  refine ⟨fun hs hlt => ?_, fun h => ?_, fun hd he hlt => ?_, fun h => ?_⟩
  · rw [ha, if_pos]
    simp only [Bool.and_eq_true, decide_eq_true_eq]
    exact ⟨hs, hlt⟩
  · rw [ha, if_neg]
    simp only [Bool.and_eq_true, decide_eq_true_eq, not_and]
    rintro (hs : s.seated = true)
    rcases h with h | h
    · rw [hs] at h; cases h
    · exact Nat.not_lt.mpr h
  · have hc : ((frameHeard 4 n.toNat [2, p] s).seat.departure.isRunning &&
        p.toNat == (frameHeard 4 n.toNat [2, p] s).seat.ownSeat &&
        decide ((frameHeard 4 n.toNat [2, p] s).seat.ownSeat < n.toNat)) = true := by
      simp only [Bool.and_eq_true, decide_eq_true_eq, beq_iff_eq]
      exact ⟨⟨hd, he⟩, hlt⟩
    rw [if_pos hc] at hb
    refine ⟨_, hb, fun k => ?_, ?_, ?_, ?_⟩
    · rw [settle_seat]
      exact mem_insertSorted ..
    · rw [settle_primary, settle_seat]
      rfl
    · rw [settle_seat]
      rfl
    · rw [settle_seat]
      rfl
  · rw [hb, if_neg]
    simp only [Bool.and_eq_true, decide_eq_true_eq, beq_iff_eq, not_and]
    rintro ⟨(hd : s.seat.departure.isRunning = true), (he : p.toNat = s.seat.ownSeat)⟩
    rcases h with h | h | h
    · rw [hd] at h; cases h
    · exact absurd he h
    · exact Nat.not_lt.mpr h

/-- Settles O18, by the stage in which the offer finds the station. -/
theorem seatOfferTaken : Obligations.SeatOfferTaken := by
  intro s n seat hp h1 h8 ok givesWay
  have he := (ReceivedAs.seatOffer (s := s) (p := n) (n := seat)).next_of hp (by decide) h1 h8 rfl
  have hok : (frameHeard 3 n.toNat [1, seat] s).mayAccept n.toNat seat.toNat = true ↔ ok := by
    rw [mayAccept_iff, frameHeard_mute]
    rfl
  have hq : (frameHeard 3 n.toNat [1, seat] s).line.queue = s.line.queue := frameHeard_queue ..
  have hi : (frameHeard 3 n.toNat [1, seat] s).line.nextId = s.line.nextId := frameHeard_nextId ..
  refine ⟨fun ho hg => ?_, fun ho hg ⟨r, hr, hj, hc, hn⟩ => ?_, fun h => ?_⟩
  · rw [if_pos (hok.mpr ho)] at he
    rcases hg with hg | hg
    · rw [acceptOffer_listen (show (frameHeard 3 n.toNat [1, seat] s).seat.stage = .listen from hg)] at he
      have hs := settle_queueClaim_seat seat.toNat false (frameHeard 3 n.toNat [1, seat] s)
      refine ⟨_, he, ?_, ?_, ?_, ?_, ?_, ?_, ?_, ?_⟩
      any_goals rw [hs]
      · intro h
        rw [h] at hg
        cases hg
      · exact fun _ => ⟨rfl, rfl⟩
      · exact fun h => settle_queueClaim_frames _ _ (hq.trans h)
      · rw [settle_primary, queueClaim_primary, hi]
        rfl
    · rw [acceptOffer_standalone (show (frameHeard 3 n.toNat [1, seat] s).seat.stage = .standalone from hg)] at he
      have hs := settle_queueClaim_seat seat.toNat false
        { frameHeard 3 n.toNat [1, seat] s with
          seat :=
            { (frameHeard 3 n.toNat [1, seat] s).seat with
              fallbackMark := true, unseated := Timer.start Config.unseatedMs } }
      refine ⟨_, he, ?_, ?_, ?_, ?_, ?_, ?_, ?_, ?_⟩
      any_goals rw [hs]
      · exact fun _ => ⟨rfl, rfl⟩
      · intro h
        rw [h] at hg
        cases hg
      · exact fun h => settle_queueClaim_frames _ _ (hq.trans h)
      · rw [settle_primary, queueClaim_primary]
        dsimp only
        rw [hi]
        rfl
  · rw [if_pos (hok.mpr ho), acceptOffer_claiming (s := frameHeard 3 n.toNat [1, seat] s) (r := r) hg hr hc hj hn] at he
    have hs := givenWay_seat seat.toNat (frameHeard 3 n.toNat [1, seat] s)
    have hpr := givenWay_primary seat.toNat (frameHeard 3 n.toNat [1, seat] s)
    refine ⟨_, he, ?_, ?_, ?_, ?_, ?_, ?_, ?_, ?_, ?_, ?_⟩
    any_goals rw [hs]
    · exact givenWay_retention ..
    · rfl
    · exact hi
    · rw [hpr]
      refine congrArg State.primary ?_
      rw [hi]
      simp [frameHeard, hg, hc]
    · intro hset hf hpend hl8
      have ho : s.seat.offer.isRunning = false := by
        rw [hset.offer]
        simp [State.offerDue, State.serving, hg, Stage.serving]
      have hqueue := givenWay_queue (s := frameHeard 3 n.toNat [1, seat] s) seat.toNat ho
        (by rw [State.pendingId, hq]; exact hpend) (by rw [hq]; exact hl8)
      rw [hqueue, hq, hi]
      have hfresh : ∀ x ∈ s.line.queue.filter fun e => e.inFlight || e.id != s.seat.claimId, x.id ≠ s.line.nextId :=
        fun x hx => Nat.ne_of_lt (hf x (List.mem_of_mem_filter hx))
      exact ⟨filter_insertEntry_same (e := { id := s.line.nextId, frame := _, inFlight := _, dying := _ }) hfresh,
        filter_insertEntry_other (e := { id := s.line.nextId, frame := _, inFlight := _, dying := _ }) hfresh⟩
  · rw [he]
    by_cases ho : ok
    · rw [if_pos (hok.mpr ho)]
      obtain ⟨h1, h2, h3⟩ := h.resolve_left (not_not_intro ho)
      rw [acceptOffer_ignored (s := frameHeard 3 n.toNat [1, seat] s) h1 h2 h3]
    · rw [if_neg (mt hok.mp ho)]

end

section
/-! SUPPORT. Departure (chapter 1) and what it makes of the rear end (chapter 6): O16. -/

namespace Sys2Proof.Machine

variable {s t u w : State}

/-! ### Tables and completeness -/

theorem Table.holds_iff_mem {α : Type} (t : Table α) (p : Nat) : Table.holds t p = true ↔ p ∈ t.map Prod.fst := by
  induction t with
  | nil => simp [Table.holds]
  | cons e r ih =>
    obtain ⟨k, v⟩ := e
    by_cases h : k = p
    · simp [Table.holds, Table.get, h]
    · simp only [Table.holds, Table.get, if_neg h, List.map_cons, List.mem_cons, Ne.symm h, false_or] at ih ⊢
      exact ih

theorem lampHealth_eq (s : State) :
    s.lampHealth = (s.loader.profile.lamps.zip (s.lamps.channels.map Channel.health)).map fun e => (e.1.function, e.2) := by
  rw [State.lampHealth, List.zip_map_right, List.map_map]
  rfl

theorem rearComplete_congr (hl : t.loader = s.loader) (hc : t.lamps.channels.map Channel.health = s.lamps.channels.map Channel.health) :
    t.rearComplete = s.rearComplete := by
  simp only [State.rearComplete, State.serves, lampHealth_eq, hl, hc]

/-- The judgements leave every channel's health, and with it the rear group's completeness. -/
theorem health_of_primary (h : t.primary = s.primary) :
    t.lamps.channels.map Channel.health = s.lamps.channels.map Channel.health := by
  have hc : t.lamps.channels.map Channel.unjudged = s.lamps.channels.map Channel.unjudged := (congrArg (·.lamps.channels) h :)
  simpa [List.map_map, Function.comp_def, Channel.unjudged] using congrArg (List.map Channel.health) hc

theorem rearComplete_of_primary (h : t.primary = s.primary) : t.rearComplete = s.rearComplete :=
  rearComplete_congr (primary_fields h).2.2.1 (health_of_primary h)

/-! ### The rear end -/

theorem primary_withRear (h : t.primary = s.primary) (r : RearEnd) :
    State.primary { t with rear := r } = State.primary { s with rear := r } :=
  (congrArg (fun v : State => { v with rear := r }) h :)

theorem raiseIfDeficient_unfaulted : (raiseIfDeficient s).unfaulted = s.unfaulted := by
  unfold raiseIfDeficient
  split
  · rfl
  · exact raiseFault_unfaulted ..

/-- The rear end after a DEPART of the positions (R130). -/
def rearDeparted (l : List Nat) (s : State) : RearEnd :=
  if s.seated && l.contains (s.seat.ownSeat + 1) && !l.contains s.seat.ownSeat then
    { status :=
        if s.rear.status = .retained then (if s.seat.presIn then .pending else .holder) else s.rear.status
      neighbour := none }
  else s.rear

theorem rearDepart_unfaulted (l : List Nat) (s : State) :
    (rearDepart l s).unfaulted = State.unfaulted { s with rear := rearDeparted l s } := by
  unfold rearDepart rearDeparted
  split
  · dsimp only [setNeighbour]
    by_cases hr : s.rear.status = .retained
    · rw [if_pos hr, if_pos hr]
      cases s.seat.presIn with
      | true => rfl
      | false => exact raiseIfDeficient_unfaulted.trans rfl
    · rw [if_neg hr, if_neg hr]
  · rfl

/-- REAR-DEFICIENT is raised where a RETAINED station is left a HOLDER with its group incomplete. -/
theorem rearDepart_raises {l : List Nat}
    (hc : (s.seated && l.contains (s.seat.ownSeat + 1) && !l.contains s.seat.ownSeat) = true)
    (hr : s.rear.status = .retained) (hp : s.seat.presIn = false) (hd : s.rearComplete = false) :
    ∃ v, v.faults = s.faults ∧ rearDepart l s = raiseFault .rearDeficient 0 2 v := by
  refine ⟨setRear .holder (setNeighbour none s), rfl, ?_⟩
  have hd' : (setRear .holder (setNeighbour none s)).rearComplete = false := hd
  unfold rearDepart
  rw [if_pos hc]
  dsimp only
  rw [if_pos (show (setNeighbour none s).rear.status = .retained from hr),
    if_neg (show ¬(setNeighbour none s).seat.presIn = true by rw [setNeighbour]; simp [hp]), raiseIfDeficient,
    if_neg (by simp [hd'])]

/-- Otherwise the fault list stays. -/
theorem rearDepart_faults {l : List Nat} (h : s.rear.status ≠ .retained ∨ s.seat.presIn = true ∨ s.rearComplete = true) :
    (rearDepart l s).faults = s.faults := by
  unfold rearDepart
  split
  · dsimp only
    split
    · next hr =>
      split
      · rfl
      · next hp =>
        have hd : (setRear .holder (setNeighbour none s)).rearComplete = true :=
          (h.resolve_left (not_not_intro hr)).resolve_left hp
        rw [raiseIfDeficient, if_pos hd]
        rfl
    · rfl
  · rfl

/-- The rear end after the own UNCOUPLED DEPART (R129). -/
theorem rearUncoupled_unfaulted (s : State) :
    (rearUncoupled s).unfaulted =
      State.unfaulted
        { s with rear := { status := if s.joined = true then .holder else s.rear.status, neighbour := none } } := by
  unfold rearUncoupled
  dsimp only
  rw [show (setNeighbour none s).joined = s.joined from rfl]
  cases s.joined with
  | true => exact raiseIfDeficient_unfaulted.trans rfl
  | false => rfl

/-! ### A DEPART applied -/

/-- The tables after a DEPART of the positions (R29, R36). -/
def departed (l : List Nat) (s : State) : State :=
  let held := l.filter fun p => Table.holds s.roster.entries p
  { s with
    roster := { s.roster with entries := Table.erase s.roster.entries held, reasm := Table.erase s.roster.reasm l }
    demand := { s.demand with table := Table.erase s.demand.table held }
    sensor := { s.sensor with table := Table.erase s.sensor.table held } }

theorem applyDepart_eq (l : List Nat) (s : State) : applyDepart l s = rearDepart l (departed l s) := rfl

theorem applyDepart_unfaulted (l : List Nat) (s : State) :
    (applyDepart l s).unfaulted = State.unfaulted { departed l s with rear := rearDeparted l s } :=
  rearDepart_unfaulted l (departed l s)

/-- No entry stands at a position listed. -/
theorem departed_entry {l : List Nat} {p : Nat} (h : p ∈ l) : Table.get (departed l s).roster.entries p = none := by
  show Table.get (Table.erase _ _) p = none
  rw [Table.get_erase]
  split
  · rfl
  · next hn =>
    rw [← Table.holds_eq_false]
    simpa [h] using hn

/-- What a table of the positions holds after a DEPART. -/
theorem get_erase_held {α : Type} (t : Table α) (l : List Nat) (p : Nat) :
    Table.get (Table.erase t (l.filter fun q => Table.holds s.roster.entries q)) p =
      if p ∈ l ∧ Table.holds s.roster.entries p = true then none else Table.get t p := by
  rw [Table.get_erase]
  exact if_congr List.mem_filter rfl rfl

theorem departed_reasm (l : List Nat) (p : Nat) :
    Table.get (departed l s).roster.reasm p = if p ∈ l then none else Table.get s.roster.reasm p := by
  show Table.get (Table.erase _ _) p = _
  exact Table.get_erase ..

/-- What is left of a DEPART once the judgements are made. -/
theorem departed_of_primary {l : List Nat} {r : RearEnd} (h : t.primary = State.primary { departed l w with rear := r }) :
    t.roster.reasm = (departed l w).roster.reasm ∧ t.demand.table = (departed l w).demand.table ∧
    t.sensor.table = (departed l w).sensor.table ∧ t.rear = r ∧ t.seat = { w.seat with offer := t.seat.offer } ∧
    t.rearComplete = w.rearComplete ∧
    ∀ q, q ≠ w.seat.ownSeat → Table.get t.roster.entries q = Table.get (departed l w).roster.entries q := by
  obtain ⟨-, -, -, -, hr, -, -, -, -, -, -, -, -, -, hd, -, -, -, hs, -, -, hm, -⟩ := primary_fields h
  have hse := seat_of_primary h
  have hc := rearComplete_of_primary h
  exact ⟨hm, hd, hs, hr, hse, hc, fun q hq => get_of_primary h hq⟩

/-- The departure ends with the judgement of its answers. -/
theorem judgeDeparture_eq (s : State) :
    judgeDeparture s =
      if s.seat.answered.contains (s.seat.ownSeat + 1) then
        raiseFault .presenceFault (s.seat.ownSeat + 1) 2 { s with seat := { s.seat with departure := .stopped, answered := [] } }
      else if s.seat.answered.isEmpty then
        sendDepart ((s.roster.entries.map Prod.fst).filter fun k => decide (s.seat.ownSeat < k)) .uncoupled
          { s with seat := { s.seat with departure := .stopped, answered := [] } }
      else
        sendDepart [s.seat.ownSeat + 1] .stationLost
          { s with seat := { s.seat with departure := .stopped, answered := [] } } := rfl

theorem sendDepart_uncoupled (l : List Nat) (s : State) :
    sendDepart l .uncoupled s = rearUncoupled (applyDepart l (offer (.depart l .uncoupled) s)) := rfl

theorem sendDepart_stationLost (l : List Nat) (s : State) :
    sendDepart l .stationLost s = applyDepart l (offer (.depart l .stationLost) s) := rfl

/-- What the DEPART of the station behind leaves (R28 to R30). -/
theorem lost_departs {p : Nat} (hs : u.seated = true) (hp : p = u.seat.ownSeat)
    (hfs : t = settle (applyDepart [p + 1] (offer (.depart [p + 1] .stationLost) u))) :
    Table.get t.roster.entries (p + 1) = none ∧ Table.get t.roster.reasm (p + 1) = none ∧
      ((Table.get u.roster.entries (p + 1)).isSome = true →
        Table.get t.demand.table (p + 1) = none ∧ Table.get t.sensor.table (p + 1) = none) ∧
      (Table.get u.roster.entries (p + 1) = none →
        Table.get t.demand.table (p + 1) = Table.get u.demand.table (p + 1) ∧
        Table.get t.sensor.table (p + 1) = Table.get u.sensor.table (p + 1)) ∧
      t.seat.departure = u.seat.departure ∧ t.seat.answered = u.seat.answered ∧
      t.seat.stage = u.seat.stage ∧ t.rear.neighbour = none ∧
      (u.rear.status ≠ .retained → t.rear.status = u.rear.status) ∧
      (u.rear.status = .retained → u.seat.presIn = true → t.rear.status = .pending) ∧
      (u.rear.status = .retained → u.seat.presIn = false → t.rear.status = .holder ∧
        (u.rearComplete = false → u.faults.list.length < 8 → t.hasFault .rearDeficient 0 = true)) := by
  obtain ⟨-, -, hlo, -, hse, -, hde, hla, hre, hsn, hfa, -, -, hro, hrm, -⟩ :=
    offer_keeps u (.depart [p + 1] .stationLost)
  generalize offer (.depart [p + 1] .stationLost) u = w at *
  have hc : (w.seated && [p + 1].contains (w.seat.ownSeat + 1) && !([p + 1].contains w.seat.ownSeat)) = true := by
    simp [State.seated, hse, hp, show u.seat.stage.seated = true from hs]
  have hw : rearDeparted [p + 1] w =
      { status := if u.rear.status = .retained then (if u.seat.presIn then .pending else .holder) else u.rear.status
        neighbour := none } := by
    rw [rearDeparted, if_pos hc, hre, hse]
  have ht : t.primary = State.primary { departed [p + 1] w with rear := rearDeparted [p + 1] w } := by
    rw [hfs, settle_primary]
    exact primary_of_unfaulted (applyDepart_unfaulted ..)
  have hf : u.rear.status = .retained → u.seat.presIn = false → u.rearComplete = false → u.faults.list.length < 8 →
      t.hasFault .rearDeficient 0 = true := by
    intro h1 h2 h3 h4
    obtain ⟨v, hv, ha⟩ := rearDepart_raises (s := departed [p + 1] w) hc (hre ▸ h1) (hse ▸ h2)
      ((rearComplete_congr (t := departed [p + 1] w) (s := u) hlo (by rw [show (departed [p + 1] w).lamps = w.lamps from rfl, hla])).trans h3)
    rw [hfs]
    refine settle_raised (s := v) (n := 2) (by decide) (.inl (Nat.le_refl _)) ?_ ?_
    · rw [hv]
      exact hfa ▸ h4
    · rw [applyDepart_eq, ha]
  obtain ⟨h1, h2, h3, h4, h5, -, h7⟩ := departed_of_primary ht
  rw [hw] at h4
  have hm : p + 1 ∈ [p + 1] := .head _
  have hd : (departed [p + 1] w).demand.table = Table.erase w.demand.table ([p + 1].filter fun q => Table.holds w.roster.entries q) := rfl
  have hn : (departed [p + 1] w).sensor.table = Table.erase w.sensor.table ([p + 1].filter fun q => Table.holds w.roster.entries q) := rfl
  refine ⟨?_, ?_, fun h => ?_, fun h => ?_, ?_, ?_, ?_, ?_, fun h => ?_, fun h hp => ?_, fun h hp => ⟨?_, hf h hp⟩⟩
  · rw [h7 _ (by rw [hse]; exact hp ▸ Nat.succ_ne_self _), departed_entry hm]
  · rw [h1, departed_reasm, if_pos hm]
  · rw [h2, h3, hd, hn, get_erase_held, get_erase_held, if_pos ⟨hm, hro ▸ h⟩, if_pos ⟨hm, hro ▸ h⟩]
    exact ⟨rfl, rfl⟩
  · have hno : ¬(p + 1 ∈ [p + 1] ∧ Table.holds w.roster.entries (p + 1) = true) := by
      rw [hro, Table.holds, h]
      simp
    rw [h2, h3, hd, hn, get_erase_held, get_erase_held, if_neg hno, if_neg hno, hde, hsn]
    exact ⟨rfl, rfl⟩
  · rw [h5, hse]
  · rw [h5, hse]
  · rw [h5, hse]
  · rw [h4]
  · rw [h4, if_neg h]
  · rw [h4, if_pos h, if_pos hp]
  · rw [h4, if_pos h, if_neg (by simp [hp])]

/-- What the DEPART of the uncoupled stations leaves (R28, R29, R129). -/
theorem uncoupled_departs {p : Nat} {l : List Nat} (hp : p = u.seat.ownSeat)
    (hl : l = (u.roster.entries.map Prod.fst).filter fun k => decide (p < k))
    (hfs : t = settle (rearUncoupled (applyDepart l (offer (.depart l .uncoupled) u)))) :
    (∀ k, p < k → Table.get t.roster.entries k = none) ∧
      (∀ k ∈ l, Table.get t.roster.reasm k = none ∧ Table.get t.demand.table k = none ∧
        Table.get t.sensor.table k = none) ∧
      (u.seat.stage = .joined → t.rear.status = .holder) ∧ t.rear.neighbour = none ∧
      t.seat.departure = u.seat.departure ∧ t.seat.stage = u.seat.stage := by
  obtain ⟨-, -, hlo, -, hse, -, hde, hla, hre, hsn, hfa, -, -, hro, hrm, -⟩ := offer_keeps u (.depart l .uncoupled)
  generalize offer (.depart l .uncoupled) u = w at *
  have hv : (applyDepart l w).unfaulted = State.unfaulted { departed l w with rear := rearDeparted l w } :=
    applyDepart_unfaulted ..
  obtain ⟨-, -, -, -, hvs, -⟩ := unfaulted_fields hv
  have ht : t.primary = State.primary { departed l w with
      rear := { status := if (applyDepart l w).joined = true then .holder else (applyDepart l w).rear.status, neighbour := none } } := by
    rw [hfs, settle_primary, primary_of_unfaulted (rearUncoupled_unfaulted _)]
    exact primary_withRear (primary_of_unfaulted hv) _
  have hjo : (applyDepart l w).joined = (u.seat.stage == .joined) := by
    rw [State.joined, hvs]
    exact congrArg (fun x : SeatCtl => x.stage == .joined) hse
  obtain ⟨h1, h2, h3, h4, h5, -, h7⟩ := departed_of_primary ht
  have hd : (departed l w).demand.table = Table.erase w.demand.table (l.filter fun q => Table.holds w.roster.entries q) := rfl
  have hn : (departed l w).sensor.table = Table.erase w.sensor.table (l.filter fun q => Table.holds w.roster.entries q) := rfl
  have hheld : ∀ k ∈ l, k ∈ l ∧ Table.holds w.roster.entries k = true := fun k hk => by
    rw [hro, Table.holds_iff_mem]
    exact ⟨hk, List.mem_of_mem_filter (hl ▸ hk)⟩
  refine ⟨fun k hk => ?_, fun k hk => ?_, fun hg => ?_, ?_, ?_, ?_⟩
  · rw [h7 k (by rw [hse]; exact hp ▸ Nat.ne_of_gt hk)]
    by_cases hm : k ∈ l
    · exact departed_entry hm
    · have hno : Table.get w.roster.entries k = none := by
        rw [hro, ← Table.holds_eq_false, ← Bool.not_eq_true, Table.holds_iff_mem]
        exact fun hx => hm (hl ▸ List.mem_filter.mpr ⟨hx, by simpa using hk⟩)
      show Table.get (Table.erase _ _) k = none
      rw [get_erase_held, if_neg (fun hx => hm hx.1), hno]
  · rw [h1, departed_reasm, if_pos hk, h2, h3, hd, hn, get_erase_held, get_erase_held, if_pos (hheld k hk), if_pos (hheld k hk)]
    exact ⟨rfl, rfl, rfl⟩
  · rw [h4, hjo, hg]
    rfl
  · rw [h4]
  · rw [h5, hse]
  · rw [h5, hse]

end Sys2Proof.Machine

open Sys2Proof Sys2Proof.Machine

/-- Settles O16, by the three judgements of R28 over the tables' and the rear end's laws. -/
theorem departureJudged : Obligations.DepartureJudged := by
  intro s hp hs hd p u
  have he : exec .departureTimerExpiry s = .next (settle (judgeDeparture s)) :=
    whenRunning_admitted (fun s => s.seat.departure.isRunning && s.seated) hp (by simp [hd, hs])
  rw [judgeDeparture_eq] at he
  refine ⟨fun h => ?_, fun h0 h => ?_, fun h0 => ?_⟩
  · rw [he, if_pos (List.contains_iff_mem.mpr h)]
  · rw [if_neg (mt List.contains_iff_mem.mp h), if_neg (by simpa using h0), sendDepart_stationLost] at he
    exact ⟨_, he, rfl, lost_departs (u := u) hs rfl rfl⟩
  · rw [h0, if_neg (by simp), if_pos (by rfl), sendDepart_uncoupled] at he
    exact ⟨_, he, rfl, uncoupled_departs (u := u) rfl rfl rfl⟩

end

section
/-! SUPPORT. What ends with a seat and on entering CONFLICT (R4, R30, R186), and a DEPART received: O20. -/

namespace Sys2Proof.Machine

variable {s t u w : State}

/-! ### The queue emptied -/

/-- The queue has been emptied, and the owners have acted, since the state `u`. -/
structure Emptied (all : Bool) (u w : State) : Prop where
  line : w.line = { u.emptiedLine all with nextId := w.line.nextId }
  announce : w.roster.announce = none
  due : w.roster.due = false
  relay : w.body.relay = (emptyQueue all u).body.relay
  query : w.port.query = none
  answering : w.port.answering = none
  owed : w.port.owed = none
  outcome : w.port.queryOutcome = (emptyQueue all u).port.queryOutcome

theorem emptyQueue_emptied (all : Bool) (u : State) : Emptied all u (emptyQueue all u) :=
  ⟨rfl, rfl, rfl, rfl, rfl, rfl, rfl, rfl⟩

variable {all : Bool}

theorem Emptied.congr (h : Emptied all u w) (hl : t.line = { w.line with nextId := t.line.nextId })
    (ha : t.roster.announce = w.roster.announce) (hd : t.roster.due = w.roster.due) (hr : t.body.relay = w.body.relay)
    (hp : t.port = { w.port with attn := t.port.attn }) : Emptied all u t where
  line := by rw [hl, h.line]
  announce := ha.trans h.announce
  due := hd.trans h.due
  relay := hr.trans h.relay
  query := by rw [hp]; exact h.query
  answering := by rw [hp]; exact h.answering
  owed := by rw [hp]; exact h.owed
  outcome := by rw [hp]; exact h.outcome

/-- The judgements of an unseated station leave it so. -/
theorem Emptied.settled (h : Emptied all u w) (hs : w.seated = false) (ho : w.seat.offer.isRunning = false) :
    Emptied all u (settle w) := by
  obtain ⟨hr, hb, hp, hl⟩ := settle_unseated hs
  rw [ho] at hl
  refine h.congr ?_ (by rw [hr]) (by rw [hr]) hb (by rw [hp])
  rw [hl]
  rfl

theorem emptied_queue (h : Emptied all u w) : w.line.queue = (emptyQueue all u).line.queue := by
  rw [h.line]
  rfl

theorem Emptied.entries (h : Emptied all u w) : ∀ e ∈ w.line.queue,
    (e.completing ∧ u.ending = true) ∨ (all = false ∧ e.inFlight = false ∧ e.frame.isSeatClaim = true) := fun e he =>
  emptyQueue_entries u all e (emptied_queue h ▸ he)

theorem inFlight_isSome_iff : s.inFlight.isSome = true ↔ ∃ e ∈ s.line.queue, e.inFlight = true := by
  rw [State.inFlight, List.find?_isSome]

theorem Emptied.inFlight_eq (h : Emptied all u w) (he : u.ending = true) :
    w.inFlight = u.inFlight.map fun e => { e with dying := true } := by
  have hq : w.line.queue =
      (u.line.queue.filter fun e => (e.inFlight && u.ending) || (!all && !e.inFlight && e.frame.isSeatClaim)).map
        fun e => { e with dying := e.dying || e.inFlight } := by
    rw [h.line]
    rfl
  rw [State.inFlight, hq, he, State.inFlight]
  rw [List.find?_map, List.find?_filter]
  have hp : ∀ e : Entry, decide (((e.inFlight && true) || (!all && !e.inFlight && e.frame.isSeatClaim)) = true ∧
      e.inFlight = true) = e.inFlight := fun e => by cases e.inFlight <;> simp
  rw [show (fun e : Entry => decide (((e.inFlight && true) || (!all && !e.inFlight && e.frame.isSeatClaim)) = true ∧
      ((fun e : Entry => e.inFlight) ∘ fun e => { e with dying := e.dying || e.inFlight }) e = true)) = fun e => e.inFlight
    from funext hp]
  refine Option.map_congr fun e hm => ?_
  simp [List.find?_some hm]

theorem ending_inFlight (h : s.ending = true) : s.inFlight.isSome = true := by
  simp only [State.ending, Bool.and_eq_true] at h
  exact h.1

/-- A frame in its last End bit completes. -/
theorem Emptied.inFlight (h : Emptied all u w) (he : u.ending = true) : w.inFlight.isSome = true := by
  rw [h.inFlight_eq he, Option.isSome_map]
  exact ending_inFlight he

/-- A frame cut off ends in six dominant bits. -/
theorem Emptied.cut (h : Emptied all u w) (hp : w.power = .running) (hi : u.inFlight.isSome = true) (he : u.ending = false) :
    w.lineBits = List.replicate 6 false := by
  obtain ⟨hc, -⟩ := emptyQueue_cutOff u all hi he
  have hw : w.line.cutOff = 6 := by
    rw [h.line]
    exact hc
  simp [State.lineBits, hp, hw]

theorem relayEnding_iff : s.relayEnding = true ↔ s.ending = true ∧ ∃ e, s.inFlight = some e ∧ e.id = s.body.relay.frameId := by
  rw [State.relayEnding, Bool.and_eq_true]
  cases s.inFlight <;> simp

theorem Emptied.requestsEnded (h : Emptied all u w) : RequestsEnded u w where
  query := h.query
  noQuery hq := by rw [h.outcome]; simp [emptyQueue, hq]
  outcome q hq := by rw [h.outcome]; simp [emptyQueue, hq]
  answering := h.answering
  owed := h.owed
  waiting hw hn := by
    rw [← relayEnding_iff] at hn
    rw [h.relay]
    exact if_pos ⟨hw, by simpa using hn⟩
  relay hr := by
    rw [h.relay]
    refine if_neg fun hx => ?_
    rcases hr with hr | hr
    · exact hr hx.1
    · rw [← relayEnding_iff, hx.2] at hr
      cases hr

/-- What a request ends with is counted from before, where what it is counted from is the same. -/
theorem RequestsEnded.of_before (h : RequestsEnded u t) (hp : u.port = s.port) (hr : u.body.relay = s.body.relay)
    (hi : u.inFlight = s.inFlight) (he : u.ending = s.ending) : RequestsEnded s t := by
  obtain ⟨h1, h2, h3, h4, h5, h6, h7⟩ := h
  rw [hp] at h2 h3
  rw [hr, hi, he] at h6 h7
  exact ⟨h1, h2, h3, h4, h5, h6, h7⟩

/-- Emptying the queue once more changes nothing of it. -/
theorem Emptied.again (h : Emptied true u w) : Emptied true u (emptyQueue true w) := by
  have hent : ∀ e ∈ w.line.queue, e.completing ∧ u.ending = true := fun e he =>
    (h.entries e he).resolve_right fun hx => by cases hx.1
  have hend : u.ending = true → w.ending = true := fun he => by
    have hr : w.line.reception = u.line.reception := by
      rw [h.line]
      exact (emptyQueue_noCutOff u true (.inr he)).2
    have hi := h.inFlight he
    simp only [State.ending, Bool.and_eq_true] at he ⊢
    rw [hr]
    exact ⟨hi, he.2⟩
  have hcut : (w.inFlight.isSome && !w.ending) = false := by
    by_contra hc
    simp only [Bool.not_eq_false, Bool.and_eq_true, Bool.not_eq_true'] at hc
    obtain ⟨e, he, -⟩ := inFlight_isSome_iff.mp hc.1
    rw [hend (hent e he).2] at hc
    cases hc.2
  have hl : (emptyQueue true w).line = w.line := by
    have hq : (w.line.queue.filter fun e => (e.inFlight && w.ending) || (!true && !e.inFlight && e.frame.isSeatClaim)).map
        (fun e => { e with dying := e.dying || e.inFlight }) = w.line.queue := by
      rw [List.filter_eq_self.mpr fun e he => by simp [(hent e he).1.1, hend (hent e he).2]]
      refine (List.map_congr_left fun e he => ?_).trans (List.map_id _)
      show { e with dying := e.dying || e.inFlight } = e
      rw [(hent e he).1.2, Bool.true_or, ← (hent e he).1.2]
    have hf : w.line.followOn = [] := by rw [h.line]; rfl
    show w.emptiedLine true = w.line
    unfold State.emptiedLine
    rw [hq, hcut]
    simp only [Bool.false_eq_true, if_false]
    rw [← hf]
  have hr : (emptyQueue true w).body.relay = w.body.relay := by
    refine if_neg fun ⟨hw, hn⟩ => ?_
    have hu := h.relay
    by_cases hc : u.body.relay.state = .waiting ∧ u.relayEnding = false
    · rw [show (emptyQueue true u).body.relay = _ from if_pos hc] at hu
      rw [hu] at hw
      cases hw
    · rw [show (emptyQueue true u).body.relay = _ from if_neg hc] at hu
      rw [hu] at hw
      have hre := relayEnding_iff.mp (Bool.of_not_eq_false fun hx => hc ⟨hw, hx⟩)
      obtain ⟨he, e, hi, hid⟩ := hre
      rw [relayEnding_iff.mpr ⟨hend he, { e with dying := true }, by rw [h.inFlight_eq he, hi]; rfl, hid.trans (by rw [hu])⟩] at hn
      cases hn
  have ho : (emptyQueue true w).port.queryOutcome = w.port.queryOutcome := by simp [emptyQueue, h.query]
  exact { line := by rw [hl]; exact h.line, announce := rfl, due := rfl, relay := hr.trans h.relay, query := rfl
          answering := rfl, owed := rfl, outcome := ho.trans h.outcome }

/-! ### A frame heard -/

theorem frameHeard_inFlight (k p : Nat) (d : List Byte) (s : State) : (frameHeard k p d s).inFlight = s.inFlight := by
  rw [State.inFlight, frameHeard_queue, State.inFlight]

/-- A frame another station sends is heard no further once it has been read. -/
theorem LineUnit.heard_reception {l : LineUnit} (h : l.sending = false) (k p : Nat) (d : List Byte) :
    (l.heard k p d).reception = none := by
  have hr : (l.readOther (frameBits k p d)).sending = false := (l.readOther_heard _).sending.trans h
  rw [LineUnit.heard, LineUnit.dropHeard, if_neg (by simp [hr])]

theorem frameHeard_ending (k p : Nat) (d : List Byte) (s : State) : (frameHeard k p d s).ending = s.ending := by
  rw [State.ending, frameHeard_inFlight, State.ending]
  cases hs : s.line.sending with
  | true => rw [show (frameHeard k p d s).line = s.line from s.line.heard_sending hs k p d]
  | false =>
    have hr : (frameHeard k p d s).line.reception = none := s.line.heard_reception hs k p d
    have h0 : ((s.line.reception.map fun r => !r.receiving && r.rest.isEmpty).getD false) = false := by
      unfold LineUnit.sending at hs
      cases hx : s.line.reception with
      | none => rfl
      | some r =>
        rw [hx] at hs
        simpa using fun h => absurd hs (by simp [h])
    rw [hr, h0]
    rfl

/-! ### Faults raised and cleared at an unseated station -/

theorem setFaultList_unseated (l : List FaultEntry) (h : s.seated = false) :
    setFaultList l s = { s with faults := { s.faults with list := l } } := by
  simp [setFaultList, h]

theorem queueFault_unseated (e : FaultEntry) (r : Bool) (h : s.seated = false) : queueFault e r s = s :=
  if_neg (by simp [unserving_of_unseated h])

theorem attnForFault_eq (n : Nat) (s : State) : ∃ a, attnForFault n s = { s with port := { s.port with attn := a } } := by
  unfold attnForFault
  split
  · exact ⟨true, rfl⟩
  · exact ⟨s.port.attn, rfl⟩

theorem addFault_unseated (c : FaultCode) (k n : Nat) (h : s.seated = false) :
    ∃ f a, addFault c k n s = { s with faults := f, port := { s.port with attn := a } } := by
  unfold addFault
  dsimp only
  rw [setFaultList_unseated _ h, queueFault_unseated]
  swap
  · exact h
  obtain ⟨a, ha⟩ := attnForFault_eq n
    { s with faults := { s.faults with list := s.faults.list ++ [{ code := c, subject := k, severity := n, onset := min s.now Config.onsetTop }] } }
  exact ⟨_, a, ha⟩

theorem removeFault_unseated (e : FaultEntry) (h : s.seated = false) : ∃ f, removeFault e s = { s with faults := f } := by
  unfold removeFault
  rw [setFaultList_unseated _ h, queueFault_unseated]
  swap
  · exact h
  exact ⟨_, rfl⟩

/-- Raising at an unseated station touches the fault list and ATTN alone. -/
theorem raiseFault_unseated (c : FaultCode) (k n : Nat) (h : s.seated = false) :
    ∃ f a, raiseFault c k n s = { s with faults := f, port := { s.port with attn := a } } := by
  unfold raiseFault
  split
  · exact ⟨s.faults, s.port.attn, rfl⟩
  · split
    · exact addFault_unseated c k n h
    · split
      · next x _ =>
        obtain ⟨g, hx⟩ := removeFault_unseated x h
        obtain ⟨f, a, ha⟩ := addFault_unseated c k n (s := removeFault x s) (by rw [hx]; exact h)
        rw [ha, hx]
        exact ⟨{ f with overflow := true }, a, rfl⟩
      · exact ⟨_, s.port.attn, rfl⟩

theorem clearPresence_unseated (h : s.seated = false) :
    ∃ l, clearPresence s = { s with faults := { s.faults with list := l } } := by
  unfold clearPresence
  generalize s.faults.list.filter (fun e => e.code == .presenceFault) = q
  induction q generalizing s with
  | nil => exact ⟨s.faults.list, rfl⟩
  | cons e r ih =>
    obtain ⟨l, hl⟩ := clearFault_unseated (s := s) .presenceFault e.subject h
    obtain ⟨l', hl'⟩ := ih (s := clearFault .presenceFault e.subject s) (by rw [hl]; exact h)
    refine ⟨l', ?_⟩
    rw [List.foldl_cons, hl', hl]

/-! ### The seat left -/

theorem abandonCheck_eq (s : State) : abandonCheck s = { s with lamps := (abandonCheck s).lamps } := by
  unfold abandonCheck
  split <;> rfl

/-- Leaving the seat clears the faults that end with it and touches no more than the rest of R30. -/
theorem leaveSeat_unseated (g : Stage) (all : Bool) (hg : g.seated = false) (s : State) :
    ∃ l, leaveSeat g all s =
      { dropSeat g all (abandonCheck s) with faults := { (dropSeat g all (abandonCheck s)).faults with list := l } } := by
  rw [leaveSeat_eq]
  have h0 : (dropSeat g all (abandonCheck s)).seated = false := hg
  generalize dropSeat g all (abandonCheck s) = v at h0
  obtain ⟨l1, h1⟩ := clearFault_unseated .frontLinkLost 0 h0
  obtain ⟨l2, h2⟩ := clearPresence_unseated (s := clearFault .frontLinkLost 0 v) (by rw [h1]; exact h0)
  obtain ⟨l3, h3⟩ := clearFault_unseated (s := clearPresence (clearFault .frontLinkLost 0 v)) .combinationFull 0
    (by rw [h2, h1]; exact h0)
  obtain ⟨l4, h4⟩ := clearFault_unseated (s := clearFault .combinationFull 0 (clearPresence (clearFault .frontLinkLost 0 v)))
    .rearDeficient 0 (by rw [h3, h2, h1]; exact h0)
  exact ⟨l4, by rw [h4, h3, h2, h1]⟩

/-! ### The lamps of an unseated station -/

theorem judgeFrom_mem (n : Nat) (l : List Channel) {c : Channel} (h : c ∈ judgeFrom s n l) :
    ∃ d ∈ l, ∃ k, c = d.judge (s.functionOf k) (s.calledFor k) := by
  induction l generalizing n with
  | nil => cases h
  | cons d r ih =>
    rw [judgeFrom, List.mem_cons] at h
    rcases h with rfl | h
    · exact ⟨d, .head _, n, rfl⟩
    · obtain ⟨e, he, k⟩ := ih _ h
      exact ⟨e, .tail _ he, k⟩

/-- A dark channel of a steady function starts its steady timer as it goes lit. -/
theorem Channel.judge_dark {f : LampFn} {called : Bool} {c : Channel} (h : called = true → f.isFlash = false)
    (hl : c.lit = false) (hs : c.steady = none) :
    (c.judge f called).steady = if (c.judge f called).lit = true then some 0 else none := by
  cases called with
  | false => simp [Channel.judge, Channel.setLit, hl, hs]
  | true =>
    have hf := h rfl
    unfold Channel.judge
    split
    · simp [Channel.redrive, Channel.setLit, hl, hf]
    · unfold Channel.setLit
      split
      · simp [hl, hs]
      · next hne =>
        rw [hl] at hne
        simp_all

/-- What the fallback set lights of an unseated station whose channels were all off has just been lit. -/
theorem settle_dark (hg : u.seat.stage = .standalone ∨ u.seat.stage = .conflict)
    (h : ∀ c ∈ u.lamps.channels, c.lit = false ∧ c.steady = none) :
    ∀ c ∈ (settle u).lamps.channels, c.steady = if c.lit = true then some 0 else none := by
  obtain ⟨-, -, hl, hs⟩ := judgeSets_judged u
  rw [settle_eq]
  generalize judgeSets u = v at hl hs
  have hv : (judgeGates (judgeEff v)).seat.stage = .standalone ∨ (judgeGates (judgeEff v)).seat.stage = .conflict := by
    rw [show (judgeGates (judgeEff v)).seat = v.seat from rfl, hs]
    exact hg
  have hl' : (judgeGates (judgeEff v)).lamps = u.lamps := hl
  generalize judgeGates (judgeEff v) = w at hv hl'
  rw [show (judgeOffer (judgeLamps w)).lamps = (judgeLamps w).lamps from
    (unqueued_fields (judgeOffer_keeps _).1).2.2.2.2.2.2.2.1]
  intro c hc
  obtain ⟨d, hd, k, rfl⟩ := judgeFrom_mem (s := w) 1 _ hc
  rw [hl'] at hd
  refine Channel.judge_dark (fun hk => ?_) (h d hd).1 (h d hd).2
  have hf : w.fallbackCalls (w.functionOf k) = true := by
    rcases hv with hv | hv <;> simpa only [State.calledFor, hv] using hk
  cases hfn : w.functionOf k <;> simp_all [State.fallbackCalls, LampFn.isFlash]

/-! ### The seat end as the judgements leave it -/

theorem Emptied.of_base {u' : State} (h : Emptied all u' w) (hl : u'.line = u.line) (hr : u'.body.relay = u.body.relay)
    (hp : u'.port = u.port) : Emptied all u w := by
  have hin : u'.inFlight = u.inFlight := by rw [State.inFlight, hl, State.inFlight]
  have hend : u'.ending = u.ending := by rw [State.ending, hin, hl, State.ending]
  have hli : u'.emptiedLine all = u.emptiedLine all := by simp only [State.emptiedLine, hin, hend, hl]
  have hre : u'.relayEnding = u.relayEnding := by simp only [State.relayEnding, hin, hend, hr]
  refine ⟨hli ▸ h.line, h.announce, h.due, h.relay.trans ?_, h.query, h.answering, h.owed, h.outcome.trans ?_⟩
  · simp only [emptyQueue, hr, hre]
  · simp only [emptyQueue, hp]

theorem sensor_of_primary (h : t.primary = s.primary) : t.sensor = { s.sensor with view := t.sensor.view } :=
  (congrArg (fun v : State => { v.sensor with view := t.sensor.view }) h :)

theorem Timer.eq_stopped {m : Timer} (h : m.isRunning = false) : m = .stopped := by
  cases m with
  | stopped => rfl
  | running e l => cases h

theorem settle_offer_unseated (h : u.seated = false) : (settle u).seat.offer = .stopped := by
  refine Timer.eq_stopped ((settle_settled u).offer.trans ?_)
  have hs : (settle u).serving = false := by
    rw [State.serving, (settle_keeps u).2.2.2.2.2.2.2.1]
    exact unserving_of_unseated h
  simp [State.offerDue, hs]

/-- What is left with a seat stands so after the judgements. -/
theorem seatLeft_settled (he : Emptied all u w) (hs : w.seated = false) (ho : w.seat.offer.isRunning = false)
    (hc : w.sensor.countsTimer = .stopped) (ha : w.sensor.analogTimer = .stopped)
    (hp : w.phase = { s.phase with syncTimer := .stopped, adoption := none })
    (hd : w.demand.repeatTimer = .stopped ∧ w.demand.active = false)
    (hq : u.port = s.port) (hr : u.body.relay = s.body.relay) (hi : u.inFlight = s.inFlight) (hn : u.ending = s.ending) :
    SeatLeft s (settle w) := by
  have ht := he.settled hs ho
  have hsen := sensor_of_primary (settle_primary w)
  obtain ⟨hda, hdr⟩ := settle_unseated_sending hs
  have hph := (settle_keeps w).2.2.2.1
  generalize settle w = v at *
  exact
    { toRequestsEnded := ht.requestsEnded.of_before hq hr hi hn
      counts := by rw [hsen]; exact hc
      analog := by rw [hsen]; exact ha
      phase := hph.trans hp
      demand := ⟨hdr.trans hd.1, hda.trans hd.2⟩
      announce := ⟨ht.announce, ht.due⟩ }

/-- Outside JOINED no body channel runs once the judgements are made. -/
theorem settle_idle (h : u.joined = false) : ∀ k ∈ bodyNumbers, ((settle u).bodyChannel k).running = false := by
  intro k hk
  by_contra hr
  have hj := ((settle_settled u).runs k hk (Bool.of_not_eq_false hr)).1
  rw [State.joined, (settle_keeps u).2.2.2.2.2.2.2.1] at hj
  rw [State.joined, hj] at h
  cases h

/-- A check abandoned leaves none under way, and of one that was every channel off. -/
theorem abandonCheck_lamps (s : State) :
    (abandonCheck s).lamps.check = none ∧
    (s.seat.stage = .checking → ∀ c ∈ (abandonCheck s).lamps.channels, c.lit = false ∧ c.steady = none) := by
  refine ⟨abandonCheck_check, fun h c hc => ?_⟩
  rw [abandonCheck, if_pos h] at hc
  obtain ⟨d, -, rfl⟩ := List.mem_map.mp hc
  exact ⟨rfl, rfl⟩

/-! ### A DEPART received -/

/-- The own seat ended by a DEPART of the positions, with the faults that stay. -/
def selfDeparted (l : List Nat) (f : FaultList) (s : State) : State :=
  enterStandalone
    { dropSeat .standalone false { departed l s with lamps := (abandonCheck (departed l s)).lamps } with faults := f }

theorem takeDepart_own {l : List Nat} (hs : s.seated = true) (ho : s.seat.ownSeat ∈ l) :
    ∃ f, takeDepart l s = selfDeparted l f s := by
  have ha : applyDepart l s = departed l s := by
    rw [applyDepart_eq, rearDepart, if_neg]
    simp [departed, ho]
  obtain ⟨f, hf⟩ := leaveSeat_unseated .standalone false rfl (departed l s)
  refine ⟨{ s.faults with list := f }, ?_⟩
  rw [takeDepart, if_pos (by simp [hs, ho]), ha, departSelf, hf, abandonCheck_eq]
  rfl

theorem takeDepart_other {l : List Nat} (h : s.seated = false ∨ s.seat.ownSeat ∉ l) : takeDepart l s = applyDepart l s := by
  rw [takeDepart, if_neg]
  rcases h with h | h <;> simp [h]

theorem selfDeparted_emptied (l : List Nat) (f : FaultList) (s : State) : Emptied false s (selfDeparted l f s) :=
  Emptied.of_base (u' := { departed l s with
      lamps := (abandonCheck (departed l s)).lamps
      seat := { s.seat with stage := .standalone, ownSeat := 0, reseat := true } })
    ((emptyQueue_emptied false _).congr rfl rfl rfl rfl rfl) rfl rfl rfl

/-- What the seat end leaves once the judgements are made. -/
theorem selfDeparted_settled {l : List Nat} {f : FaultList} (hfs : t = settle (selfDeparted l f u)) (hp : u.power = .running)
    (hq : u.port = s.port) (hr : u.body.relay = s.body.relay) (hi : u.inFlight = s.inFlight) (hn : u.ending = s.ending)
    (hph : u.phase = s.phase) :
    t.seat.stage = .standalone ∧ t.seat.ownSeat = 0 ∧ t.seatOut = false ∧ t.retention.seat = 0 ∧
      t.seat.offer = .stopped ∧ t.seat.departure = .stopped ∧ t.seat.reseat = true ∧ t.rear.status = .none ∧
      t.rear.neighbour = none ∧ t.lamps.check = none ∧ SeatLeft s t ∧
      (∀ e ∈ t.line.queue, (e.frame.isSeatClaim = true ∧ e.inFlight = false) ∨ (e.completing ∧ s.ending = true)) ∧
      (s.ending = true → t.inFlight.isSome = true) ∧
      (s.inFlight.isSome = true → s.ending = false → t.lineBits = List.replicate 6 false) ∧
      (u.seat.stage = .checking → ∀ ch ∈ t.lamps.channels, ch.steady = if ch.lit = true then some 0 else none) ∧
      (∀ k ∈ bodyNumbers, (t.bodyChannel k).running = false) := by
  have hem := selfDeparted_emptied l f u
  have hse : (selfDeparted l f u).seat.stage = .standalone := rfl
  have hte := hem.settled rfl rfl
  have hleft : SeatLeft s t := hfs ▸ seatLeft_settled hem rfl rfl rfl rfl (by rw [← hph]; rfl) ⟨rfl, rfl⟩ hq hr hi hn
  have hoff : t.seat.offer = .stopped := hfs ▸ settle_offer_unseated rfl
  have hseat := settle_seat (selfDeparted l f u)
  obtain ⟨hpo, -, -, -, hre, -, -, hst, -, -, -, -, -, hrs, -, -, -, hch, -⟩ := settle_keeps (selfDeparted l f u)
  rw [← hfs] at hte hseat hpo hre hst hrs hch
  have hpt : t.power = .running := hpo.trans hp
  refine ⟨hst, ?_, ?_, hrs, hoff, ?_, ?_, ?_, ?_, ?_, hleft, ?_, ?_, ?_, ?_, ?_⟩
  · rw [hseat]; rfl
  · rw [State.seatOut, State.seated, hst]; simp [hse, Stage.seated]
  · rw [hseat]; rfl
  · rw [hseat]; rfl
  · rw [hre]; rfl
  · rw [hre]; rfl
  · rw [hch]
    exact (abandonCheck_lamps _).1
  · intro e he
    rcases hte.entries e he with hx | ⟨-, hx, hc⟩
    · exact .inr (hn ▸ hx)
    · exact .inl ⟨hc, hx⟩
  · exact fun he => hte.inFlight (hn ▸ he)
  · exact fun h1 h2 => hte.cut hpt (hi ▸ h1) (hn ▸ h2)
  · intro hg
    rw [hfs]
    exact settle_dark (.inl rfl) ((abandonCheck_lamps (departed l u)).2 hg)
  · rw [hfs]
    exact settle_idle rfl

/-- What a DEPART leaves of the positions' entries and tables. -/
structure DepartedTables (l : List Nat) (s t : State) : Prop where
  listed : ∀ p, p ∈ l → Table.get t.roster.entries p = none ∧ Table.get t.roster.reasm p = none ∧
    ((Table.get s.roster.entries p).isSome = true →
      Table.get t.demand.table p = none ∧ Table.get t.sensor.table p = none) ∧
    (Table.get s.roster.entries p = none →
      Table.get t.demand.table p = Table.get s.demand.table p ∧
      Table.get t.sensor.table p = Table.get s.sensor.table p)
  others : ∀ p, p ∉ l → p ≠ s.seat.ownSeat →
    Table.get t.roster.entries p = Table.get s.roster.entries p ∧
    Table.get t.demand.table p = Table.get s.demand.table p ∧
    Table.get t.sensor.table p = Table.get s.sensor.table p
  reasm : ∀ p, p ∉ l → Table.get t.roster.reasm p = Table.get s.roster.reasm p

/-- The tables by what is kept of them. -/
theorem departedTables_of {l : List Nat} (hm : t.roster.reasm = (departed l s).roster.reasm)
    (hd : t.demand.table = (departed l s).demand.table) (hs : t.sensor.table = (departed l s).sensor.table)
    (hl : ∀ p ∈ l, Table.get t.roster.entries p = none)
    (ho : ∀ p, p ≠ s.seat.ownSeat → Table.get t.roster.entries p = Table.get (departed l s).roster.entries p) :
    DepartedTables l s t := by
  have hd' : t.demand.table = Table.erase s.demand.table (l.filter fun q => Table.holds s.roster.entries q) := hd
  have hs' : t.sensor.table = Table.erase s.sensor.table (l.filter fun q => Table.holds s.roster.entries q) := hs
  have he : (departed l s).roster.entries =
      Table.erase s.roster.entries (l.filter fun q => Table.holds s.roster.entries q) := rfl
  refine ⟨fun p hp => ⟨hl p hp, ?_, fun h => ?_, fun h => ?_⟩, fun p hp hne => ?_, fun p hp => ?_⟩
  · rw [hm, departed_reasm, if_pos hp]
  · rw [hd', hs', get_erase_held, get_erase_held, if_pos ⟨hp, h⟩, if_pos ⟨hp, h⟩]
    exact ⟨rfl, rfl⟩
  · have hno : ¬(p ∈ l ∧ Table.holds s.roster.entries p = true) := by simp [Table.holds, h]
    rw [hd', hs', get_erase_held, get_erase_held, if_neg hno, if_neg hno]
    exact ⟨rfl, rfl⟩
  · have hno : ¬(p ∈ l ∧ Table.holds s.roster.entries p = true) := fun h => hp h.1
    rw [ho p hne, hd', hs', he, get_erase_held, get_erase_held, get_erase_held, if_neg hno, if_neg hno, if_neg hno]
    exact ⟨rfl, rfl, rfl⟩
  · rw [hm, departed_reasm, if_neg hp]

theorem selfDeparted_tables {l : List Nat} {f : FaultList} (hfs : t = settle (selfDeparted l f s)) :
    DepartedTables l s t := by
  obtain ⟨hr, -⟩ := settle_unseated (u := selfDeparted l f s) rfl
  obtain ⟨-, -, -, -, -, -, -, -, -, -, -, -, -, -, hd, -, -, -, hs, -⟩ := settle_keeps (selfDeparted l f s)
  rw [← hfs] at hr hd hs
  have he (p : Nat) : Table.get t.roster.entries p =
      if p ∈ [s.seat.ownSeat] then none else Table.get (departed l s).roster.entries p := by
    rw [hr]
    exact Table.get_erase ..
  refine departedTables_of (by rw [hr]; rfl) hd hs (fun p hp => ?_) (fun p hp => ?_)
  · rw [he, departed_entry hp]
    split <;> rfl
  · rw [he, if_neg (by simpa using hp)]

/-- What a DEPART that leaves the own seat makes of the station once the judgements are made. -/
theorem applyDepart_settled {l : List Nat} (hfs : t = settle (applyDepart l s)) :
    DepartedTables l s t ∧ t.seat = { s.seat with offer := t.seat.offer } ∧ t.retention.seat = s.retention.seat ∧
      t.phase = s.phase ∧ t.rearComplete = s.rearComplete ∧ t.rear = rearDeparted l s := by
  have ht : t.primary = State.primary { departed l s with rear := rearDeparted l s } := by
    rw [hfs, settle_primary]
    exact primary_of_unfaulted (applyDepart_unfaulted ..)
  obtain ⟨hm, hd, hs, hr, hse, hc, ho⟩ := departed_of_primary ht
  have hown := getOwn_of_primary ht
  obtain ⟨-, -, -, hp, -, -, -, -, -, -, -, -, -, hrs, -⟩ := primary_fields ht
  refine ⟨departedTables_of hm hd hs (fun p hp => ?_) ho, hse, hrs, hp, hc, hr⟩
  by_cases hps : p = s.seat.ownSeat
  · subst hps
    exact Option.map_eq_none_iff.mp (hown.trans (Option.map_eq_none_iff.mpr (departed_entry hp)))
  · rw [ho p hps, departed_entry hp]

/-- The rear end of a station behind whose position a DEPART lists. -/
theorem rearDeparted_behind {l : List Nat} (hs : s.seated = true) (ho : s.seat.ownSeat ∉ l) (h : s.seat.ownSeat + 1 ∈ l) :
    rearDeparted l s =
      { status := if s.rear.status = .retained then (if s.seat.presIn then .pending else .holder) else s.rear.status
        neighbour := none } :=
  if_pos (by simp [hs, ho, h])

/-- REAR-DEFICIENT after the DEPART. -/
theorem applyDepart_deficient {l : List Nat} (hfs : t = settle (applyDepart l s)) (h8 : s.faults.list.length < 8) :
    (s.seated = true → s.seat.ownSeat ∉ l → s.seat.ownSeat + 1 ∈ l → s.rear.status = .retained → s.seat.presIn = false →
        s.rearComplete = false → t.hasFault .rearDeficient 0 = true) ∧
      (s.rear.status ≠ .retained ∨ s.seat.presIn = true ∨ s.rearComplete = true →
        t.hasFault .rearDeficient 0 = s.hasFault .rearDeficient 0) := by
  refine ⟨fun hs ho hb hr hp hc => ?_, fun h => ?_⟩
  · have hcond : ((departed l s).seated && l.contains ((departed l s).seat.ownSeat + 1) &&
        !(l.contains (departed l s).seat.ownSeat)) = true := by
      simp [departed, State.seated, ho, hb, show s.seat.stage.seated = true from hs]
    obtain ⟨v, hv, ha⟩ := rearDepart_raises (s := departed l s) hcond hr hp hc
    rw [hfs]
    refine settle_raised (s := v) (n := 2) (by decide) (.inl (Nat.le_refl _)) ?_ ?_
    · rw [hv]
      exact h8
    · rw [applyDepart_eq, ha]
  · have hf : (applyDepart l s).faults = s.faults := rearDepart_faults (s := departed l s) h
    rw [hfs, settle_hasFault (by decide) (.inl (by rw [hf]; exact h8))]
    exact hasFault_congr (by rw [hf]) ..

end Sys2Proof.Machine

open Sys2Proof Sys2Proof.Machine

/-- Settles O20, by whether the DEPART lists the own seat of a seated station. -/
theorem departApplied : Obligations.DepartApplied := by
  intro s n b r hp h1 h8
  have he := (ReceivedAs.depart (s := s) (p := n) (l := b) (r := r)).next_of hp (by decide) h1 h8 rfl
  have hi := frameHeard_inFlight 2 n.toNat [b, r] s
  have hn := frameHeard_ending 2 n.toNat [b, r] s
  by_cases hown : s.seated = true ∧ s.seat.ownSeat ∈ positionsOf b
  · obtain ⟨hs, ho⟩ := hown
    obtain ⟨f, hf⟩ := takeDepart_own (s := frameHeard 2 n.toNat [b, r] s) (l := positionsOf b) hs ho
    rw [hf] at he
    generalize hfs : settle (selfDeparted (positionsOf b) f (frameHeard 2 n.toNat [b, r] s)) = t at he
    have htab := selfDeparted_tables hfs.symm
    have hgone := selfDeparted_settled (s := s) hfs.symm hp rfl rfl hi hn rfl
    refine ⟨t, he, htab.listed, htab.others, htab.reasm, fun _ _ => hgone, fun h => ?_, fun _ h => absurd ho h, fun h => ?_⟩
    · exact absurd (h.resolve_right (not_not_intro ho)) (by simp [hs])
    · exact absurd (h.resolve_right fun hx => hx.1 ho) (by simp [hs])
  · have hor : s.seated = false ∨ s.seat.ownSeat ∉ positionsOf b := by
      rwa [not_and_or, Bool.not_eq_true] at hown
    rw [takeDepart_other (s := frameHeard 2 n.toNat [b, r] s) hor] at he
    generalize hfs : settle (applyDepart (positionsOf b) (frameHeard 2 n.toNat [b, r] s)) = t at he
    obtain ⟨htab, hse, hrs, hph, hc, hr⟩ := applyDepart_settled hfs.symm
    refine ⟨t, he, htab.listed, htab.others, htab.reasm, fun hs ho => absurd ⟨hs, ho⟩ hown, fun _ => ?_, fun hs ho hb => ?_,
      fun h => ?_⟩
    · exact ⟨by rw [hse]; rfl, by rw [hse]; rfl, hrs, hph⟩
    · rw [rearDeparted_behind (s := frameHeard 2 n.toNat [b, r] s) hs ho hb] at hr
      have hdef := applyDepart_deficient hfs.symm
      refine ⟨by rw [hr], hc, fun h => by rw [hr]; exact if_neg h, fun h hpr => by rw [hr]; exact (if_pos h).trans (if_pos hpr),
        fun h hpr => ⟨by rw [hr]; exact (if_pos h).trans (if_neg (by rw [show (frameHeard 2 n.toNat [b, r] s).seat.presIn = s.seat.presIn from rfl]; simp [hpr])), fun hco hl => (hdef hl).1 hs ho hb h hpr hco⟩,
        fun h hl => (hdef hl).2 h⟩
    · rw [hr]
      refine if_neg ?_
      rcases h with h | ⟨-, h⟩
      · simp [show (frameHeard 2 n.toNat [b, r] s).seated = false from h]
      · simp [show (frameHeard 2 n.toNat [b, r] s).seat.ownSeat + 1 ∉ positionsOf b from h]

end

section
/-! SUPPORT. CONFLICT entered, and the two timers of an unseated station: O13. -/

namespace Sys2Proof.Machine

variable {s t u v w : State}

/-! ### CONFLICT -/

theorem enterConflict_eq (n : Nat) (s : State) :
    enterConflict n s = raiseFault .seatConflict n 3 (startConflict (if s.seated then leaveSeat .conflict true s else s)) := rfl

/-- What a station in CONFLICT has, from the state in which it is already without a seat. -/
structure Conflicted (n : Nat) (v t : State) : Prop where
  seat : t.seat =
    { v.seat with
      stage := .conflict, ownSeat := 0, rejoin := none, claimed := 0, claim := .none, fallbackMark := false
      expiryHeld := false, headListen := .stopped, unseated := .stopped, window := .stopped
      offer := .stopped, departure := .stopped, answered := [] }
  retained : t.retention.seat = 0
  phase : t.phase = v.phase
  rear : t.rear = v.rear
  check : t.lamps.check = v.lamps.check
  table : t.demand.table = v.demand.table
  power : t.power = v.power
  entries : t.roster.entries = v.roster.entries
  reasm : t.roster.reasm = v.roster.reasm
  emptied : Emptied true v t
  fault : v.faults.list.length < 8 → t.hasFault .seatConflict n = true

theorem startConflict_emptied (v : State) : Emptied true v (startConflict v) :=
  Emptied.of_base (emptyQueue_emptied true _) rfl rfl rfl

theorem conflicted {n : Nat} (hfs : t = settle (raiseFault .seatConflict n 3 (startConflict v))) : Conflicted n v t := by
  have hs : (startConflict v).seated = false := rfl
  obtain ⟨f, a, hr⟩ := raiseFault_unseated .seatConflict n 3 hs
  have hoff := settle_offer_unseated (u := raiseFault .seatConflict n 3 (startConflict v)) (by rw [hr]; rfl)
  have hem := (startConflict_emptied v).congr (t := raiseFault .seatConflict n 3 (startConflict v))
    (by rw [hr]) (by rw [hr]) (by rw [hr]) (by rw [hr]) (by rw [hr])
  have hset := hem.settled (by rw [hr]; rfl) (by rw [hr]; rfl)
  obtain ⟨hro, -⟩ := settle_unseated (u := raiseFault .seatConflict n 3 (startConflict v)) (by rw [hr]; rfl)
  have hseat := settle_seat (raiseFault .seatConflict n 3 (startConflict v))
  obtain ⟨hpo, -, -, hph, hre, -, -, -, -, -, -, -, -, hrs, hd, -, -, hch, -⟩ :=
    settle_keeps (raiseFault .seatConflict n 3 (startConflict v))
  rw [← hfs] at hoff hset hro hseat hpo hph hre hrs hd hch
  refine ⟨?_, ?_, ?_, ?_, ?_, ?_, ?_, ?_, ?_, hset, fun h => ?_⟩
  · rw [hseat, hoff, hr]; rfl
  · rw [hrs, hr]; rfl
  · rw [hph, hr]; rfl
  · rw [hre, hr]; rfl
  · rw [hch, hr]; rfl
  · rw [hd, hr]; rfl
  · rw [hpo, hr]; rfl
  · rw [hro, hr]; rfl
  · rw [hro, hr]; rfl
  · rw [hfs]
    exact settle_raised (s := startConflict v) (by decide) (.inl (by decide)) h rfl

/-! ### The unseated timer -/

theorem claimed_retention (n : Nat) (b : Bool) (s : State) :
    (settle (queueClaim n b s)).retention.seat = s.retention.seat := by
  rw [(settle_keeps _).2.2.2.2.2.2.2.2.2.2.2.2.2.1, queueClaim]
  simp

theorem withdrawClaim_eq (s : State) :
    withdrawClaim s =
      { s with line := { s.line with queue := if s.seat.claim = .pending then (withdrawId s.seat.claimId s).line.queue else s.line.queue } } := by
  unfold withdrawClaim
  split <;> rfl

/-- The pending claim has gone. -/
theorem withdrawClaim_pendingId (h : s.seat.claim = .pending) : (withdrawClaim s).pendingId s.seat.claimId = false := by
  rw [State.pendingId, Bool.eq_false_iff, ne_eq, List.any_eq_true]
  rintro ⟨e, he, hc⟩
  rw [withdrawClaim, if_pos h] at he
  have hw := (List.mem_filter.mp he).2
  simp_all

/-- The unseated timer's STANDALONE, once the judgements are made (R7, R8, R15). -/
theorem seatUnavailable_settled (hfs : t = settle (seatUnavailable v)) :
    t.seat =
        { v.seat with
          stage := .standalone, ownSeat := 0, rejoin := none, claimed := 0, claim := .none, fallbackMark := false
          expiryHeld := false, headListen := .stopped, unseated := .stopped, window := .stopped, offer := .stopped
          departure := .stopped, answered := [] } ∧
      t.retention.seat = 0 ∧ t.retention.valid = true ∧ t.phase = v.phase ∧ t.body.relay = v.body.relay ∧
      t.port = { v.port with attn := t.port.attn } ∧ t.line.queue = (withdrawClaim v).line.queue ∧
      (v.faults.list.length < 8 → t.hasFault .seatUnavailable 0 = true) := by
  have hw := withdrawClaim_eq v
  have hu : seatUnavailable v = raiseFault .seatUnavailable 0 2 (enterStandalone (withdrawClaim v)) := rfl
  generalize withdrawClaim v = w at hw hu
  obtain ⟨f, a, hr⟩ := raiseFault_unseated (s := enterStandalone w) .seatUnavailable 0 2 rfl
  rw [hu] at hfs
  have hus : (raiseFault .seatUnavailable 0 2 (enterStandalone w)).seated = false := by rw [hr]; rfl
  have hoff := settle_offer_unseated hus
  obtain ⟨-, hbo, hpo, hli⟩ := settle_unseated hus
  have hseat := settle_seat (raiseFault .seatUnavailable 0 2 (enterStandalone w))
  have hret := retention_of_primary (settle_primary (raiseFault .seatUnavailable 0 2 (enterStandalone w)))
  have hph := (settle_keeps (raiseFault .seatUnavailable 0 2 (enterStandalone w))).2.2.2.1
  rw [← hfs] at hoff hbo hpo hli hseat hret hph
  refine ⟨?_, ?_, ?_, ?_, ?_, ?_, ?_, fun h => ?_⟩
  · rw [hseat, hoff, hr, hw]; rfl
  · rw [hret, hr]; rfl
  · rw [hret, hr]; rfl
  · rw [hph, hr, hw]; rfl
  · rw [hbo, hr, hw]; rfl
  · rw [hpo, hr, hw]; rfl
  · rw [hli, hr]; rfl
  · rw [hfs]
    refine settle_raised (s := enterStandalone w) (by decide) (.inl (by decide)) ?_ rfl
    rw [hw]
    exact h

end Sys2Proof.Machine

open Sys2Proof Sys2Proof.Machine

/-- Settles O13, by the outcomes of the two expiries. -/
theorem unseatedTimersDecide : Obligations.UnseatedTimersDecide := by
  intro s hp
  refine ⟨fun hg hr => ?_, fun hr hg => ?_⟩
  · have he : exec .headListenExpiry s = .next (settle (headListenOver s)) :=
      whenRunning_admitted (fun s => s.seat.headListen.isRunning && s.seat.stage == .listen) hp (by simp [hr, hg])
    have hun : ∀ m, State.seated { s with seat := { s.seat with headListen := m } } = false := fun m => by
      simp [State.seated, hg, Stage.seated]
    refine ⟨fun h => ?_, fun h hi hm => ?_, fun h hx => ?_⟩
    · rw [headListenOver, if_pos h, enterConflict_eq, if_neg (by simp [hun])] at he
      generalize hfs : settle _ = t at he
      have hc := conflicted hfs.symm
      have hend := hc.emptied.entries
      refine ⟨t, he, ?_⟩
      rw [hc.seat]
      exact ⟨rfl, rfl, rfl, rfl, rfl, fun e hm => (hend e hm).resolve_right fun hx => (by cases hx.1), rfl, rfl, hc.retained,
        hc.emptied.requestsEnded.of_before rfl rfl rfl rfl, hc.phase, hc.fault⟩
    · rw [headListenOver, if_neg (by simp [h]), if_pos (by simpa [State.hasIdentity, hm] using hi)] at he
      refine ⟨_, he, ?_⟩
      rw [settle_queueClaim_seat]
      exact ⟨rfl, rfl, rfl, rfl, rfl, rfl, claimed_retention .., fun hq => settle_queueClaim_frames 1 false hq⟩
    · rw [headListenOver, if_neg (by simp [h]), if_neg] at he
      · exact ⟨_, he, settle_primary _⟩
      · rcases hx with hx | hx <;> simp [State.hasIdentity, hx]
  · have he : exec .unseatedTimerExpiry s = .next (settle (unseatedOver s)) :=
      whenRunning_admitted (fun s => s.seat.unseated.isRunning && (s.seat.stage == .listen || s.seat.stage == .claiming)) hp
        (by rcases hg with hg | hg <;> simp [hr, hg])
    refine ⟨fun h => ?_, fun h => ?_⟩
    · rw [unseatedOver, if_neg (by simpa using h)] at he
      generalize hfs : settle _ = t at he
      obtain ⟨h1, h2, h3, h4, h5, h6, h7, h8⟩ :=
        seatUnavailable_settled hfs.symm
      refine ⟨t, he, ?_⟩
      rw [h1]
      refine ⟨rfl, rfl, rfl, rfl, rfl, rfl, rfl, rfl, h2, h3, h4, h5, h6, h8, fun hc => ?_⟩
      rw [State.pendingId, h7]
      exact withdrawClaim_pendingId (s := { s with seat := { s.seat with unseated := .stopped } }) hc
    · rw [unseatedOver, if_pos (by simpa using h)] at he
      exact ⟨_, he, settle_primary _⟩

end

section
/-! SUPPORT. Which frames an event puts on the queue, and the coupling inputs: O12. -/

namespace Sys2Proof.Machine

variable {s t u v w : State} {Q : Frame → Prop}

/-! ### Frames that enter the queue -/

/-- Every entry of the queue after stood there before or carries a frame of the kind told. -/
def NewFrames (Q : Frame → Prop) (s t : State) : Prop := ∀ e ∈ t.line.queue, e ∈ s.line.queue ∨ Q e.frame

theorem NewFrames.same (h : t.line.queue = s.line.queue) : NewFrames Q s t := fun _ he => .inl (h ▸ he)

theorem NewFrames.refl (s : State) : NewFrames Q s s := .same rfl

theorem NewFrames.trans (h : NewFrames Q s t) (k : NewFrames Q t u) : NewFrames Q s u := fun e he =>
  (k e he).elim (h e) .inr

theorem NewFrames.after (k : NewFrames Q u t) (h : u.line.queue = s.line.queue) : NewFrames Q s t :=
  (NewFrames.same h).trans k

theorem NewFrames.mono {P : Frame → Prop} (h : NewFrames P s t) (hp : ∀ f, P f → Q f) : NewFrames Q s t := fun e he =>
  (h e he).imp id (hp _)

theorem offer_newFrames (f : Frame) (hf : Q f) (s : State) : NewFrames Q s (offer f s) := by
  obtain ⟨q, fo, o, hl, -, ho⟩ := offer_line f s
  intro e he
  rw [hl] at he
  cases ho with
  | same => exact .inl he
  | entered => exact ((mem_insertEntry _ _ _).mp he).elim (fun h => .inr (h ▸ hf)) .inl
  | inPlace => exact ((mem_insertEntry _ _ _).mp he).elim (fun h => .inr (h ▸ hf)) fun h => .inl (List.mem_of_mem_filter h)
  | replaced =>
    obtain ⟨x, hx, rfl⟩ := List.mem_map.mp he
    split
    · exact .inr hf
    · exact .inl hx
  | held => exact .inl he

theorem withdraw_newFrames (p : Frame → Bool) (s : State) : NewFrames Q s (withdraw p s) := fun _ he =>
  .inl (List.mem_of_mem_filter he)

/-- What offering and withdrawing frames, and telling owners of lost ones, may touch. -/
def State.queueing (s : State) :
    LineUnit × Option Sending × Relay × Option Query × QueryOutcome × Option Answering × Option OwedBusy :=
  (s.line, s.roster.announce, s.body.relay, s.port.query, s.port.queryOutcome, s.port.answering, s.port.owed)

/-- Of all that, only offering such frames and withdrawing has changed something. -/
inductive Queueing (Q : Frame → Prop) : State → State → Prop where
  | same {s t : State} : t.queueing = s.queueing → Queueing Q s t
  | offer {f : Frame} : Q f → ∀ s : State, Queueing Q s (Machine.offer f s)
  | withdraw (p : Frame → Bool) (s : State) : Queueing Q s (Machine.withdraw p s)
  | trans {s t u : State} : Queueing Q s t → Queueing Q t u → Queueing Q s u

theorem Queueing.refl (s : State) : Queueing Q s s := .same rfl

theorem Queueing.after (k : Queueing Q u t) (h : u.queueing = s.queueing) : Queueing Q s t := (Queueing.same h).trans k

theorem Queueing.mono {P : Frame → Prop} (h : Queueing P s t) (hp : ∀ f, P f → Q f) : Queueing Q s t := by
  induction h with
  | same h => exact .same h
  | offer hf => exact .offer (hp _ hf) _
  | withdraw p => exact .withdraw p _
  | trans _ _ ih ik => exact ih.trans ik

theorem Queueing.newFrames (h : Queueing Q s t) : NewFrames Q s t := by
  induction h with
  | same h => exact .same (congrArg (fun l : LineUnit × _ => l.1.queue) h)
  | offer hf => exact offer_newFrames _ hf _
  | withdraw p => exact withdraw_newFrames p _
  | trans _ _ ih ik => exact ih.trans ik

theorem foldl_queueing {α : Type} (f : State → α → State) (h : ∀ v a, Queueing Q v (f v a)) (l : List α) (s : State) :
    Queueing Q s (l.foldl f s) := by
  induction l generalizing s with
  | nil => exact .refl s
  | cons a l ih => exact (h s a).trans (ih _)

/-- The frame is a FAULT. -/
def Frame.isFault : Frame → Prop
  | .fault _ _ _ _ _ => True
  | _ => False

/-- The frame is one that the judgements of an event can offer: a DEMAND, a FAULT, a BODY STATUS or a SEAT OFFER. -/
def Frame.follows : Frame → Prop
  | .demand _ _ _ | .fault _ _ _ _ _ | .bodyStatus _ _ _ _ | .seatOffer _ => True
  | _ => False

theorem Frame.follows_of_isFault (f : Frame) (h : f.isFault) : f.follows := by
  cases f <;> first | exact trivial | exact h

theorem queueFault_queueing (e : FaultEntry) (r : Bool) (s : State) : Queueing Frame.isFault s (queueFault e r s) := by
  unfold queueFault
  split
  · exact Queueing.offer trivial s
  · exact .refl s

theorem attnForFault_queueing (n : Nat) (s : State) : (attnForFault n s).queueing = s.queueing := by
  unfold attnForFault
  split <;> rfl

theorem setFaultList_queueing (l : List FaultEntry) (s : State) : (setFaultList l s).queueing = s.queueing := by
  simp only [State.queueing, setFaultList]
  split <;> rfl

theorem addFault_queueing (c : FaultCode) (k n : Nat) (s : State) : Queueing Frame.isFault s (addFault c k n s) := by
  have h := queueFault_queueing { code := c, subject := k, severity := n, onset := min s.now Config.onsetTop } true
    (setFaultList (s.faults.list ++ [{ code := c, subject := k, severity := n, onset := min s.now Config.onsetTop }]) s)
  exact (h.after (setFaultList_queueing ..)).trans (.same (attnForFault_queueing n _))

theorem removeFault_queueing (e : FaultEntry) (s : State) : Queueing Frame.isFault s (removeFault e s) :=
  (queueFault_queueing e false _).after (setFaultList_queueing ..)

theorem raiseFault_queueing (c : FaultCode) (k n : Nat) (s : State) : Queueing Frame.isFault s (raiseFault c k n s) := by
  unfold raiseFault
  split
  · exact .refl s
  · split
    · exact addFault_queueing c k n s
    · split
      · next x _ => exact ((removeFault_queueing x s).trans (addFault_queueing c k n _)).trans (.same rfl)
      · exact .same rfl

theorem clearFault_queueing (c : FaultCode) (k : Nat) (s : State) : Queueing Frame.isFault s (clearFault c k s) := by
  unfold clearFault
  split
  · exact .refl s
  · split
    · exact .refl s
    · exact removeFault_queueing _ s

theorem clearPresence_queueing (s : State) : Queueing Frame.isFault s (clearPresence s) :=
  foldl_queueing _ (fun _ _ => clearFault_queueing _ _ _) _ s

theorem sendChange_queueing (s : State) : Queueing Frame.follows s (sendChange s) := by
  have hd (v : State) : Queueing Frame.follows v (sendDemand v) := (Queueing.offer trivial _).after rfl
  unfold sendChange
  split
  · exact .refl s
  · split
    · exact hd s
    · split
      · split
        · exact (Queueing.offer trivial _).after rfl
        · exact .refl s
      · exact (hd _).after rfl

theorem judgeOwn_queueing (s : State) : Queueing Frame.follows s (judgeOwn s) := by
  unfold judgeOwn
  dsimp only
  split
  · exact .refl s
  · exact (sendChange_queueing _).after rfl

theorem endRun_queueing (o : BodyOutcome) (s : State) (n : Nat) : Queueing Frame.follows s (endRun o s n) := by
  unfold endRun
  split
  · have h : Queueing Frame.follows s (stopRun n o s) := (judgeOwn_queueing _).after rfl
    exact h.trans (Queueing.offer trivial _)
  · exact .refl s

theorem endRuns_queueing (o : BodyOutcome) (p : BodyCfg → Bool) (s : State) : Queueing Frame.follows s (endRuns o p s) :=
  foldl_queueing _ (endRun_queueing o) _ s

theorem judgeFallback_queueing (s : State) : Queueing Frame.follows s (judgeFallback s) := by
  unfold judgeFallback
  dsimp only
  split
  · exact .refl s
  · split
    · exact ((raiseFault_queueing _ _ _ _).mono Frame.follows_of_isFault).after rfl
    · exact ((clearFault_queueing _ _ _).mono Frame.follows_of_isFault).after rfl

theorem judgeSets_queueing (s : State) : Queueing Frame.follows s (judgeSets s) := by
  have h1 : Queueing Frame.follows s (endWithdrawn (judgeView s)) := by
    refine Queueing.after ?_ (u := judgeView s) rfl
    unfold endWithdrawn
    split
    · exact .refl _
    · exact endRuns_queueing _ _ _
  have h2 : Queueing Frame.follows s (endMotion (endWithdrawn (judgeView s))) := by
    refine h1.trans ?_
    unfold endMotion
    split
    · exact endRuns_queueing _ _ _
    · exact .refl _
  have h3 := (h2.trans (judgeOwn_queueing _)).trans (judgeFallback_queueing _)
  have h4 : Queueing Frame.follows s
      (judgeEff (judgeFallback (judgeOwn (endMotion (endWithdrawn (judgeView s)))))) := h3.trans (.same rfl)
  have h5 : Queueing Frame.follows s
      (endPark (judgeEff (judgeFallback (judgeOwn (endMotion (endWithdrawn (judgeView s))))))) := by
    refine h4.trans ?_
    unfold endPark
    split
    · exact .refl _
    · exact endRuns_queueing _ _ _
  exact h5.trans (judgeOwn_queueing _)

theorem judgeOffer_queueing (s : State) : Queueing Frame.follows s (judgeOffer s) := by
  unfold judgeOffer
  split
  · split
    · exact .refl s
    · exact (Queueing.offer trivial s).trans (.same rfl)
  · split
    · exact (Queueing.withdraw _ _).after rfl
    · exact .refl s

/-- The judgements put no other frames on the queue. -/
theorem settle_queueing (s : State) : Queueing Frame.follows s (settle s) := by
  have h := judgeSets_queueing s
  rw [settle_eq]
  generalize judgeSets s = v at h
  have hl : (judgeLamps (judgeGates (judgeEff v))).queueing = v.queueing := rfl
  generalize judgeLamps (judgeGates (judgeEff v)) = w at hl
  exact h.trans ((judgeOffer_queueing w).after hl)

theorem raiseFault_newFrames (c : FaultCode) (k n : Nat) (s : State) : NewFrames Frame.isFault s (raiseFault c k n s) :=
  (raiseFault_queueing c k n s).newFrames

theorem clearFault_newFrames (c : FaultCode) (k : Nat) (s : State) : NewFrames Frame.isFault s (clearFault c k s) :=
  (clearFault_queueing c k s).newFrames

theorem clearPresence_newFrames (s : State) : NewFrames Frame.isFault s (clearPresence s) := (clearPresence_queueing s).newFrames

/-- The judgements put no other frames on the queue. -/
theorem settle_newFrames (s : State) : NewFrames Frame.follows s (settle s) := (settle_queueing s).newFrames

/-- No pending frame of a kind stands on the queue where none stood and none of the kind entered. -/
theorem NewFrames.none_pending {p : Frame → Bool} (h : NewFrames Q s t) (hQ : ∀ f, Q f → p f = false)
    (k : ∀ e ∈ s.line.queue, p e.frame = true → e.inFlight = true) : ∀ e ∈ t.line.queue, p e.frame = true → e.inFlight = true :=
  fun e he hp => (h e he).elim (fun hm => k e hm hp) fun hq => by rw [hQ _ hq] at hp; cases hp

/-! ### PRESENCE-FAULT cleared -/

theorem clearPresence_hasFault (k : Nat) (s : State) : (clearPresence s).hasFault .presenceFault k = false := by
  have key : ∀ (l : List FaultEntry) (v : State), (l.foldl (fun s e => clearFault .presenceFault e.subject s) v).faults.list =
      v.faults.list.filter fun y => !(y.code == .presenceFault && l.any fun e => e.subject == y.subject) := by
    intro l
    induction l with
    | nil => intro v; simp
    | cons e r ih =>
      intro v
      rw [List.foldl_cons, ih, clearFault_list _ _ rfl, List.filter_filter]
      refine List.filter_congr fun y _ => ?_
      cases hc : (y.code == .presenceFault) <;> simp [BEq.comm (a := e.subject)]
      cases (y.subject == e.subject) <;> simp
  rw [← Bool.not_eq_true, hasFault_iff]
  rintro ⟨e, he, hc, hk⟩
  rw [clearPresence, key, List.mem_filter] at he
  simp only [hc, beq_self_eq_true, Bool.true_and, Bool.not_eq_true', List.any_eq_false, List.mem_filter, and_imp] at he
  exact he.2 e he.1 (by simp [hc]) (by simp)

theorem clearPresence_other {c : FaultCode} (k : Nat) (hc : c ≠ .presenceFault) (s : State) :
    (clearPresence s).hasFault c k = s.hasFault c k := by
  unfold clearPresence
  generalize s.faults.list.filter (fun e => e.code == .presenceFault) = q
  induction q generalizing s with
  | nil => rfl
  | cons e r ih => rw [List.foldl_cons, ih, clearFault_other (by simp [hc])]

theorem clearPresence_length (s : State) : (clearPresence s).faults.list.length ≤ s.faults.list.length := by
  unfold clearPresence
  generalize s.faults.list.filter (fun e => e.code == .presenceFault) = q
  induction q generalizing s with
  | nil => exact Nat.le_refl _
  | cons e r ih => exact (ih _).trans (clearFault_length ..)

/-! ### The coupling inputs -/

theorem mayChange_iff (seen now level : Bool) :
    s.mayChange seen now level = true ↔ now ≠ level ∨ (s.seat.stage = .loading ∧ seen = false) := by
  simp [State.mayChange, State.loaded]

/-- An event that leaves what fallback is judged by begins none. -/
theorem Settled.no_fallback (h : Settled s) (hf : u.demand.fallback = s.demand.fallback) (hg : u.seat.stage = s.seat.stage)
    (hl : u.loader = s.loader) (ht : u.demand.table = s.demand.table) : u.fallbackDue = true → u.demand.fallback = true := by
  intro hd
  rw [hf, h.fallback]
  simpa only [State.fallbackDue, State.serving, hg, hl, ht] using hd

theorem tryWarmClaim_claims {p : Nat} (hg : s.seat.stage = .listen) (hr : s.seat.rejoin = some p) (hi : s.seat.seatIn = true)
    (hid : s.loader.identity ≠ 0) (hm : s.line.mute = false) : tryWarmClaim s = queueClaim p true s := by
  have hc : (s.seat.stage == .listen && (s.seat.head || s.seat.seatIn) && s.hasIdentity && !s.line.mute) = true := by
    simpa [hg, hi, hm, State.hasIdentity] using hid
  simp only [tryWarmClaim, hr, hc, if_true]

theorem tryWarmClaim_waits (h : s.seat.stage ≠ .listen ∨ s.seat.rejoin = none ∨ s.loader.identity = 0 ∨ s.line.mute = true) :
    tryWarmClaim s = s := by
  unfold tryWarmClaim
  split
  · rfl
  · next p hp =>
    refine if_neg fun hc => ?_
    simp only [Bool.and_eq_true, beq_iff_eq, Bool.not_eq_true', State.hasIdentity, bne_iff_ne] at hc
    obtain ⟨⟨⟨hg, -⟩, hid⟩, hm⟩ := hc
    rcases h with h | h | h | h
    · exact h hg
    · rw [h] at hp; cases hp
    · exact hid h
    · rw [hm] at h; cases h

theorem tryWarmClaim_faults (s : State) : (tryWarmClaim s).faults = s.faults := by
  unfold tryWarmClaim
  split
  · rfl
  · split
    · simp [queueClaim]
    · rfl

/-- SEAT-IN has become asserted. -/
def seatedIn (s : State) : State :=
  clearFault .frontLinkLost 0 { s with seat := { s.seat with seatIn := true, seatInSeen := true } }

theorem seatInRises_eq (s : State) : seatInRises s = tryWarmClaim (seatedIn s) := rfl

theorem seatedIn_keeps (s : State) :
    (seatedIn s).seat = { s.seat with seatIn := true, seatInSeen := true } ∧ (seatedIn s).loader = s.loader ∧
    (seatedIn s).line.mute = s.line.mute ∧ (seatedIn s).primary =
      State.primary { s with seat := { s.seat with seatIn := true, seatInSeen := true } } := by
  obtain ⟨-, -, hl, -, hs, -, -, -, -, -, -, -, -, -, -, hm⟩ :=
    clearFault_keeps .frontLinkLost 0 { s with seat := { s.seat with seatIn := true, seatInSeen := true } }
  exact ⟨hs, hl, hm, clearFault_primary ..⟩

/-- What SEAT-IN becoming asserted does (R23, R25). -/
theorem seatInRises_settled (hfs : t = settle (seatInRises s)) :
    t.seat.seatIn = true ∧ t.hasFault .frontLinkLost 0 = false ∧
      (∀ p, s.seat.stage = .listen → s.seat.rejoin = some p → s.loader.identity ≠ 0 → s.line.mute = false →
        t.seat.stage = .claiming ∧ t.seat.claimed = p ∧ t.seat.claim = .pending ∧ t.seat.claimRejoin = true ∧
        (s.line.queue = [] → t.line.queue.map Entry.frame =
          [.seatClaim p s.loader.identity s.loader.profile.cls true])) ∧
      (s.seat.stage ≠ .listen ∨ s.seat.rejoin = none ∨ s.loader.identity = 0 ∨ s.line.mute = true →
        t.primary = State.primary { s with seat := { s.seat with seatIn := true, seatInSeen := true } }) := by
  obtain ⟨hs, hl, hm, hpr⟩ := seatedIn_keeps s
  rw [seatInRises_eq] at hfs
  have hq : s.seat.stage = .listen → (seatedIn s).line.queue = s.line.queue := fun hg => by
    obtain ⟨l, h⟩ := clearFault_unseated (s := { s with seat := { s.seat with seatIn := true, seatInSeen := true } })
      .frontLinkLost 0 (by simp [State.seated, hg, Stage.seated])
    rw [seatedIn, h]
  have hf : (seatedIn s).hasFault .frontLinkLost 0 = false := clearFault_hasFault _ _ rfl
  generalize seatedIn s = u at *
  have hin : (tryWarmClaim u).seat.seatIn = true := by
    have hu : u.seat.seatIn = true := by rw [hs]
    unfold tryWarmClaim
    split
    · exact hu
    · split
      · rw [queueClaim_seat]
        exact hu
      · exact hu
  refine ⟨?_, ?_, fun p hg hr hid hmu => ?_, fun h => ?_⟩
  · rw [hfs, (settle_keeps _).2.2.2.2.2.2.2.2.2.2.1]
    exact hin
  · rw [← Bool.not_eq_true, hfs]
    intro h
    rw [← hasFault_congr (s := u) (t := tryWarmClaim u) (by rw [tryWarmClaim_faults]) .frontLinkLost 0] at hf
    rw [settle_hasFault_only (by decide) h] at hf
    cases hf
  · rw [tryWarmClaim_claims (p := p) (by rw [hs]; exact hg) (by rw [hs]; exact hr) (by rw [hs]) (by rw [hl]; exact hid)
      (by rw [hm]; exact hmu)] at hfs
    have hfr := settle_queueClaim_frames p true (s := u)
    rw [hl] at hfr
    have hse := settle_queueClaim_seat p true u
    rw [← hfs] at hfr hse
    rw [hse]
    exact ⟨rfl, rfl, rfl, rfl, fun he => hfr ((hq hg).trans he)⟩
  · rw [tryWarmClaim_waits (by rw [hs, hl, hm]; exact h)] at hfs
    rw [hfs, settle_primary, hpr]

/-- What SEAT-IN becoming deasserted does (R25). -/
theorem seatInFalls_settled (hset : Settled s) (hfs : t = settle (seatInFalls s)) :
    t.primary = State.primary { s with seat := { s.seat with seatIn := false, seatInSeen := true } } ∧
      (s.seated = true → s.seat.head = false → s.faults.list.length < 8 → t.hasFault .frontLinkLost 0 = true) ∧
      (s.seated = false ∨ s.seat.head = true → t.hasFault .frontLinkLost 0 = s.hasFault .frontLinkLost 0) := by
  have hj : seatInFalls s =
      if s.seated && !s.seat.head then
        raiseFault .frontLinkLost 0 2 { s with seat := { s.seat with seatIn := false, seatInSeen := true } }
      else { s with seat := { s.seat with seatIn := false, seatInSeen := true } } := by
    rw [seatInFalls, judgeFront]
    exact if_congr (by simp [State.seated]) rfl rfl
  refine ⟨?_, fun hs hh h8 => ?_, fun h => ?_⟩
  · rw [hfs, settle_primary, hj]
    split
    · exact raiseFault_primary ..
    · rfl
  · rw [hj, if_pos (by simp [hs, hh])] at hfs
    rw [hfs]
    exact settle_raised (s := { s with seat := { s.seat with seatIn := false, seatInSeen := true } }) (by decide)
      (.inl (Nat.le_refl _)) h8 rfl
  · rw [hj, if_neg (by rcases h with h | h <;> simp [h])] at hfs
    rw [hfs]
    exact (settle_hasFault (u := { s with seat := { s.seat with seatIn := false, seatInSeen := true } }) (d := .frontLinkLost) (by decide) (.inr (hset.no_fallback rfl rfl rfl rfl))).trans rfl

/-- The station with PRES-IN asserted and a departure cancelled. -/
def presenceFound (s : State) : State := cancelDeparture { s with seat := { s.seat with presIn := true, presInSeen := true } }

theorem presInRises_eq (s : State) : presInRises s = judgeFull (rearPresence (clearPresence (presenceFound s))) := rfl

theorem presenceFound_eq (s : State) :
    presenceFound s =
      { s with
        seat :=
          { s.seat with
            presIn := true, presInSeen := true, departure := .stopped
            answered := if s.seat.departure.isRunning = true then [] else s.seat.answered }
        line :=
          { s.line with
            queue :=
              if s.seat.departure.isRunning = true then s.line.queue.filter fun e => e.inFlight || !e.frame.isProbe
              else s.line.queue } } := by
  cases hd : s.seat.departure with
  | stopped =>
    rw [presenceFound, cancelDeparture, if_neg (by simp [hd])]
    rw [if_neg (by simp), if_neg (by simp), ← hd]
  | running e l =>
    rw [presenceFound, cancelDeparture, if_pos (by rw [hd]; rfl), if_pos (by rfl), if_pos (by rfl)]
    rfl

theorem judgeFull_unfaulted (s : State) : (judgeFull s).unfaulted = s.unfaulted := by
  unfold judgeFull
  split
  · exact raiseFault_unfaulted ..
  · rfl

theorem judgeFull_queueing (s : State) : Queueing Frame.isFault s (judgeFull s) := by
  unfold judgeFull
  split
  · exact raiseFault_queueing _ _ _ _
  · exact .refl s

theorem judgeFull_newFrames (s : State) : NewFrames Frame.isFault s (judgeFull s) := (judgeFull_queueing s).newFrames

/-- Presence asserted, the rear end with it. -/
theorem rearPresence_eq (s : State) :
    rearPresence s = { s with rear := { s.rear with status := if s.rear.status = .holder then .pending else s.rear.status } } := by
  unfold rearPresence setRear
  split <;> rfl

/-- What PRES-IN becoming asserted does (R13, R26, R28, R128). -/
theorem presInRises_settled (hset : Settled s) (hfs : t = settle (presInRises s)) :
    t.seat =
        { s.seat with
          presIn := true, presInSeen := true, departure := .stopped
          answered := if s.seat.departure.isRunning = true then [] else s.seat.answered
          offer := t.seat.offer } ∧
      (s.seat.departure.isRunning = true → ∀ e ∈ t.line.queue, e.frame.isProbe = true → e.inFlight = true) ∧
      (∀ k, t.hasFault .presenceFault k = false) ∧
      t.rear = { s.rear with status := if s.rear.status = .holder then .pending else s.rear.status } ∧
      (s.serving = true → s.seat.ownSeat = 8 → s.faults.list.length < 8 → t.hasFault .combinationFull 0 = true) ∧
      (s.serving = false ∨ s.seat.ownSeat ≠ 8 →
        t.hasFault .combinationFull 0 = s.hasFault .combinationFull 0) ∧
      t.primary = State.primary { s with seat := t.seat, rear := t.rear } := by
  have hpf := presenceFound_eq s
  have hcl := clearPresence_unfaulted (presenceFound s)
  have hno := fun k => clearPresence_hasFault k (presenceFound s)
  have hoth : (clearPresence (presenceFound s)).hasFault .combinationFull 0 = s.hasFault .combinationFull 0 := by
    rw [clearPresence_other _ (by decide), hpf]
    rfl
  have hlen : (clearPresence (presenceFound s)).faults.list.length ≤ s.faults.list.length := by
    refine (clearPresence_length _).trans ?_
    rw [hpf]
  have hfr : NewFrames Frame.isFault (presenceFound s) (clearPresence (presenceFound s)) := clearPresence_newFrames _
  rw [presInRises_eq] at hfs
  generalize clearPresence (presenceFound s) = u at hcl hno hoth hlen hfr hfs
  rw [rearPresence_eq] at hfs
  obtain ⟨-, -, hul, -, hus, -, hud, -, hur, -⟩ := unfaulted_fields hcl
  rw [hpf] at hul hus hud hur
  generalize hw : ({ u with rear := { u.rear with status := if u.rear.status = .holder then .pending else u.rear.status } } : State) = w at hfs
  have hwr : w.rear = { s.rear with status := if s.rear.status = .holder then .pending else s.rear.status } := by
    rw [← hw, hur]
  have hws : w.seat = u.seat := by rw [← hw]
  have hwf : w.faults = u.faults := by rw [← hw]
  have hjf := judgeFull_unfaulted w
  obtain ⟨-, -, hjl, -, hjs, -, hjd, -, hjr, -⟩ := unfaulted_fields hjf
  have hcond : (w.serving && w.seat.ownSeat == 8 && w.seat.presIn) = (s.serving && s.seat.ownSeat == 8) := by
    rw [State.serving, hws, hus]
    simp [State.serving]
  have hnf : (judgeFull w).fallbackDue = true → (judgeFull w).demand.fallback = true := by
    refine hset.no_fallback ?_ ?_ ?_ ?_
    · rw [hjd, ← hw]; exact congrArg Merger.fallback hud
    · rw [hjs, hws, hus]
    · rw [hjl, ← hw]; exact hul
    · rw [hjd, ← hw]; exact congrArg Merger.table hud
  have hseat : t.seat =
      { s.seat with
        presIn := true, presInSeen := true, departure := .stopped
        answered := if s.seat.departure.isRunning = true then [] else s.seat.answered
        offer := t.seat.offer } := by
    have h := settle_seat (judgeFull w)
    rw [← hfs, hjs, hws, hus] at h
    exact h
  have hrear : t.rear = w.rear := by
    have h := (settle_keeps (judgeFull w)).2.2.2.2.1
    rw [← hfs, hjr] at h
    exact h
  refine ⟨hseat, fun hd => ?_, fun k => ?_, hrear.trans hwr, fun hs h8 hl => ?_, fun h => ?_, ?_⟩
  · have hall : NewFrames Frame.follows (presenceFound s) t := by
      rw [hfs]
      refine ((hfr.mono Frame.follows_of_isFault).trans (.same ?_)).trans
        (((judgeFull_newFrames w).mono Frame.follows_of_isFault).trans (settle_newFrames _))
      rw [← hw]
    refine hall.none_pending (fun f hf => by cases f <;> first | rfl | exact hf.elim) ?_
    rw [hpf]
    dsimp only
    rw [if_pos hd]
    intro e he hp
    have := (List.mem_filter.mp he).2
    simpa [hp] using this
  · rw [← Bool.not_eq_true, hfs]
    intro h
    have h1 := settle_hasFault_only (by decide) h
    have h2 : w.hasFault .presenceFault k = true := by
      unfold judgeFull at h1
      split at h1
      · exact raiseFault_only (by simp) h1
      · exact h1
    rw [hasFault_congr (s := u) (by rw [hwf]), hno] at h2
    cases h2
  · rw [hfs, settle_hasFault (by decide) (.inr hnf), judgeFull, if_pos (by rw [hcond, hs, h8]; rfl)]
    exact raiseFault_hasFault _ _ _ (by rw [hwf]; omega)
  · rw [hfs, settle_hasFault (by decide) (.inr hnf), judgeFull, if_neg (by rw [hcond]; rcases h with h | h <;> simp [h]),
      hasFault_congr (s := u) (by rw [hwf]), hoth]
  · rw [hrear]
    have h1 : t.primary = State.primary { u with rear := w.rear } := by
      rw [hfs, settle_primary, primary_of_unfaulted hjf, ← hw]
    rw [h1, primary_withRear ((primary_of_unfaulted hcl).trans (congrArg State.primary hpf)), hseat]
    rfl

/-- PRES-IN has become deasserted, the COMBINATION-FULL cleared (R13). -/
theorem presInFalls_eq (s : State) :
    presInFalls s =
      beginDeparture (clearFault .combinationFull 0 { s with seat := { s.seat with presIn := false, presInSeen := true } }) := rfl

theorem presInFalls_unseated (h : s.seated = false) :
    presInFalls s = clearFault .combinationFull 0 { s with seat := { s.seat with presIn := false, presInSeen := true } } := by
  obtain ⟨-, -, -, -, hs, -⟩ :=
    clearFault_keeps .combinationFull 0 { s with seat := { s.seat with presIn := false, presInSeen := true } }
  rw [presInFalls_eq, beginDeparture, if_neg]
  rw [State.seated, hs]
  simpa [State.seated] using h

theorem presInFalls_seated (h : s.seated = true) :
    presInFalls s =
      offer (.probe s.seat.ownSeat)
        { clearFault .combinationFull 0 { s with seat := { s.seat with presIn := false, presInSeen := true } } with
          seat := { s.seat with presIn := false, presInSeen := true, departure := .running 0 1500, answered := [] } } := by
  obtain ⟨-, -, -, -, hs, -⟩ :=
    clearFault_keeps .combinationFull 0 { s with seat := { s.seat with presIn := false, presInSeen := true } }
  rw [presInFalls_eq, beginDeparture, if_pos (by rw [State.seated, hs]; exact h), hs]
  rfl

theorem not_full_settled (h : u.hasFault .combinationFull 0 = false) : (settle u).hasFault .combinationFull 0 = false := by
  rw [← Bool.not_eq_true]
  intro hx
  rw [settle_hasFault_only (by decide) hx] at h
  cases h

theorem primary_withSeat (h : t.primary = s.primary) (c : SeatCtl) (he : c.ownSeat = s.seat.ownSeat) :
    State.primary { t with seat := c } = State.primary { s with seat := c } := by
  have key (v : State) (hv : c.ownSeat = v.seat.ownSeat) :
      State.primary { v with seat := c } = { v.primary with seat := { c with offer := .stopped } } := by
    simp only [State.primary, State.unfaulted, State.unqueued, hv]
  have ho : t.seat.ownSeat = s.seat.ownSeat := (primary_fields h).2.2.2.2.2.2.2.2.1
  rw [key t (he.trans ho.symm), key s he, h]

end Sys2Proof.Machine

open Sys2Proof Sys2Proof.Machine

/-- Settles O12, input by input and level by level. -/
theorem couplingInputsTaken : Obligations.CouplingInputsTaken := by
  intro s hp hset changes
  have hin (b : Bool) : s.mayChange s.seat.seatInSeen s.seat.seatIn b = true ↔ changes s.seat.seatInSeen s.seat.seatIn b :=
    mayChange_iff ..
  have hpi (b : Bool) : s.mayChange s.seat.presInSeen s.seat.presIn b = true ↔ changes s.seat.presInSeen s.seat.presIn b :=
    mayChange_iff ..
  refine ⟨fun h => ?_, fun h => ?_, fun b h => ?_, fun h => ?_, fun h => ?_, fun h hs => ?_, fun h hs => ?_, fun h => ?_⟩
  · exact ⟨_, whenRunning_admitted (fun s => s.mayChange s.seat.seatInSeen s.seat.seatIn true) hp ((hin _).mpr h),
      seatInRises_settled rfl⟩
  · exact ⟨_, whenRunning_admitted (fun s => s.mayChange s.seat.seatInSeen s.seat.seatIn false) hp ((hin _).mpr h),
      seatInFalls_settled hset rfl⟩
  · exact whenRunning_excluded (fun s => s.mayChange s.seat.seatInSeen s.seat.seatIn b)
      (Bool.eq_false_iff.mpr fun hx => h ((hin _).mp hx))
  · exact ⟨_, whenRunning_admitted (fun s => s.mayChange s.seat.presInSeen s.seat.presIn true) hp ((hpi _).mpr h),
      presInRises_settled hset rfl⟩
  · exact whenRunning_excluded (fun s => s.mayChange s.seat.presInSeen s.seat.presIn true)
      (Bool.eq_false_iff.mpr fun hx => h ((hpi _).mp hx))
  · have he := whenRunning_admitted (fun s => s.mayChange s.seat.presInSeen s.seat.presIn false) (f := presInFalls) hp
      ((hpi _).mpr h)
    rw [presInFalls_unseated hs] at he
    refine ⟨_, he, not_full_settled (clearFault_hasFault _ _ rfl), ?_⟩
    rw [settle_primary, clearFault_primary]
  · have he := whenRunning_admitted (fun s => s.mayChange s.seat.presInSeen s.seat.presIn false) (f := presInFalls) hp
      ((hpi _).mpr h)
    rw [presInFalls_seated hs] at he
    refine ⟨_, he, not_full_settled ?_, ?_, rfl⟩
    · rw [hasFault_congr (s := clearFault .combinationFull 0 { s with seat := { s.seat with presIn := false, presInSeen := true } })
        (by rw [(offer_keeps _ _).2.2.2.2.2.2.2.2.2.2.1])]
      exact clearFault_hasFault _ _ rfl
    · rw [settle_primary, offer_primary]
      exact primary_withSeat (clearFault_primary _ .combinationFull 0) _ rfl
  · exact whenRunning_excluded (fun s => s.mayChange s.seat.presInSeen s.seat.presIn false)
      (Bool.eq_false_iff.mpr fun hx => h ((hpi _).mp hx))

end

section
/-! SUPPORT. How a frame enters the transmit queue and what the owner of a lost one is told (R182 to R186): O47. -/

namespace Sys2Proof.Machine

variable {s t : State} {f : Frame}

/-! ### Where an entry is inserted -/

theorem filter_ne_insertEntry (e : Entry) (q : List Entry) :
    (insertEntry e q).filter (fun x => x != e) = q.filter fun x => x != e := by
  induction q with
  | nil => simp [insertEntry]
  | cons x r ih =>
    unfold insertEntry
    split
    · simp [List.filter_cons]
    · simp only [List.filter_cons, ih]

/-- An entry stands behind the older ones of its kind code. -/
theorem filter_kind_insertEntry (e : Entry) {q : List Entry} (h : q.Pairwise fun a b => a.frame.kind ≤ b.frame.kind) :
    (insertEntry e q).filter (fun x => x.frame.kind == e.frame.kind) = (q.filter fun x => x.frame.kind == e.frame.kind) ++ [e] := by
  induction q with
  | nil => simp [insertEntry]
  | cons x r ih =>
    rw [List.pairwise_cons] at h
    unfold insertEntry
    split
    · next hk =>
      have hn : (x :: r).filter (fun y => y.frame.kind == e.frame.kind) = [] := by
        refine List.filter_eq_nil_iff.mpr fun y hy => ?_
        have : x.frame.kind ≤ y.frame.kind := (List.mem_cons.mp hy).elim (fun hx => hx ▸ Nat.le_refl _) (h.1 y)
        simp only [beq_iff_eq]
        omega
      rw [List.filter_cons, hn]
      simp
    · rw [List.filter_cons, ih h.2, List.filter_cons]
      split <;> rfl

/-! ### The owner told -/

theorem tellLost_withLine (g : Frame) (id : Nat) (s : State) (l : LineUnit) :
    tellLost g id { s with line := l } = { tellLost g id s with line := l } := by
  cases g with
  | bodyRequest | query | answer =>
    simp only [tellLost]
    split <;> rfl
  | _ => rfl

theorem tellLost_other (h : f.kind ≤ 6 ∨ f.kind = 9) (id : Nat) : tellLost f id s = s := by
  cases f <;> first | rfl | (simp [Frame.kind] at h)

theorem tellLost_query_none {id : Nat} (h : ∀ q, s.port.query = some q → q.frameId ≠ id) :
    s.port.query.map Query.frameId ≠ some id := by
  cases hq : s.port.query with
  | none => simp
  | some q => simpa using h q hq

/-- A BUSY is lost where one is owed already. -/
theorem tellLost_owed {a b c id : Nat} {data : List Byte} (h : s.port.owed ≠ none) :
    tellLost (.answer a b c .busy data) id s = s := by
  obtain ⟨o, ho⟩ := Option.ne_none_iff_exists'.mp h
  simp only [tellLost, if_true, ho, Option.getD_some]
  rw [← ho]

/-! ### The ways of an offer -/

theorem isSequenced_iff (f : Frame) : f.isSequenced = true ↔ f.kind = 8 ∨ f.kind = 11 := by
  cases f <;> simp [Frame.isSequenced, Frame.kind]

/-- The state in which a frame's entry number has been given. -/
def numbered (s : State) : State := { s with line := { s.line with nextId := s.line.nextId + 1 } }

theorem offer_taken (h : s.queueTakes f = true) : offer f s = takeFrame f s.line.nextId (numbered s) := if_pos h

/-- No entry of its class or, of a sequenced frame, of its kind stands on the queue: it enters as a new entry. -/
theorem offer_enters (h : s.queueTakes f = true)
    (hn : (f.replaceClass = none ∧ ((f.kind = 8 ∨ f.kind = 11) → ∀ e ∈ s.line.queue, e.frame.kind ≠ f.kind)) ∨
      (f.replaceClass ≠ none ∧ ∀ e ∈ s.line.queue, e.frame.replaceClass ≠ f.replaceClass)) :
    offer f s = enterQueue f s.line.nextId (numbered s) := by
  rw [offer_taken h, takeFrame]
  rcases hn with ⟨hc, hk⟩ | ⟨hc, hk⟩
  · rw [if_neg (by simp [hc]), if_neg]
    simp only [Bool.and_eq_true, isSequenced_iff, List.any_eq_true, not_and]
    rintro hs ⟨e, he, hek⟩
    exact hk hs e he (by simpa using hek)
  · have hf : (numbered s).line.queue.find? (fun e => e.frame.replaceClass == f.replaceClass) = none :=
      List.find?_eq_none.mpr fun e he => by simpa using hk e he
    rw [if_pos (Option.ne_none_iff_isSome.mp hc), hf]

/-- A frame whose class stands on the queue takes the place of a pending one, and is held while one is in flight. -/
theorem offer_replaces (h : s.queueTakes f = true) (hc : f.replaceClass ≠ none) {x : Entry}
    (hx : (s.line.queue.find? fun e => e.frame.replaceClass == f.replaceClass) = some x) :
    offer f s =
      if x.inFlight then holdFollowOn f (numbered s)
      else (numbered s).setQueue (s.line.queue.map fun x =>
        if x.frame.replaceClass == f.replaceClass then { x with frame := f } else x) := by
  have hf : (numbered s).line.queue.find? (fun e => e.frame.replaceClass == f.replaceClass) = some x := hx
  rw [offer_taken h, takeFrame, if_pos (Option.ne_none_iff_isSome.mp hc), hf]
  rfl

/-- A segment or ANSWER is turned away while one of its kind stands there. -/
theorem offer_turned (h : s.queueTakes f = true) (hk : f.kind = 8 ∨ f.kind = 11) (he : ∃ e ∈ s.line.queue, e.frame.kind = f.kind) :
    offer f s = tellLost f s.line.nextId (numbered s) := by
  have hc : f.replaceClass = none := by cases f <;> simp [Frame.kind] at hk <;> rfl
  rw [offer_taken h, takeFrame, if_neg (by simp [hc]), if_pos]
  simp only [Bool.and_eq_true, isSequenced_iff, List.any_eq_true]
  obtain ⟨e, he, hek⟩ := he
  exact ⟨hk, e, he, by simpa using hek⟩

theorem bump_eq (n : Nat) : bump n = if n < 65535 then n + 1 else n := rfl

theorem enterQueue_room (id : Nat) (h : s.line.queue.length < 8) :
    enterQueue f id s = s.setQueue (insertEntry { id := id, frame := f, inFlight := false, dying := false } s.line.queue) :=
  if_pos h

/-- On a full queue the frame is lost unless its kind code is below that of the last pending entry. -/
theorem enterQueue_lost (id : Nat) (h : 8 ≤ s.line.queue.length)
    (hx : ∀ x, lastPending s.line.queue = some x → x.frame.kind ≤ f.kind) : enterQueue f id s = tellLost f id s.countOverflow := by
  rw [enterQueue, if_neg (show ¬s.line.queue.length < Config.queueSize from Nat.not_lt.mpr h)]
  cases hl : lastPending s.line.queue with
  | none => rfl
  | some x => exact if_neg (Nat.not_lt.mpr (hx x hl))

/-- Else the last pending entry is dropped for it. -/
theorem enterQueue_dropping (id : Nat) (h : 8 ≤ s.line.queue.length) {x : Entry} (hx : lastPending s.line.queue = some x)
    (hk : f.kind < x.frame.kind) :
    enterQueue f id s =
      tellLost x.frame x.id
        (s.countOverflow.setQueue
          (insertEntry { id := id, frame := f, inFlight := false, dying := false } (s.line.queue.filter fun y => y.id != x.id))) := by
  rw [enterQueue, if_neg (show ¬s.line.queue.length < Config.queueSize from Nat.not_lt.mpr h), hx]
  exact if_pos hk

/-- On a full queue one frame is lost, and counted (R185). -/
theorem enterQueue_overflow (id : Nat) (h : 8 ≤ s.line.queue.length) :
    (enterQueue f id s).line.overflow = bump s.line.overflow := by
  rw [enterQueue, if_neg (show ¬s.line.queue.length < Config.queueSize from Nat.not_lt.mpr h)]
  cases lastPending s.line.queue with
  | none => exact congrArg LineUnit.overflow (tellLost_line ..)
  | some x =>
    dsimp only
    split <;> exact congrArg LineUnit.overflow (tellLost_line ..)

/-- A frame held for its class stands alone there. -/
theorem holdFollowOn_class (f : Frame) (s : State) :
    ((holdFollowOn f s).line.followOn.filter fun g => g.replaceClass == f.replaceClass) = [f] := by
  simp only [holdFollowOn, List.filter_append, List.filter_filter]
  rw [List.filter_eq_nil_iff.mpr fun g _ => by cases h : (g.replaceClass == f.replaceClass) <;> simp_all]
  simp

theorem mem_withdraw (p : Frame → Bool) (e : Entry) :
    e ∈ (withdraw p s).line.queue ↔ e ∈ s.line.queue ∧ (e.inFlight = true ∨ p e.frame = false) := by
  show e ∈ List.filter _ _ ↔ _
  simp

theorem tells_of_line {l : LineUnit} (h : t = { s with line := l }) : t = { s with line := t.line } := by rw [h]

/-- What telling an owner comes to is the same with a line changed since. -/
theorem tellLost_tells {g : Frame} {id : Nat} {l : LineUnit} (h : t = tellLost g id { s with line := l }) :
    t = { tellLost g id s with line := t.line } := by
  rw [h, tellLost_withLine]

end Sys2Proof.Machine

open Sys2Proof Sys2Proof.Machine

/-- Settles O47, by the ways in which a frame offered goes. -/
theorem queueTakesFrames : Obligations.QueueTakesFrames := by
  intro s f t fresh single first tells
  refine ⟨fun h => ?_, fun h hn => ⟨fun hl => ?_, fun hl => ⟨?_, fun hx => ?_, fun x hx hk => ?_⟩⟩, fun h hc x hx => ?_,
    fun h hk he => ?_, ?_, fun e => ?_⟩
  · have ht : t = numbered s := offer_refused h
    exact ⟨by rw [ht]; rfl, by rw [ht]; rfl, tells_of_line ht⟩
  · have ht : t = (numbered s).setQueue (insertEntry fresh s.line.queue) :=
      (offer_enters h hn).trans (enterQueue_room _ hl)
    have hq : t.line.queue = insertEntry fresh s.line.queue := by rw [ht]; rfl
    rw [hq]
    refine ⟨(mem_insertEntry _ _ _).mpr (.inl rfl), filter_ne_insertEntry .., fun hp => ?_, by rw [ht]; rfl, tells_of_line ht⟩
    exact ⟨insertEntry_order _ hp, filter_kind_insertEntry fresh hp⟩
  · exact (congrArg (fun v : State => v.line.overflow) (offer_enters h hn)).trans (enterQueue_overflow _ hl)
  · have ht : t = tellLost f s.line.nextId (numbered s).countOverflow :=
      (offer_enters h hn).trans (enterQueue_lost _ hl hx)
    exact ⟨by rw [ht, tellLost_line]; rfl, tellLost_tells (s := s) ht⟩
  · have ht := (offer_enters h hn).trans (enterQueue_dropping (s := numbered s) _ hl hx hk)
    exact ⟨by rw [show t = _ from ht, tellLost_line]; rfl, tellLost_tells (s := s) ht⟩
  · have ht : t = _ := offer_replaces h hc hx
    cases hi : x.inFlight with
    | true =>
      rw [hi, if_pos rfl] at ht
      exact ⟨by rw [ht]; rfl, tells_of_line ht, fun _ => ⟨by rw [ht]; rfl, by rw [ht]; exact holdFollowOn_class ..⟩,
        fun hx => (by cases hx)⟩
    | false =>
      rw [hi, if_neg Bool.false_ne_true] at ht
      refine ⟨by rw [ht]; rfl, tells_of_line ht, fun hx => (by cases hx), fun _ => ⟨by rw [ht]; rfl, ?_⟩⟩
      rw [ht]
      simp only [beq_iff_eq]
      rfl
  · have ht : t = tellLost f s.line.nextId (numbered s) := offer_turned h hk he
    exact ⟨by rw [ht, tellLost_line]; rfl, by rw [ht, tellLost_line]; rfl, tellLost_tells (s := s) ht⟩
  · exact fun id a b c d start st data =>
      ⟨rfl, ⟨fun h1 h2 => if_pos ⟨h1, h2⟩, fun h => if_neg (not_and_or.mpr h)⟩, fun q hq hid => if_pos (by rw [hq, ← hid]; rfl),
        fun hq => if_neg (tellLost_query_none hq), fun h => if_neg h, fun h => by simp [tellLost, h],
        fun h => tellLost_owed h, fun _ => rfl, fun h => tellLost_other h id⟩
  · exact (mem_withdraw _ _).trans (by simp)

end

section
/-! SUPPORT. What STAGE and FAULT frames make of the roster and the rear end: O22. -/

namespace Sys2Proof.Machine

variable {s t u v w : State} {b : RosterEntry → RosterEntry}

/-! ### Changes of the rear end, and of the own entry's note and fault summary -/

/-- Of what the event's own effect writes only the rear end and the own entry have changed, that entry not beyond what `b` leaves. -/
structure RearOnly (b : RosterEntry → RosterEntry) (s t : State) : Prop where
  primary : t.primary = State.primary { s with roster := { s.roster with entries := t.roster.entries }, rear := t.rear }
  entries : ∀ q, q ≠ s.seat.ownSeat → Table.get t.roster.entries q = Table.get s.roster.entries q
  own : (Table.get t.roster.entries s.seat.ownSeat).map b = (Table.get s.roster.entries s.seat.ownSeat).map b

theorem RearOnly.refl (b : RosterEntry → RosterEntry) (s : State) : RearOnly b s s := ⟨rfl, fun _ _ => rfl, rfl⟩

theorem primary_withRoster (h : t.primary = s.primary) (l : Table RosterEntry) (r : RearEnd) :
    State.primary { t with roster := { t.roster with entries := l }, rear := r } =
      State.primary { s with roster := { s.roster with entries := l }, rear := r } := by
  have ho : t.seat.ownSeat = s.seat.ownSeat := (primary_fields h).2.2.2.2.2.2.2.2.1
  have key (v : State) : State.primary { v with roster := { v.roster with entries := l }, rear := r } =
      { v.primary with
        roster := { v.primary.roster with entries := Table.modify l v.seat.ownSeat fun e => { e with fault := none } }
        rear := r } := rfl
  rw [key t, key s, h, ho]

theorem RearOnly.ownSeat (h : RearOnly b s t) : t.seat.ownSeat = s.seat.ownSeat :=
  (primary_fields h.primary).2.2.2.2.2.2.2.2.1

theorem RearOnly.trans (h : RearOnly b s t) (k : RearOnly b t u) : RearOnly b s u where
  primary := by
    have h1 := primary_withRoster h.primary u.roster.entries u.rear
    exact k.primary.trans h1
  entries q hq := (k.entries q (by rw [h.ownSeat]; exact hq)).trans (h.entries q hq)
  own := by
    have hk := k.own
    rw [h.ownSeat] at hk
    exact hk.trans h.own

/-- What touches neither keeps all but the own entry's fault summary. -/
theorem RearOnly.of_primary (hb : ∀ e : RosterEntry, b { e with fault := none } = b e) (h : t.primary = s.primary) :
    RearOnly b s t := by
  have hr : t.rear = s.rear := (primary_fields h).2.2.2.2.1
  have ho : t.seat.ownSeat = s.seat.ownSeat := (primary_fields h).2.2.2.2.2.2.2.2.1
  refine ⟨?_, fun q hq => get_of_primary h hq, ?_⟩
  · have h1 := primary_withRoster h t.roster.entries t.rear
    rw [← h1]
  · have hown := congrArg (Option.map b) (getOwn_of_primary h)
    simpa [Option.map_map, Function.comp_def, hb] using hown

theorem setRear_rearOnly (r : RearStatus) (s : State) : RearOnly b s (setRear r s) := ⟨rfl, fun _ _ => rfl, rfl⟩

theorem setNeighbour_rearOnly (d : Option Deficiency) (s : State) : RearOnly b s (setNeighbour d s) :=
  ⟨rfl, fun _ _ => rfl, rfl⟩

theorem queueNotice_rearOnly (hb : ∀ e : RosterEntry, b { e with fault := none } = b e)
    (hn : ∀ (e : RosterEntry) (n : Note), b { e with note := n } = b e) (f : Frame) (n : Note) (s : State) :
    RearOnly b s (queueNotice f n s) := by
  refine (RearOnly.of_primary hb (offer_primary s f)).trans ?_
  unfold queueNotice modOwnEntry
  split
  · refine ⟨rfl, fun q hq => ?_, ?_⟩
    · rw [Table.get_modify, if_neg hq]
    · rw [Table.get_modify, if_pos rfl, Option.map_map]
      exact congrArg (fun g => Option.map g _) (funext fun e => hn e n)
  · exact .refl b _

theorem clearFault_rearOnly (hb : ∀ e : RosterEntry, b { e with fault := none } = b e) (c : FaultCode) (k : Nat) (s : State) :
    RearOnly b s (clearFault c k s) := .of_primary hb (clearFault_primary s c k)

theorem rearTake_rearOnly (hb : ∀ e : RosterEntry, b { e with fault := none } = b e)
    (hn : ∀ (e : RosterEntry) (n : Note), b { e with note := n } = b e) (p : Nat) (s : State) : RearOnly b s (rearTake p s) := by
  have hbehind : RearOnly b s (takeFromBehind p s) := by
    have h1 : RearOnly b s
        (if s.rear.status.lighting then queueNotice .stageYield .yielded (setRear .none s) else s) := by
      split
      · exact (setRear_rearOnly _ s).trans (queueNotice_rearOnly hb hn _ _ _)
      · exact .refl b s
    unfold takeFromBehind
    dsimp only
    generalize (if s.rear.status.lighting then queueNotice .stageYield .yielded (setRear .none s) else s) = v at h1
    have h2 := h1.trans (clearFault_rearOnly hb .rearDeficient 0 v)
    split
    · exact h2.trans (setNeighbour_rearOnly _ _)
    · exact h2
  unfold rearTake
  split
  · exact .refl b s
  · split
    · exact hbehind
    · split
      · unfold takeFromFront
        split
        · exact queueNotice_rearOnly hb hn _ _ s
        · exact .refl b s
      · exact .refl b s

theorem rearDecline_rearOnly (p : Nat) (d : Deficiency) (s : State) : RearOnly b s (rearDecline p d s) := by
  unfold rearDecline
  split
  · dsimp only
    split
    · exact (setNeighbour_rearOnly _ s).trans (setRear_rearOnly _ _)
    · exact setNeighbour_rearOnly _ s
  · exact .refl b s

/-! ### The sender's entry -/

/-- The entry at the sender position, unless it is the own, and no other changes. -/
theorem get_modEntry (p q : Nat) (f : RosterEntry → RosterEntry) (s : State) :
    Table.get (modEntry p f s).roster.entries q =
      if (s.seated && p == s.seat.ownSeat) = false ∧ q = p then (Table.get s.roster.entries q).map f
      else Table.get s.roster.entries q := by
  unfold modEntry
  cases h : (s.seated && p == s.seat.ownSeat) with
  | true => simp
  | false =>
    simp only [Bool.false_eq_true, if_false, true_and]
    exact Table.get_modify ..

theorem modEntry_eq (p : Nat) (f : RosterEntry → RosterEntry) (s : State) :
    modEntry p f s = { s with roster := { s.roster with entries := (modEntry p f s).roster.entries } } := by
  unfold modEntry
  split <;> rfl

/-- A STAGE or FAULT frame taken: its sender's entry, then what the rear end makes of it. -/
structure EntryFrame (F : RosterEntry → RosterEntry) (b : RosterEntry → RosterEntry) (p : Nat) (u w : State) : Prop where
  rear : RearOnly b (modEntry p F u) w
  unseated : u.seated = false → w = modEntry p F u
  fault : ∀ e : RosterEntry, b { e with fault := none } = b e

/-- What such a frame leaves once the judgements are made. -/
theorem EntryFrame.settled {F : RosterEntry → RosterEntry} {p : Nat} (h : EntryFrame F b p u w) (hfs : t = settle w) :
    t.primary = State.primary { u with roster := { u.roster with entries := t.roster.entries }, rear := t.rear } ∧
      t.seat.stage = u.seat.stage ∧ t.seat.ownSeat = u.seat.ownSeat ∧ t.roster.reasm = u.roster.reasm ∧
      t.roster.due = u.roster.due ∧ t.rear = w.rear ∧
      (∀ q, u.seated = false ∨ q ≠ u.seat.ownSeat →
        Table.get t.roster.entries q = if q = p then (Table.get u.roster.entries q).map F else Table.get u.roster.entries q) ∧
      (u.seated = true →
        (Table.get t.roster.entries u.seat.ownSeat).map b = (Table.get u.roster.entries u.seat.ownSeat).map b) := by
  have hm := modEntry_eq p F u
  have hall : RearOnly b (modEntry p F u) t := by
    rw [hfs]
    exact h.rear.trans (.of_primary h.fault (settle_primary w))
  have hp : t.primary = State.primary { u with roster := { u.roster with entries := t.roster.entries }, rear := t.rear } := by
    have h1 := hall.primary
    rw [hm] at h1
    exact h1
  obtain ⟨-, -, -, -, -, -, -, hg, ho, -, -, -, -, -, -, -, -, -, -, -, -, hr, hd, -⟩ := primary_fields hp
  have hown : (modEntry p F u).seat.ownSeat = u.seat.ownSeat := by rw [hm]
  refine ⟨hp, hg, ho, hr, hd, ?_, fun q hq => ?_, fun hs => ?_⟩
  · rw [hfs, (settle_keeps w).2.2.2.2.1]
  · have hget : Table.get t.roster.entries q = Table.get (modEntry p F u).roster.entries q := by
      by_cases hs : u.seated = false
      · have hw := h.unseated hs
        obtain ⟨hro, -⟩ := settle_unseated (u := w) (by rw [hw, hm]; exact hs)
        rw [hfs, hro, hw]
      · exact hall.entries q (by rw [hown]; exact hq.resolve_left hs)
    rw [hget, get_modEntry]
    by_cases hqp : q = p
    · have hx : (u.seated && p == u.seat.ownSeat) = false := by
        rcases hq with hq | hq
        · simp [hq]
        · simp [← hqp, hq]
      rw [if_pos hqp, if_pos ⟨hx, hqp⟩]
    · rw [if_neg hqp, if_neg fun hx => hqp hx.2]
  · have hn := hall.own
    rw [hown] at hn
    rw [hn, get_modEntry, if_neg]
    rintro ⟨hx, he⟩
    simp [hs, he] at hx

/-! ### The announcement through such a frame -/

/-- A frame offered to a queue with room, unless it is one queued one at a time, touches the line alone. -/
theorem offer_room {f : Frame} (hf : f.isSequenced = false) (h : s.line.queue.length < 8) :
    (∃ l, offer f s = { s with line := l }) ∧ (offer f s).line.queue.length ≤ s.line.queue.length + 1 := by
  refine ⟨?_, ?_⟩
  · by_cases hq : s.queueTakes f = true
    · by_cases hc : f.replaceClass = none
      · have hn : ¬(f.kind = 8 ∨ f.kind = 11) := fun hk => by rw [(isSequenced_iff f).mpr hk] at hf; cases hf
        exact ⟨_, (offer_enters hq (.inl ⟨hc, fun hk => absurd hk hn⟩)).trans (enterQueue_room _ h)⟩
      · cases hx : s.line.queue.find? fun e => e.frame.replaceClass == f.replaceClass with
        | none =>
          refine ⟨_, (offer_enters hq (.inr ⟨hc, fun e he hec => ?_⟩)).trans (enterQueue_room _ h)⟩
          have := List.find?_eq_none.mp hx e he
          simp [hec] at this
        | some x =>
          rw [offer_replaces hq hc hx]
          split <;> exact ⟨_, rfl⟩
    · exact ⟨_, offer_refused (Bool.eq_false_iff.mpr hq)⟩
  · obtain ⟨q, fo, o, hl, -, ho⟩ := offer_line f s
    rw [hl]
    cases ho with
    | same => exact Nat.le_succ _
    | entered => simp [(insertEntry_perm _ _).length_eq]
    | inPlace x =>
      have := List.length_filter_le (fun y => y.id != x.id) s.line.queue
      simp [(insertEntry_perm _ _).length_eq]
      omega
    | replaced => simp
    | held => exact Nat.le_succ _

/-- A fault cleared with room for its FAULT frame leaves the announcement. -/
theorem clearFault_announce (c : FaultCode) (k : Nat) (h : s.line.queue.length < 8) :
    (clearFault c k s).roster.announce = s.roster.announce := by
  unfold clearFault
  split
  · rfl
  · split
    · rfl
    · next x _ =>
      unfold removeFault queueFault
      have hset (l : List FaultEntry) : (setFaultList l s).roster.announce = s.roster.announce := by
        unfold setFaultList
        dsimp only
        split <;> rfl
      split
      · obtain ⟨⟨l, hl⟩, -⟩ := offer_room (s := setFaultList (s.faults.list.filter fun y => !(y.code == x.code && y.subject == x.subject)) s)
          (f := .fault x.code x.subject x.severity false
            (summaryOf (setFaultList (s.faults.list.filter fun y => !(y.code == x.code && y.subject == x.subject)) s)
              (setFaultList (s.faults.list.filter fun y => !(y.code == x.code && y.subject == x.subject)) s).faults.list)) rfl h
        rw [hl]
        exact hset _
      · exact hset _

theorem queueNotice_announce {f : Frame} (n : Note) (hf : f.isSequenced = false) (h : s.line.queue.length < 8) :
    (queueNotice f n s).roster.announce = s.roster.announce ∧ (queueNotice f n s).line.queue.length ≤ s.line.queue.length + 1 := by
  obtain ⟨⟨l, hl⟩, hlen⟩ := offer_room hf h
  unfold queueNotice modOwnEntry
  split
  · exact ⟨by rw [hl], hlen⟩
  · exact ⟨by rw [hl], hlen⟩

/-- With room for two frames a STAGE TAKE leaves the announcement. -/
theorem rearTake_announce (p : Nat) (h : s.line.queue.length ≤ 6) : (rearTake p s).roster.announce = s.roster.announce := by
  unfold rearTake
  split
  · rfl
  · split
    · have h1 : (if s.rear.status.lighting then queueNotice .stageYield .yielded (setRear .none s) else s).roster.announce =
            s.roster.announce ∧
          (if s.rear.status.lighting then queueNotice .stageYield .yielded (setRear .none s) else s).line.queue.length < 8 := by
        split
        · obtain ⟨ha, hl⟩ := queueNotice_announce (s := setRear .none s) (f := .stageYield) .yielded rfl (by show s.line.queue.length < 8; omega)
          exact ⟨ha, by have : (setRear .none s).line.queue.length = s.line.queue.length := rfl
                        omega⟩
        · exact ⟨rfl, by omega⟩
      unfold takeFromBehind
      dsimp only
      generalize (if s.rear.status.lighting then queueNotice .stageYield .yielded (setRear .none s) else s) = v at h1
      have h2 := (clearFault_announce .rearDeficient 0 h1.2).trans h1.1
      split
      · exact h2
      · exact h2
    · split
      · unfold takeFromFront
        split
        · exact (queueNotice_announce _ rfl (by omega)).1
        · rfl
      · rfl

/-- Two states agree in the blocks that the judgements but the lamps' read. -/
structure SameBlocks (s t : State) : Prop where
  loader : t.loader = s.loader
  seat : t.seat = s.seat
  phase : t.phase = s.phase
  demand : t.demand = s.demand
  sensor : t.sensor = s.sensor
  bodies : t.body.channels = s.body.channels

theorem SameBlocks.refl (s : State) : SameBlocks s s := ⟨rfl, rfl, rfl, rfl, rfl, rfl⟩

theorem SameBlocks.trans (h : SameBlocks s t) (k : SameBlocks t u) : SameBlocks s u :=
  ⟨k.loader.trans h.loader, k.seat.trans h.seat, k.phase.trans h.phase, k.demand.trans h.demand, k.sensor.trans h.sensor,
    k.bodies.trans h.bodies⟩

theorem SameBlocks.of_unfaulted (h : t.unfaulted = s.unfaulted) : SameBlocks s t := by
  obtain ⟨-, -, hl, -, hs, hp, hd, -, -, hse, -, -, -, -, hb, -⟩ := unfaulted_fields h
  exact ⟨hl, hs, hp, hd, hse, hb⟩

theorem queueNotice_blocks (f : Frame) (n : Note) (s : State) : SameBlocks s (queueNotice f n s) := by
  refine (SameBlocks.of_unfaulted (unfaulted_of_unqueued (offer_unqueued s f))).trans ?_
  unfold queueNotice modOwnEntry
  split <;> exact ⟨rfl, rfl, rfl, rfl, rfl, rfl⟩

theorem rearTake_blocks (p : Nat) (s : State) : SameBlocks s (rearTake p s) := by
  have hbehind : SameBlocks s (takeFromBehind p s) := by
    have h1 : SameBlocks s (if s.rear.status.lighting then queueNotice .stageYield .yielded (setRear .none s) else s) := by
      split
      · exact SameBlocks.trans (t := setRear .none s) ⟨rfl, rfl, rfl, rfl, rfl, rfl⟩ (queueNotice_blocks _ _ _)
      · exact .refl s
    unfold takeFromBehind
    dsimp only
    generalize (if s.rear.status.lighting then queueNotice .stageYield .yielded (setRear .none s) else s) = v at h1
    have h2 := h1.trans (.of_unfaulted (clearFault_unfaulted v .rearDeficient 0))
    split
    · exact h2.trans ⟨rfl, rfl, rfl, rfl, rfl, rfl⟩
    · exact h2
  unfold rearTake
  split
  · exact .refl s
  · split
    · exact hbehind
    · split
      · unfold takeFromFront
        split
        · exact queueNotice_blocks _ _ s
        · exact .refl s
      · exact .refl s

theorem rearDecline_eq (p : Nat) (d : Deficiency) (s : State) :
    rearDecline p d s = { s with rear := (rearDecline p d s).rear } := by
  unfold rearDecline
  split
  · dsimp only
    split <;> rfl
  · rfl

theorem RearOnly.holds (h : RearOnly b s t) (q : Nat) : Table.holds t.roster.entries q = Table.holds s.roster.entries q := by
  by_cases hq : q = s.seat.ownSeat
  · subst hq
    simpa [Table.holds] using congrArg Option.isSome h.own
  · rw [Table.holds, h.entries q hq, Table.holds]

theorem holds_modEntry (p q : Nat) (F : RosterEntry → RosterEntry) (s : State) :
    Table.holds (modEntry p F s).roster.entries q = Table.holds s.roster.entries q := by
  rw [Table.holds, get_modEntry, Table.holds]
  split
  · exact Option.isSome_map ..
  · rfl

/-- Where such a frame finds a station in agreement, the judgements leave the announcement. -/
theorem EntryFrame.announce {F : RosterEntry → RosterEntry} {p : Nat} (h : EntryFrame F b p u w) (hset : Settled u)
    (hb : SameBlocks u w) : (settle w).roster.announce = w.roster.announce := by
  have he (q : Nat) : Table.holds w.roster.entries q = Table.holds u.roster.entries q :=
    (h.rear.holds q).trans (holds_modEntry ..)
  have hw : SetsSettled w := hset.sets.congr
    ⟨by rw [hb.loader], by rw [hb.seat], by rw [hb.seat], by rw [hb.seat], by rw [hb.seat], he, hb.phase, by rw [hb.demand],
      by rw [hb.sensor], by rw [hb.sensor], by rw [hb.sensor], by rw [hb.sensor], hb.bodies⟩
  rw [settle_of_sets hw]
  rfl

theorem frameHeard_settled (h : Settled s) (k p : Nat) (d : List Byte) : Settled (frameHeard k p d s) :=
  h.congr ⟨⟨rfl, rfl, rfl, rfl, rfl, fun _ => rfl, rfl, rfl, rfl, rfl, rfl, rfl, rfl⟩, rfl, rfl, rfl⟩

/-! ### The six frames -/

/-- An entry but for its fault summary. -/
def RosterEntry.unfaulted (e : RosterEntry) : RosterEntry := { e with fault := none }

/-- An entry but for its fault summary and its note. -/
def RosterEntry.unnoted (e : RosterEntry) : RosterEntry := { e with fault := none, note := .none }

theorem modEntry_frame (p : Nat) (F : RosterEntry → RosterEntry) (u : State) :
    EntryFrame F RosterEntry.unfaulted p u (modEntry p F u) := ⟨.refl _ _, fun _ => rfl, fun _ => rfl⟩

theorem modEntry_blocks (p : Nat) (F : RosterEntry → RosterEntry) (u : State) : SameBlocks u (modEntry p F u) := by
  rw [modEntry_eq]
  exact ⟨rfl, rfl, rfl, rfl, rfl, rfl⟩

theorem take_frame (p : Nat) (u : State) :
    EntryFrame (fun e => { e with note := .taken }) RosterEntry.unnoted p u (rearTake p (noteEntry p .taken u)) := by
  refine ⟨rearTake_rearOnly (fun _ => rfl) (fun _ _ => rfl) p _, fun hs => ?_, fun _ => rfl⟩
  rw [rearTake, if_pos]
  · rfl
  · rw [noteEntry, modEntry_eq]
    simpa [State.seated] using hs

theorem decline_frame (p : Nat) (d : Deficiency) (u : State) :
    EntryFrame (fun e => { e with note := .declined }) RosterEntry.unfaulted p u
      (rearDecline p d (noteEntry p .declined u)) := by
  refine ⟨rearDecline_rearOnly p d _, fun hs => ?_, fun _ => rfl⟩
  have hs' : (modEntry p (fun e => { e with note := .declined }) u).seated = false := by
    rw [modEntry_eq]
    exact hs
  rw [rearDecline, if_neg]
  · rfl
  · rw [noteEntry, hs']
    simp

/-- The entry at the sender position once the judgements are made. -/
theorem EntryFrame.entry {F : RosterEntry → RosterEntry} {k p : Nat} {d : List Byte} {old : RosterEntry}
    (h : EntryFrame F b p (frameHeard k p d s) w) (ho : Table.get s.roster.entries p = some old)
    (hs : s.seated = false ∨ p ≠ s.seat.ownSeat) : Table.get (settle w).roster.entries p = some (F old) := by
  obtain ⟨-, -, -, -, -, -, hq, -⟩ := h.settled (t := settle w) rfl
  rw [hq p hs, if_pos rfl, show Table.get (frameHeard k p d s).roster.entries p = _ from ho]
  rfl

/-- What such a frame leaves of the station but its sender's entry: `A` is where its effect leaves the announcement, `R` and `R'`
where it leaves the rear end. -/
theorem EntryFrame.rest {F c : RosterEntry → RosterEntry} {k p : Nat} {d : List Byte} {A R R' : Prop}
    (h : EntryFrame F b p (frameHeard k p d s) w) (hb : SameBlocks (frameHeard k p d s) w) (hc : c = b)
    (ha : A → w.roster.announce = s.roster.announce) (hr : R → R' → w.rear = s.rear) (hfs : t = settle w) :
    t.primary = State.primary
        { s with
          roster := { s.roster with entries := t.roster.entries }
          line := s.line.heard k p d
          seat := { s.seat with pos1Heard := s.seat.pos1Heard || (s.seat.stage == .listen && p == 1) }
          rear := t.rear } ∧
      t.seat.stage = s.seat.stage ∧ t.seat.ownSeat = s.seat.ownSeat ∧ t.roster.reasm = s.roster.reasm ∧
      t.roster.due = s.roster.due ∧
      (Settled s → A → t.roster.announce = s.roster.announce) ∧
      (∀ q, q ≠ p → s.seated = false ∨ q ≠ s.seat.ownSeat → Table.get t.roster.entries q = Table.get s.roster.entries q) ∧
      (s.seated = true →
        (Table.get t.roster.entries s.seat.ownSeat).map c = (Table.get s.roster.entries s.seat.ownSeat).map c) ∧
      (R → R' → t.rear = s.rear) := by
  subst hc
  obtain ⟨hp, hg, ho, hm, hd, hre, hq, hown⟩ := h.settled hfs
  refine ⟨hp, hg, ho, hm, hd, fun hset hx => ?_, fun q hqp hx => (hq q hx).trans (if_neg hqp), hown,
    fun hx hy => hre.trans (hr hx hy)⟩
  rw [hfs, h.announce (frameHeard_settled hset k p d) hb]
  exact ha hx

theorem modEntry_announce (p : Nat) (F : RosterEntry → RosterEntry) (u : State) :
    (modEntry p F u).roster.announce = u.roster.announce := by rw [modEntry_eq]

theorem modEntry_rear (p : Nat) (F : RosterEntry → RosterEntry) (u : State) : (modEntry p F u).rear = u.rear := by
  rw [modEntry_eq]

theorem modEntry_queue (p : Nat) (F : RosterEntry → RosterEntry) (u : State) :
    (modEntry p F u).line.queue = u.line.queue := by rw [modEntry_eq]

theorem rearDecline_blocks (p : Nat) (d : Deficiency) (s : State) : SameBlocks s (rearDecline p d s) := by
  rw [rearDecline_eq]
  exact ⟨rfl, rfl, rfl, rfl, rfl, rfl⟩

theorem rearDecline_announce (p : Nat) (d : Deficiency) (s : State) :
    (rearDecline p d s).roster.announce = s.roster.announce := by rw [rearDecline_eq]

end Sys2Proof.Machine

open Sys2Proof Sys2Proof.Machine

/-- Settles O22, each frame by what it makes of its sender's entry. -/
theorem stageAndFaultFramesTaken : Obligations.StageAndFaultFramesTaken := by
  intro s n g f c x hp h1 h8
  have hc := (ReceivedAs.stageChecked (s := s) (p := n) (g := g) (f := f) (b := c)).next_of hp (by decide) h1 h8 rfl
  have hj := (ReceivedAs.stageJoined (s := s) (p := n) (n := g)).next_of hp (by decide) h1 h8 rfl
  have ht := (ReceivedAs.stageTake (s := s) (p := n)).next_of hp (by decide) h1 h8 rfl
  have hd := (ReceivedAs.stageDecline (s := s) (p := n) (d := g)).next_of hp (by decide) h1 h8 rfl
  have hy := (ReceivedAs.stageYield (s := s) (p := n)).next_of hp (by decide) h1 h8 rfl
  have hf := (ReceivedAs.fault (s := s) (p := n) (c := g) (n := f) (v := c) (b := x)).next_of hp (by decide) h1 h8 rfl
  refine ⟨fun old ho hs => ⟨⟨_, hc, (modEntry_frame ..).entry ho hs⟩, ⟨_, hj, (modEntry_frame ..).entry ho hs⟩,
    ⟨_, ht, (take_frame ..).entry ho hs⟩, ⟨_, hd, (decline_frame ..).entry ho hs⟩, ⟨_, hy, (modEntry_frame ..).entry ho hs⟩,
    ⟨_, hf, (modEntry_frame ..).entry ho hs⟩⟩, ?_⟩
  intro e he
  have hmark (k : Instr) (hk : k ≠ .stageTakeReceived n) :
      (fun r : RosterEntry => { r with fault := none, note := if k = .stageTakeReceived n then .none else r.note }) =
        RosterEntry.unfaulted := by
    simp only [if_neg hk]
    rfl
  simp only [List.mem_cons, List.not_mem_nil, or_false] at he
  rcases he with rfl | rfl | rfl | rfl | rfl | rfl
  · exact ⟨_, hc, (modEntry_frame ..).rest (modEntry_blocks ..) (hmark (.stageCheckedReceived n g f c) (by simp))
      (fun _ => modEntry_announce ..) (fun _ _ => modEntry_rear ..) rfl⟩
  · exact ⟨_, hj, (modEntry_frame ..).rest (modEntry_blocks ..) (hmark (.stageJoinedReceived n g) (by simp))
      (fun _ => modEntry_announce ..) (fun _ _ => modEntry_rear ..) rfl⟩
  · refine ⟨_, ht, (take_frame ..).rest ((modEntry_blocks ..).trans (rearTake_blocks ..)) (by simp only [if_true]; rfl)
      (fun h => ?_) (fun h => absurd rfl h) rfl⟩
    have hq : s.line.queue.length ≤ 6 := h.resolve_left fun h => h rfl
    rw [rearTake_announce _ (by rw [noteEntry, modEntry_queue, frameHeard_queue]; exact hq), noteEntry, modEntry_announce]
    rfl
  · exact ⟨_, hd, (decline_frame ..).rest ((modEntry_blocks ..).trans (rearDecline_blocks ..))
      (hmark (.stageDeclineReceived n g) (by simp)) (fun _ => (rearDecline_announce ..).trans (modEntry_announce ..)) (fun _ h => absurd rfl h) rfl⟩
  · exact ⟨_, hy, (modEntry_frame ..).rest (modEntry_blocks ..) (hmark (.stageYieldReceived n) (by simp))
      (fun _ => modEntry_announce ..) (fun _ _ => modEntry_rear ..) rfl⟩
  · exact ⟨_, hf, (modEntry_frame ..).rest (modEntry_blocks ..) (hmark (.faultReceived n g f c x) (by simp))
      (fun _ => modEntry_announce ..) (fun _ _ => modEntry_rear ..) rfl⟩

end

section
/-! SUPPORT. A MARK heard, and JOINED entered: O28. -/

namespace Sys2Proof.Machine

variable {s t u v : State} {n : Nat}

/-! ### What leaves the phase and queues no MARK -/

/-- The phase and the time stay, and no MARK is queued. -/
structure Unmarking (s t : State) : Prop where
  now : t.now = s.now
  phase : t.phase = s.phase
  frames : NewFrames (·.isMark = false) s t

theorem Unmarking.refl (s : State) : Unmarking s s := ⟨rfl, rfl, .refl s⟩

theorem Unmarking.trans (h : Unmarking s t) (k : Unmarking t u) : Unmarking s u :=
  ⟨k.now.trans h.now, k.phase.trans h.phase, h.frames.trans k.frames⟩

/-- An update first that touches none of the three. -/
theorem Unmarking.after (k : Unmarking v t) (hn : v.now = s.now) (hp : v.phase = s.phase)
    (hq : v.line.queue = s.line.queue) : Unmarking s t :=
  Unmarking.trans ⟨hn, hp, .same hq⟩ k

theorem Unmarking.of_primary (h : t.primary = s.primary) (hn : NewFrames (·.isMark = false) s t) : Unmarking s t :=
  ⟨(primary_fields h).2.1, (primary_fields h).2.2.2.1, hn⟩

theorem Frame.isMark_of_follows (f : Frame) (h : f.follows) : f.isMark = false := by
  cases f <;> first | rfl | exact h.elim

theorem offer_unmarking {f : Frame} (hf : f.isMark = false) (s : State) : Unmarking s (offer f s) :=
  .of_primary (offer_primary s f) (offer_newFrames f hf s)

theorem settle_unmarking (s : State) : Unmarking s (settle s) :=
  .of_primary (settle_primary s) ((settle_newFrames s).mono Frame.isMark_of_follows)

theorem raiseFault_unmarking (c : FaultCode) (k n : Nat) (s : State) : Unmarking s (raiseFault c k n s) :=
  .of_primary (raiseFault_primary s c k n)
    ((raiseFault_newFrames c k n s).mono fun f h => f.isMark_of_follows (f.follows_of_isFault h))

theorem modOwnEntry_unmarking (g : RosterEntry → RosterEntry) (s : State) : Unmarking s (modOwnEntry g s) := by
  unfold modOwnEntry
  split <;> exact ⟨rfl, rfl, .same rfl⟩

theorem setRear_unmarking (r : RearStatus) (s : State) : Unmarking s (setRear r s) := ⟨rfl, rfl, .same rfl⟩

theorem queueNotice_unmarking {f : Frame} (hf : f.isMark = false) (n : Note) (s : State) : Unmarking s (queueNotice f n s) :=
  (offer_unmarking hf s).trans (modOwnEntry_unmarking _ _)

theorem entryDecision_unmarking (s : State) : Unmarking s (entryDecision s) := by
  unfold entryDecision
  split
  · exact setRear_unmarking _ s
  · split
    · exact (queueNotice_unmarking rfl _ s).trans (setRear_unmarking _ _)
    · dsimp only
      have h : Unmarking s (queueNotice (.stageDecline s.deficiency) .declined s) := queueNotice_unmarking rfl _ s
      split
      · exact h
      · exact h.trans (raiseFault_unmarking _ _ _ _)

theorem offerSegment_unmarking (s : State) : Unmarking s (offerSegment s) := by
  unfold offerSegment
  split
  · exact .refl s
  · exact (offer_unmarking rfl _).after rfl rfl rfl

theorem beginSequence_unmarking (p : Purpose) (s : State) : Unmarking s (beginSequence p s) :=
  (offerSegment_unmarking _).after rfl rfl rfl

theorem runSequence_unmarking (p : Purpose) (s : State) : Unmarking s (runSequence p s) := by
  unfold runSequence
  split
  · exact .refl s
  · split
    · exact beginSequence_unmarking p s
    · dsimp only [restartSequence]
      split
      · exact ⟨rfl, rfl, .same rfl⟩
      · have hw : Unmarking s (withdraw Frame.isProfile s) := ⟨rfl, rfl, withdraw_newFrames _ s⟩
        exact hw.trans (beginSequence_unmarking _ _)

theorem actOnDue_unmarking (s : State) : Unmarking s (actOnDue s) := by
  unfold actOnDue
  split
  · exact (runSequence_unmarking _ _).after rfl rfl rfl
  · exact .refl s

theorem enterJoined_unmarking (hp : v.phase = { s.phase with syncTimer := .stopped }) (hn : v.now = s.now)
    (hq : v.line.queue = s.line.queue) : Unmarking v (enterJoined s) := by
  have h1 : Unmarking v (setStage .joined { s with phase := { s.phase with syncTimer := .stopped } }) :=
    ⟨hn.symm, hp.symm, .same hq.symm⟩
  exact h1.trans ((modOwnEntry_unmarking _ _).trans
    ((entryDecision_unmarking _).trans ((offer_unmarking rfl _).trans (actOnDue_unmarking _))))

/-! ### A MARK heard -/

/-- At the time `n`, which is the last-MARK time, no MARK waits. -/
structure MarkedNow (n : Nat) (s : State) : Prop where
  now : s.now = n
  last : s.phase.lastMark = some n
  none : ∀ e ∈ s.line.queue, e.frame.isMark = true → e.inFlight = true

theorem MarkedNow.after (h : MarkedNow n s) (k : Unmarking s t) : MarkedNow n t where
  now := k.now.trans h.now
  last := by rw [k.phase, h.last]
  none := k.frames.none_pending (fun _ hf => hf) h.none

theorem MarkedNow.of_fields (h : MarkedNow n s) (hp : t.phase.lastMark = s.phase.lastMark) (hn : t.now = s.now)
    (hq : t.line.queue = s.line.queue) : MarkedNow n t :=
  ⟨hn.trans h.now, hp.trans h.last, by rw [hq]; exact h.none⟩

/-- A MARK just received forbids the own (R53). -/
theorem MarkedNow.markDecision_eq (h : MarkedNow n s) (q : Nat) : markDecision q s = s := by
  unfold markDecision State.markHeard
  simp [h.last, h.now]

theorem wrapGates_keeps (s : State) :
    (wrapGates s).phase = s.phase ∧ (wrapGates s).now = s.now ∧ (wrapGates s).line = s.line := by
  unfold wrapGates
  split <;> exact ⟨rfl, rfl, rfl⟩

theorem MarkedNow.takeWrap (h : MarkedNow n s) : MarkedNow n (takeWrap s) := by
  have hw : MarkedNow n
      { s with
        phase := s.phase.wrapped
        lamps := { s.lamps with channels := s.lamps.channels.map Channel.newCycle }
        line := { s.line with reception := s.line.reception.map (Reception.carried s.phase.len) } } :=
    h.of_fields rfl rfl rfl
  unfold Machine.takeWrap
  dsimp only
  rw [hw.markDecision_eq]
  obtain ⟨hp, hn, hl⟩ := wrapGates_keeps
    { s with
      phase := s.phase.wrapped
      lamps := { s.lamps with channels := s.lamps.channels.map Channel.newCycle }
      line := { s.line with reception := s.line.reception.map (Reception.carried s.phase.len) } }
  exact hw.of_fields (by rw [hp]) hn (by rw [hl])

theorem MarkedNow.wrapIfOver (h : MarkedNow n s) : MarkedNow n (wrapIfOver s) := by
  unfold Machine.wrapIfOver
  split
  · exact h.takeWrap
  · exact h

theorem MarkedNow.applyMark (h : MarkedNow n s) (p d l : Nat) (x : Int) : MarkedNow n (applyMark p d l x s) := by
  unfold Machine.applyMark
  split
  · exact h
  · split
    · have hj : MarkedNow n (enterJoined { s with phase := s.phase.stepped p d l x }) :=
        (h.of_fields (t := { s with phase := s.phase.stepped p d l x }) rfl rfl rfl).after
          (enterJoined_unmarking rfl rfl rfl)
      exact (hj.after (settle_unmarking _)).wrapIfOver
    · have hj : MarkedNow n { s with phase := s.phase.slewed p d l x } := h.of_fields rfl rfl rfl
      exact hj.wrapIfOver
    all_goals exact h

/-- The own MARK withdrawn leaves none that waits. -/
theorem withdrawMark_none (s : State) : ∀ e ∈ (withdrawMark s).line.queue, e.frame.isMark = true → e.inFlight = true := by
  intro e he hm
  have := (List.mem_filter.mp he).2
  simpa [hm] using this

theorem takeMark_marked (p d l : Nat) (x : Int) (s : State) : MarkedNow s.now (takeMark p d l x s) :=
  have h : MarkedNow s.now (withdrawMark { s with phase := { s.phase with lastMark := some s.now } }) :=
    ⟨rfl, rfl, withdrawMark_none _⟩
  h.applyMark p d l x

/-- A MARK that is not applied. -/
theorem applyMark_unapplied (p d l : Nat) (x : Int)
    (h : s.phase.marked = true ∨ (s.seat.stage ≠ .sync ∧ s.seat.stage ≠ .joined)) : applyMark p d l x s = s := by
  unfold applyMark
  rcases h with h | ⟨hs, hj⟩
  · rw [if_pos h]
  · split
    · rfl
    · split
      · exact absurd ‹_› hs
      · exact absurd ‹_› hj
      all_goals rfl

/-- The own MARK withdrawn, and the judgements, leave all else that an event writes. -/
theorem withdrawMark_settled (hfs : t = settle (withdrawMark s)) :
    t.phase = s.phase ∧ t.primary = s.primary ∧ t.seat.stage = s.seat.stage := by
  have hpr : t.primary = s.primary := by
    rw [hfs]
    exact settle_primary _
  obtain ⟨-, -, -, hph, -, -, -, hg, -⟩ := primary_fields hpr
  exact ⟨hph, hpr, hg⟩

/-- A MARK in its ranges from a sender position passes the tests of R178. -/
theorem frameValid_mark_of {own p : Nat} {x y : Half} {a : Byte} (h1 : 1 ≤ p) (h8 : p ≤ 8) (hx : 500 ≤ x.toNat)
    (hx' : x.toNat ≤ 1000) (ha : 30 ≤ a.toNat) (ha' : a.toNat ≤ 70) (hy : y.toNat < own) :
    frameValid own 1 p (markBytes x a y) = true := by
  refine (frameValid_iff ..).mpr ⟨rfl, .inl ⟨h1, h8⟩, fun _ => (markOk_iff ..).mpr ?_⟩
  simp only [markBytes, bytes2, byteAt, List.cons_append, List.nil_append, List.getD_cons_zero, List.getD_cons_succ]
  rw [word2_bytes2 x.isLt, word2_bytes2 y.isLt]
  exact ⟨hx, hx', ha, ha', hy⟩

end Sys2Proof.Machine

open Sys2Proof Sys2Proof.Machine

/-- Settles O28, each event of the phase by its own effect. -/
theorem markHeardAnywhere : Obligations.MarkHeardAnywhere := by
  refine ⟨fun s n period duty lag hp => ⟨fun h1 h8 hx hx' ha ha' hy => ?_, fun hm => ?_, fun hg hr => ?_, fun hl => ?_⟩,
    fun u => ⟨rfl, fun hd hg hm => ?_, fun h => ?_⟩⟩
  · have he := (ReceivedAs.mark (s := s) (p := n) (t := period) (d := duty) (l := lag)).next hp
      (frameValid_mark_of h1 h8 hx hx' ha ha' hy)
    refine ⟨?_, fun h => ⟨_, he, ?_⟩⟩
    · have hm := (takeMark_marked period.toNat duty.toNat lag.toNat s.phaseHeard (countFree s.line.reception.isSome
        (frameHeard 1 n.toNat (markBytes period duty lag) s))).after (settle_unmarking _)
      exact ⟨_, he, hm.last, hm.none⟩
    · rw [takeMark, applyMark_unapplied _ _ _ _ (by exact h)]
      obtain ⟨hph, hpr, hg⟩ := withdrawMark_settled (t := settle _) rfl
      refine ⟨hph, ?_, hg⟩
      rw [hpr, hph]
      cases s.line.reception <;> rfl
  · exact ⟨_, whenRunning_admitted (fun s => s.markPending) hp hm,
      (settle_newFrames _).none_pending Frame.isMark_of_follows (withdrawMark_none s), settle_primary _⟩
  · have he : exec .syncTimerExpiry s = .next (settle (syncOver s)) :=
      whenRunning_admitted (fun s => s.phase.syncTimer.isRunning && s.seat.stage == .sync) hp (by simp [hg, hr])
    refine ⟨he, _, he, ?_, ?_⟩
    · rw [(settle_keeps _).2.2.2.2.2.2.2.1, syncOver, enterJoined_stage]
    · rw [(settle_unmarking _).phase]
      exact (enterJoined_unmarking (v := { s with phase := { s.phase with lock := .own, quiet := 3, syncTimer := .stopped } })
        rfl rfl rfl).phase
  · exact whenRunning_admitted (fun s => s.loaded) hp (by simp [State.loaded, hl])
  · rw [actOnDue, if_pos (by simp [hd, State.joined, hg, hm])]
  · rw [actOnDue, if_neg (by rcases h with h | h | h <;> simp [State.joined, h])]

end

section
/-! SUPPORT. Load done: O9 and O10. -/

namespace Sys2Proof.Machine

variable {s t u v : State} {p : LoadSample}

/-! ### The faults of load done -/

/-- A latched code other than the raised one stands as it did. -/
theorem raiseFault_latched {c d : FaultCode} {k n : Nat} (hne : d ≠ c) (hd : d.latched = true) (j : Nat) (s : State) :
    (raiseFault c k n s).hasFault d j = s.hasFault d j := by
  rw [Bool.eq_iff_iff]
  refine ⟨raiseFault_only fun h => hne h.1, fun h => ?_⟩
  rw [hasFault_iff] at h ⊢
  obtain ⟨e, he, hc, hj⟩ := h
  exact ⟨e, raiseFault_mem he (.inr fun x _ hx _ => .inr (by rw [hx, hc]; exact hd)), hc, hj⟩

theorem settle_latched {d : FaultCode} (hd : d.latched = true) (j : Nat) (s : State) :
    (settle s).hasFault d j = s.hasFault d j := by
  have hne : d ≠ .demandLost := fun h => by rw [h] at hd; cases hd
  rw [Bool.eq_iff_iff]
  refine ⟨settle_hasFault_only hne, fun h => ?_⟩
  rw [hasFault_iff] at h ⊢
  obtain ⟨e, he, hc, hj⟩ := h
  exact ⟨e, settle_fault_mem he (by rwa [hc]) (.inr (.inr fun x _ hx _ => .inr (by rw [hx, hc]; exact hd))), hc, hj⟩

/-- The faults of restored health raise lamp faults alone. -/
theorem restoredFaults_latched {d : FaultCode} (hl : d.isLamp = false) (hd : d.latched = true) (j : Nat) (s : State) :
    (restoredFaults s).hasFault d j = s.hasFault d j := by
  have key (l : List Nat) (v : State) :
      (l.foldl (fun s n => raiseHealthFault n (s.channel n).health s) v).hasFault d j = v.hasFault d j := by
    induction l generalizing v with
    | nil => rfl
    | cons n l ih =>
      rw [List.foldl_cons, ih]
      unfold raiseHealthFault
      split
      · rfl
      · next c hc =>
        refine raiseFault_latched (fun h => ?_) hd j v
        subst h
        cases hh : (v.channel n).health <;> rw [hh] at hc <;> cases hc <;> cases hl
  exact key _ s

/-- From an empty list IDENTITY-MISSING and PROFILE-DEFAULT are raised exactly where they apply. -/
theorem loadFaults_hasFault (h : s.faults.list = []) :
    ((loadFaults s).hasFault .identityMissing 0 = true ↔ s.loader.identity = 0) ∧
    ((loadFaults s).hasFault .profileDefault 0 = true ↔ s.loader.profileDefault = true) := by
  have h0 (c : FaultCode) : s.hasFault c 0 = false := by simp [State.hasFault, h]
  have hd (u : State) (hu : u.faults.list.length < 8) (hp : u.loader.profileDefault = s.loader.profileDefault)
      (hn : u.hasFault .profileDefault 0 = false) :
      ((if u.loader.profileDefault then raiseFault .profileDefault 0 2 u else u).hasFault .identityMissing 0 =
        u.hasFault .identityMissing 0) ∧
      ((if u.loader.profileDefault then raiseFault .profileDefault 0 2 u else u).hasFault .profileDefault 0 = true ↔
        s.loader.profileDefault = true) := by
    rw [hp]
    split
    · next hs => exact ⟨raiseFault_latched (by decide) rfl 0 u, by simp [hs, raiseFault_hasFault _ 0 2 hu]⟩
    · next hs => exact ⟨rfl, by simp [hs, hn]⟩
  unfold loadFaults
  dsimp only
  split
  · next hi =>
    have hlen := raiseFault_length .identityMissing 0 3 s
    rw [h] at hlen
    obtain ⟨h1, h2⟩ := hd (raiseFault .identityMissing 0 3 s) (Nat.lt_of_le_of_lt hlen (by decide))
      (by rw [(unfaulted_fields (raiseFault_unfaulted s .identityMissing 0 3)).2.2.1])
      ((raiseFault_latched (by decide) rfl 0 s).trans (h0 _))
    refine ⟨?_, h2⟩
    rw [h1, raiseFault_hasFault _ 0 3 (by rw [h]; decide)]
    simp [hi]
  · next hi =>
    obtain ⟨h1, h2⟩ := hd s (by rw [h]; decide) rfl (h0 _)
    refine ⟨?_, h2⟩
    rw [h1, h0]
    exact ⟨fun hx => absurd hx Bool.false_ne_true, fun hx => absurd hx hi⟩

/-- At an unseated station the faults of load done touch the list and ATTN alone. -/
theorem loadedFaults_unseated (h : s.seated = false) :
    ∃ f a, restoredFaults (loadFaults s) = { s with faults := f, port := { s.port with attn := a } } := by
  have one (c : FaultCode) (k n : Nat) (v : State) (f : FaultList) (a : Bool)
      (hv : v = { s with faults := f, port := { s.port with attn := a } }) :
      ∃ f a, raiseFault c k n v = { s with faults := f, port := { s.port with attn := a } } := by
    obtain ⟨g, b, hr⟩ := raiseFault_unseated c k n (s := v) (by rw [hv]; exact h)
    exact ⟨g, b, by rw [hr, hv]⟩
  have many (l : List Nat) (v : State) (f : FaultList) (a : Bool)
      (hv : v = { s with faults := f, port := { s.port with attn := a } }) :
      ∃ f a, l.foldl (fun s n => raiseHealthFault n (s.channel n).health s) v =
        { s with faults := f, port := { s.port with attn := a } } := by
    induction l generalizing v f a with
    | nil => exact ⟨f, a, hv⟩
    | cons n l ih =>
      rw [List.foldl_cons]
      unfold raiseHealthFault
      split
      · exact ih v f a hv
      · obtain ⟨g, b, hr⟩ := one _ _ _ v f a hv
        exact ih _ g b hr
  have hl : ∃ f a, loadFaults s = { s with faults := f, port := { s.port with attn := a } } := by
    have h1 : ∃ f a, (if s.loader.identity = 0 then raiseFault .identityMissing 0 3 s else s) =
        { s with faults := f, port := { s.port with attn := a } } := by
      split
      · exact one _ _ _ s s.faults s.port.attn rfl
      · exact ⟨s.faults, s.port.attn, rfl⟩
    obtain ⟨f, a, h1⟩ := h1
    unfold loadFaults
    dsimp only
    rw [h1]
    split
    · exact one _ _ _ _ f a rfl
    · exact ⟨f, a, rfl⟩
  obtain ⟨f, a, hl⟩ := hl
  exact many _ _ f a hl

/-! ### Dark channels through the judgements -/

theorem judgeFrom_dark (s : State) (k : Nat) (l : List Channel) (hc : ∀ n, s.calledFor n = false)
    (h : ∀ c ∈ l, c.lit = false) : judgeFrom s k l = l := by
  induction l generalizing k with
  | nil => rfl
  | cons c l ih =>
    have hd : c.judge (s.functionOf k) (s.calledFor k) = c := by
      rw [hc, Channel.judge, Channel.setLit]
      simp [h c (List.mem_cons_self ..)]
    rw [judgeFrom, hd, ih _ fun d hd => h d (List.mem_cons_of_mem _ hd)]

theorem judgeSets_retention (s : State) : (judgeSets s).retention = s.retention := by
  unfold judgeSets
  have k0 : (judgeView s).retention = s.retention := rfl
  generalize judgeView s = u0 at k0 ⊢
  have k1 := (endWithdrawn_keeps u0).1.retention
  have k2 := (endMotion_keeps (endWithdrawn u0)).1.retention
  generalize endMotion (endWithdrawn u0) = u3 at k2 ⊢
  have k4 := (judgeOwn_keeps u3).1.retention
  generalize judgeOwn u3 = u4 at k4 ⊢
  obtain ⟨-, -, -, k5, -⟩ := unfaulted_fields (judgeFallback_keeps u4)
  generalize judgeFallback u4 = u5 at k5 ⊢
  have k7 : (endPark (judgeEff u5)).retention = u5.retention := (endPark_keeps (judgeEff u5)).1.retention
  have k8 := (judgeOwn_keeps (endPark (judgeEff u5))).1.retention
  rw [k8, k7, k5, k4, k2, k1, k0]

/-- The judgements leave dark channels, and the record of them, at a station that lights nothing. -/
theorem settle_unlit (hg : u.seat.stage = .listen ∨ (u.seat.stage = .claiming ∧ u.seat.fallbackMark = false))
    (h : ∀ c ∈ u.lamps.channels, c.lit = false) : (settle u).lamps = u.lamps ∧ (settle u).retention = u.retention := by
  obtain ⟨-, -, hl, hs⟩ := judgeSets_judged u
  have hr := judgeSets_retention u
  rw [settle_eq]
  generalize judgeSets u = v at hl hs hr
  have hcall (n : Nat) : (judgeGates (judgeEff v)).calledFor n = false := by
    have hv : (judgeGates (judgeEff v)).seat = u.seat := hs
    rcases hg with hg | ⟨hg, hm⟩
    · rw [State.calledFor, hv, hg]
    · rw [State.calledFor, hv, hg, hm]
      rfl
  have hj : judgeLamps (judgeGates (judgeEff v)) = setChannels u.lamps.channels (judgeGates (judgeEff v)) := by
    rw [judgeLamps, show (judgeGates (judgeEff v)).lamps = u.lamps from hl, judgeFrom_dark _ 1 _ hcall h]
  rw [hj]
  obtain ⟨-, -, -, hk, -, -, -, hm, -⟩ :=
    unqueued_fields (judgeOffer_keeps (setChannels u.lamps.channels (judgeGates (judgeEff v)))).1
  refine ⟨hm.trans ?_, hk.trans ?_⟩
  · show { v.lamps with channels := u.lamps.channels } = u.lamps
    rw [hl]
  · show { v.retention with channels := mirrorChannels v.lamps.channels u.lamps.channels v.retention.channels } = u.retention
    rw [hl, hr, mirrorChannels_self]

/-! ### Load done -/

theorem loadDone_eq (p : LoadSample) (s : State) :
    loadDone p s = tryWarmClaim (restoredFaults (loadFaults (loadListen p s))) := rfl

/-- Load done up to LISTEN, with the faults listed; then the warm rejoin claim is tried. -/
theorem loadDone_listed (p : LoadSample) (s : State) :
    ∃ f a, loadDone p s =
        tryWarmClaim { loadListen p s with faults := f, port := { (loadListen p s).port with attn := a } } ∧
      restoredFaults (loadFaults (loadListen p s)) =
        { loadListen p s with faults := f, port := { (loadListen p s).port with attn := a } } := by
  obtain ⟨f, a, h⟩ := loadedFaults_unseated (loadListen_unseated p s)
  exact ⟨f, a, by rw [loadDone_eq, h], h⟩

/-- Of what an event writes the warm rejoin claim changes the stage and the claim alone. -/
theorem tryWarmClaim_primary (hg : s.seat.stage = .listen) :
    ∃ g c k i b, (g = .listen ∨ g = .claiming) ∧ (tryWarmClaim s).primary = State.primary
      { s with seat := { s.seat with stage := g, claimed := c, claim := k, claimId := i, claimRejoin := b } } := by
  unfold tryWarmClaim
  split
  · exact ⟨_, s.seat.claimed, s.seat.claim, s.seat.claimId, s.seat.claimRejoin, .inl hg, rfl⟩
  · split
    · exact ⟨_, _, _, _, _, .inr rfl, queueClaim_primary ..⟩
    · exact ⟨_, s.seat.claimed, s.seat.claim, s.seat.claimId, s.seat.claimRejoin, .inl hg, rfl⟩

/-- What load done and the judgements after it leave: the blocks as LISTEN was entered, but for the faults and a claim. -/
theorem settle_loadDone (hfs : t = settle (loadDone p s)) :
    ∃ g c k i b, (g = .listen ∨ g = .claiming) ∧ t.primary = State.primary
      { loadListen p s with
        seat := { (loadListen p s).seat with stage := g, claimed := c, claim := k, claimId := i, claimRejoin := b } } := by
  obtain ⟨f, a, h, -⟩ := loadDone_listed p s
  obtain ⟨g, c, k, i, b, hg, hp⟩ := tryWarmClaim_primary
    (s := { loadListen p s with faults := f, port := { (loadListen p s).port with attn := a } }) rfl
  refine ⟨g, c, k, i, b, hg, ?_⟩
  rw [hfs, settle_primary, h, hp]
  rfl

/-- IDENTITY-MISSING and PROFILE-DEFAULT stand after load done exactly where they apply. -/
theorem loadDone_hasFault (h : s.faults.list = []) (hfs : t = settle (loadDone p s)) :
    (t.hasFault .identityMissing 0 = true ↔ (loadListen p s).loader.identity = 0) ∧
    (t.hasFault .profileDefault 0 = true ↔ (loadListen p s).loader.profileDefault = true) := by
  have hl := loadFaults_hasFault (s := loadListen p s) (by rw [(loadListen_keeps p).2.2.2.2.1]; exact h)
  have ht (d : FaultCode) (hd : d.latched = true) (hn : d.isLamp = false) :
      t.hasFault d 0 = (loadFaults (loadListen p s)).hasFault d 0 := by
    rw [hfs, settle_latched hd, loadDone_eq,
      hasFault_congr (s := restoredFaults (loadFaults (loadListen p s))) (congrArg _ (tryWarmClaim_faults _)),
      restoredFaults_latched hn hd]
  rw [ht _ rfl rfl, ht _ rfl rfl]
  exact hl

theorem take_append_of_length {α : Type} {l r : List α} {n : Nat} (h : l.length = n) : (l ++ r).take n = l := by
  rw [← h, List.take_left]

/-- Every start hands the straps, the levels and the phase to their blocks. -/
theorem loadListen_hands (p : LoadSample) (s : State) :
    (loadListen p s).seat.head = p.head ∧
    (loadListen p s).seat.seatIn = (if s.seat.seatInSeen = true then s.seat.seatIn else p.seatIn) ∧
    (loadListen p s).seat.presIn = (if s.seat.presInSeen = true then s.seat.presIn else p.presIn) ∧
    (loadListen p s).seat.unseated = .running 0 5000 ∧
    (loadListen p s).demand.levels = (p.din ++ List.replicate 8 false).take 8 ∧
    (loadListen p s).sensor.levels = (p.cnt ++ List.replicate 4 false).take 4 ∧
    (loadListen p s).sensor.conversion = .running 0 20 ∧
    (loadListen p s).phase =
      { s.phase with
        phi := 0, len := periodOfRate (appliedProfile s.loader.image).rate
        period := periodOfRate (appliedProfile s.loader.image).rate, duty := (appliedProfile s.loader.image).duty } ∧
    (loadListen p s).rear = s.rear ∧ (loadListen p s).pending = s.pending ∧ (loadListen p s).freeCount = s.freeCount := by
  simp only [loadListen, decideRetention]
  split <;> exact ⟨rfl, rfl, rfl, rfl, rfl, rfl, rfl, rfl, rfl, rfl, rfl⟩

/-- The Loader after load done: what it applied, and the start record. -/
theorem loadListen_loader (p : LoadSample) (s : State) :
    (loadListen p s).loader =
      { s.loader with
        identity := appliedIdentity s.loader.image
        profileDefault := appliedDefault s.loader.image
        profile := appliedProfile s.loader.image
        portAddress := 52 + 2 * p.adr1.toNat + p.adr0.toNat
        record :=
          { kind := s.loader.cause, warmPath := (applyImage s).warmTest, outcome := s.loader.outcome,
            profileDefault := appliedDefault s.loader.image, identity := appliedIdentity s.loader.image } } := by
  simp only [loadListen, decideRetention]
  split
  · next h => rw [h]; rfl
  · next h => rw [Bool.eq_false_iff.mpr h]; rfl

theorem exec_loadDone (hp : s.power = .running) (hg : s.seat.stage = .loading)
    (h : s.loader.image ≠ none ∨ 3 ≤ s.loader.attempts) : exec (.loadDone p) s = .next (settle (loadDone p s)) := by
  refine whenRunning_admitted State.readOver hp ?_
  rcases h with h | h
  · simp [State.readOver, hg, Option.isSome_iff_ne_none.mpr h]
  · simp [State.readOver, hg, Config.maxAttempts, h]

/-! ### The retention record written afresh or restored -/

/-- Load done of a start that fails the warm test: the channels as they were, and a fresh record. -/
theorem loadListen_cold (hw : (applyImage s).warmTest = false) :
    (loadListen p s).seat.rejoin = s.seat.rejoin ∧ (loadListen p s).lamps = s.lamps ∧
    (loadListen p s).retention = freshRetention (appliedIdentity s.loader.image) ∧
    (loadListen p s).seat.headListen =
      (if p.head && s.seat.rejoin.isNone then .running 0 300 else s.seat.headListen) := by
  simp only [loadListen, hw, decideRetention, Bool.false_eq_true, if_false]
  exact ⟨rfl, rfl, rfl, rfl⟩

/-- Load done of a start that passes the warm test: the record stands and gives the seat and the channels. -/
theorem loadListen_warm (hw : (applyImage s).warmTest = true) :
    (loadListen p s).seat.rejoin = some s.retention.seat ∧
    (loadListen p s).lamps.channels = restoredChannels (appliedProfile s.loader.image).lamps s.retention.channels ∧
    (loadListen p s).retention = s.retention ∧ (loadListen p s).seat.fallbackMark = s.seat.fallbackMark := by
  simp only [loadListen, hw, decideRetention, if_true]
  exact ⟨rfl, rfl, rfl, rfl⟩

theorem nth_restoredChannels (l : List LampCfg) (r : List (Health × Nat)) (n : Nat) :
    nth (restoredChannels l r) n = (nth l n).bind fun c => (nth r n).map (restoredChannel c.function) := by
  cases n with
  | zero => rfl
  | succ n =>
    induction l generalizing r n with
    | nil => cases r <;> simp [restoredChannels, nth]
    | cons c l ih =>
      cases r with
      | nil => simp [restoredChannels, nth]
      | cons h r =>
        cases n with
        | zero => rfl
        | succ n => exact ih r n

theorem restoredChannel_assigned {f : LampFn} (hf : f ≠ .unassigned) (r : Health × Nat) :
    (restoredChannel f r).health = r.1 ∧ (restoredChannel f r).retry = r.2 ∧
    (r.1 = .short → (restoredChannel f r).short = .resting ∧ (restoredChannel f r).rest = .running 0 2000) := by
  unfold restoredChannel
  rw [if_neg hf]
  split
  · exact ⟨rfl, rfl, fun _ => ⟨rfl, rfl⟩⟩
  · next h => exact ⟨rfl, rfl, fun hs => absurd hs h⟩

theorem restoredChannel_dark (f : LampFn) (r : Health × Nat) : (restoredChannel f r).lit = false := by
  unfold restoredChannel
  split
  · rfl
  · split <;> rfl

theorem restoredChannels_dark (l : List LampCfg) (r : List (Health × Nat)) :
    ∀ c ∈ restoredChannels l r, c.lit = false := by
  induction l generalizing r with
  | nil => intro c hc; cases r <;> cases hc
  | cons d l ih =>
    cases r with
    | nil => intro c hc; cases hc
    | cons h r =>
      intro c hc
      rcases List.mem_cons.mp hc with rfl | hc
      · exact restoredChannel_dark _ _
      · exact ih r c hc

/-- The warm rejoin claim of a head station, or of one whose SEAT-IN is asserted. -/
theorem tryWarmClaim_queues {q : Nat} (hg : s.seat.stage = .listen) (hr : s.seat.rejoin = some q)
    (hi : s.seat.head = true ∨ s.seat.seatIn = true) (hid : s.loader.identity ≠ 0) (hm : s.line.mute = false) :
    tryWarmClaim s = queueClaim q true s := by
  have hc : (s.seat.stage == .listen && (s.seat.head || s.seat.seatIn) && s.hasIdentity && !s.line.mute) = true := by
    simpa [hg, hi, hm, State.hasIdentity] using hid
  simp only [tryWarmClaim, hr, hc, if_true]

theorem tryWarmClaim_held (hh : s.seat.head = false) (hi : s.seat.seatIn = false) : tryWarmClaim s = s := by
  unfold tryWarmClaim
  split
  · rfl
  · simp [hh, hi]

theorem queueClaim_lamps (n : Nat) (b : Bool) (s : State) :
    (queueClaim n b s).lamps = s.lamps ∧ (queueClaim n b s).retention = s.retention ∧
    (queueClaim n b s).loader = s.loader := by
  obtain ⟨-, -, hl, hr, -, -, -, hc, -⟩ := unqueued_fields (offer_unqueued
    { s with
      seat :=
        { s.seat with
          stage := .claiming, claimed := n, claim := .pending, claimId := s.line.nextId, claimRejoin := b } }
    (.seatClaim n s.loader.identity s.loader.profile.cls b))
  exact ⟨hc, hr, hl⟩

/-- A station in LISTEN with a seat to rejoin claims it at once, or waits. -/
structure Rejoined (q : Nat) (v t : State) : Prop where
  lamps : t.lamps = v.lamps
  retention : t.retention = v.retention
  claims : v.seat.head = true ∨ v.seat.seatIn = true →
    t.seat = { v.seat with
      stage := .claiming, claimed := q, claim := .pending, claimId := v.line.nextId, claimRejoin := true
      offer := t.seat.offer } ∧
    t.line.queue.map Entry.frame = [.seatClaim q v.loader.identity v.loader.profile.cls true]
  waits : v.seat.head = false → v.seat.seatIn = false →
    t.seat = { v.seat with offer := t.seat.offer } ∧ t.line.queue = []

theorem tryWarmClaim_rejoined {q : Nat} (hg : v.seat.stage = .listen) (hr : v.seat.rejoin = some q)
    (hf : v.seat.fallbackMark = false) (hid : v.loader.identity ≠ 0) (hm : v.line.mute = false) (hq : v.line.queue = [])
    (hdark : ∀ c ∈ v.lamps.channels, c.lit = false) (hfs : t = settle (tryWarmClaim v)) : Rejoined q v t := by
  by_cases hi : v.seat.head = true ∨ v.seat.seatIn = true
  · rw [tryWarmClaim_queues hg hr hi hid hm] at hfs
    obtain ⟨hl, hre, -⟩ := queueClaim_lamps q true v
    have hseat := queueClaim_seat q true v
    obtain ⟨h1, h2⟩ := settle_unlit (u := queueClaim q true v) (.inr ⟨by rw [hseat], by rw [hseat]; exact hf⟩)
      (by rw [hl]; exact hdark)
    refine ⟨by rw [hfs, h1, hl], by rw [hfs, h2, hre], fun _ => ⟨?_, ?_⟩, fun hh hs => ?_⟩
    · rw [hfs]
      exact settle_queueClaim_seat ..
    · rw [hfs]
      exact settle_queueClaim_frames _ _ hq
    · simp [hh, hs] at hi
  · have hi' := hi
    rw [not_or, Bool.not_eq_true, Bool.not_eq_true] at hi
    rw [tryWarmClaim_held hi.1 hi.2] at hfs
    obtain ⟨h1, h2⟩ := settle_unlit (.inl hg) hdark
    refine ⟨by rw [hfs, h1], by rw [hfs, h2], fun h => absurd h hi', fun _ _ => ⟨by rw [hfs]; exact settle_seat _, ?_⟩⟩
    obtain ⟨-, -, -, hl⟩ := settle_unseated (u := v) (by simp [State.seated, hg, Stage.seated])
    rw [hfs, hl, hq]
    simp

/-- Load done of a start that passes the warm test. -/
theorem loadDone_warm (hw : (applyImage s).warmTest = true) (hm : s.seat.fallbackMark = false) (hq : s.line.queue = [])
    (hmute : s.line.mute = false) (hid : appliedIdentity s.loader.image ≠ 0) (hfs : t = settle (loadDone p s)) :
    ∃ f a, Rejoined s.retention.seat
      { loadListen p s with faults := f, port := { (loadListen p s).port with attn := a } } t := by
  obtain ⟨hr, hc, -, hf⟩ := loadListen_warm (p := p) hw
  obtain ⟨f, a, he, -⟩ := loadDone_listed p s
  have hline : (loadListen p s).line = s.line := (loadListen_keeps p).2.2.1
  refine ⟨f, a, tryWarmClaim_rejoined rfl hr (hf.trans hm) ?_ ?_ ?_ ?_ (he ▸ hfs)⟩
  · show (loadListen p s).loader.identity ≠ 0
    rw [loadListen_loader]
    exact hid
  · show (loadListen p s).line.mute = false
    rw [hline, hmute]
  · show (loadListen p s).line.queue = []
    rw [hline, hq]
  · show ∀ c ∈ (loadListen p s).lamps.channels, _
    rw [hc]
    exact restoredChannels_dark _ _

theorem warmTest_iff :
    (applyImage s).warmTest = true ↔ s.loader.cause = .warm ∧ s.retention.valid = true ∧
      appliedIdentity s.loader.image ≠ 0 ∧ s.retention.identity = appliedIdentity s.loader.image ∧
      1 ≤ s.retention.seat ∧ s.retention.seat ≤ 8 := by
  show (s.loader.cause == .warm && s.retention.valid && appliedIdentity s.loader.image != 0 &&
    s.retention.identity == appliedIdentity s.loader.image && decide (1 ≤ s.retention.seat) &&
    decide (s.retention.seat ≤ 8)) = true ↔ _
  simp [and_assoc]

theorem tryWarmClaim_unrejoined (hg : v.seat.stage = .listen) (hr : v.seat.rejoin = none)
    (hdark : ∀ c ∈ v.lamps.channels, c.lit = false) (hfs : t = settle (tryWarmClaim v)) :
    t.lamps = v.lamps ∧ t.retention = v.retention ∧ t.seat = { v.seat with offer := t.seat.offer } := by
  rw [tryWarmClaim_waits (.inr (.inl hr))] at hfs
  obtain ⟨h1, h2⟩ := settle_unlit (.inl hg) hdark
  exact ⟨by rw [hfs, h1], by rw [hfs, h2], by rw [hfs]; exact settle_seat _⟩

/-- Load done of a start handled as COLD. -/
theorem loadDone_cold (hw : (applyImage s).warmTest = false) (hg : s.seat.stage = .loading) (hok : LoadingOk s)
    (hfs : t = settle (loadDone p s)) :
    t.lamps = s.lamps ∧ t.retention = freshRetention (appliedIdentity s.loader.image) ∧
    t.seat = { (loadListen p s).seat with offer := t.seat.offer } ∧
    (loadListen p s).seat.rejoin = none ∧
    (loadListen p s).seat.headListen = (if p.head = true then .running 0 300 else .stopped) := by
  obtain ⟨hr, hl, hre, hh⟩ := loadListen_cold (p := p) hw
  rw [hok.rejoin hg] at hr
  rw [hok.rejoin hg, hok.headListen hg] at hh
  obtain ⟨f, a, he, -⟩ := loadDone_listed p s
  have hdark : ∀ c ∈ (loadListen p s).lamps.channels, c.lit = false := fun c hc => by
    rw [hl] at hc
    rw [hok.channels hg c hc]
    rfl
  obtain ⟨h1, h2, h3⟩ := tryWarmClaim_unrejoined (by rfl) (by exact hr) (by exact hdark) (he ▸ hfs)
  refine ⟨h1.trans hl, h2.trans hre, h3, hr, ?_⟩
  rw [hh]
  simp

end Sys2Proof.Machine

open Sys2Proof Sys2Proof.Machine

/-- Settles O9. -/
theorem loadDoneHandsOver : Obligations.LoadDoneHandsOver := by
  intro s p hp hg hi hd hc
  refine ⟨_, exec_loadDone hp hg hi, ?_⟩
  generalize hfs : settle (loadDone p s) = t
  obtain ⟨g, c, k, i, b, hgs, hpr⟩ := settle_loadDone hfs.symm
  obtain ⟨hpw, hnow, hl, hph, hre, hfc, hpe, hst, -, hh, hsi, hpi, -, -, hdt, hle, -, -, hsm, -⟩ := primary_fields hpr
  have hfault (h : s.faults.list = []) := loadDone_hasFault h hfs.symm
  obtain ⟨lh, lsi, lpi, lun, lle, lcn, lcv, lph, lre, lpe, lfc⟩ := loadListen_hands p s
  obtain ⟨lpw, lnow, -, -, -, ldt, lsm, -⟩ := loadListen_keeps (s := s) p
  have hsen := sensor_of_primary hpr
  have hun : t.seat.unseated = (loadListen p s).seat.unseated := (congrArg (·.seat.unseated) hpr :)
  rw [← hl] at hfault
  have hout : t.presOut = true := by
    rcases hgs with rfl | rfl <;> simp [State.presOut, State.loaded, hpw, lpw, hp, hst]
  rw [hl, loadListen_loader] at *
  refine ⟨rfl, rfl, rfl, rfl, rfl, rfl, rfl, rfl, hh.trans lh, hsi.trans lsi, hpi.trans lpi, hout, hun.trans lun, ?_, ?_, ?_,
    ?_, ?_, ?_, ?_, hfault, hpw.trans lpw, hnow.trans lnow, hpe.trans lpe, hfc.trans lfc, hdt.trans ldt, hsm.trans lsm,
    hre.trans lre⟩
  · rw [hle]
    exact lle.trans (take_append_of_length hd)
  · rw [hsen]
    exact lcn.trans (take_append_of_length hc)
  · rw [hsen]
    exact lcv
  all_goals rw [hph, lph]

/-- Settles O10. -/
theorem coldAndWarmLoad : Obligations.ColdAndWarmLoad := by
  intro s p hp hi hg hok
  have he := exec_loadDone (p := p) hp hg hi
  refine ⟨fun h => ?_, fun hc hv hid heq h1 h8 _ hq hm => ?_⟩
  · have hw : (applyImage s).warmTest = false := by
      rw [Bool.eq_false_iff, Ne, warmTest_iff]
      rintro ⟨hc, hv, hid, heq, h1, h8⟩
      rcases h with h | h | h | h | h | h
      · exact h hc
      · rw [hv] at h; cases h
      · exact hid h
      · exact h heq
      · omega
      · omega
    refine ⟨_, he, ?_⟩
    generalize hfs : settle (loadDone p s) = t
    obtain ⟨hl, hr, hs, hj, hh⟩ := loadDone_cold hw hg hok hfs.symm
    obtain ⟨g, c, k, i, b, -, hpr⟩ := settle_loadDone hfs.symm
    have hld := (primary_fields hpr).2.2.1
    rw [show State.loader _ = _ from loadListen_loader p s] at hld
    refine ⟨by rw [hs]; rfl, by rw [hs]; exact hj, by rw [hld]; exact hw, by rw [hs]; exact hh, hr, fun c hc => ?_⟩
    rw [hl] at hc
    rw [hok.channels hg c hc]
    exact ⟨rfl, rfl, rfl⟩
  · have hw := warmTest_iff.mpr ⟨hc, hv, hid, heq, h1, h8⟩
    refine ⟨_, he, ?_⟩
    generalize hfs : settle (loadDone p s) = t
    obtain ⟨f, a, hrj⟩ := loadDone_warm hw (hok.marker hg) hq hm hid hfs.symm
    obtain ⟨g, c, k, i, b, -, hpr⟩ := settle_loadDone hfs.symm
    have hld := (primary_fields hpr).2.2.1
    rw [show State.loader _ = _ from loadListen_loader p s] at hld
    obtain ⟨hr, hch, hre, -⟩ := loadListen_warm (p := p) hw
    obtain ⟨hh, hsi, -⟩ := loadListen_hands p s
    have hcls : t.loader.identity = (loadListen p s).loader.identity ∧
        t.loader.profile.cls = (loadListen p s).loader.profile.cls := by rw [hld, loadListen_loader]; exact ⟨rfl, rfl⟩
    have hfn (n : Nat) : t.functionOf n =
        ((nth (appliedProfile s.loader.image).lamps n).map LampCfg.function).getD .unassigned := by
      rw [State.functionOf, hld]
    have hchannel (n : Nat) : t.channel n = ((nth (appliedProfile s.loader.image).lamps n).bind fun c =>
        (nth s.retention.channels n).map (restoredChannel c.function)).getD .reset := by
      rw [State.channel, hrj.lamps, show LampUnit.channels _ = _ from hch, nth_restoredChannels]
    refine ⟨by rw [hld]; exact hw, ?_, hrj.retention.trans hre, fun n r hn hne => ?_, fun n h1 h12 hne => ?_, fun hx => ?_,
      fun hx hy => ?_⟩
    · exact (congrArg (·.seat.rejoin) hpr :).trans hr
    · rw [hchannel]
      rw [hfn] at hne
      cases hx : nth (appliedProfile s.loader.image).lamps n with
      | none => simp [hx] at hne
      | some c =>
        have hf : c.function ≠ .unassigned := by simpa [hx] using hne
        obtain ⟨k1, k2, k3⟩ := restoredChannel_assigned hf r
        simp only [hn, Option.bind_some, Option.map_some, Option.getD_some]
        exact ⟨k1, k2, restoredChannel_dark _ _, k3⟩
    · rw [hchannel]
      rw [hfn] at hne
      cases hx : nth (appliedProfile s.loader.image).lamps n with
      | none => exact ⟨rfl, rfl⟩
      | some c =>
        have hf : c.function = .unassigned := by simpa [hx] using hne
        cases hy : nth s.retention.channels n with
        | none => exact ⟨rfl, rfl⟩
        | some r => simp [hf, restoredChannel, Channel.reset]
    · obtain ⟨hseat, hqueue⟩ := hrj.claims (hx.imp hh.trans hsi.trans)
      rw [hseat, hqueue, hcls.1, hcls.2]
      exact ⟨rfl, rfl, rfl, rfl, rfl⟩
    · obtain ⟨hseat, hqueue⟩ := hrj.waits (hh.trans hx) (hsi.trans hy)
      rw [hseat]
      exact ⟨rfl, hqueue⟩

end

section
/-! SUPPORT. What offering frames can do to their owners, and what entering CHECKING and SYNC leaves. -/

namespace Sys2Proof.Machine

variable {s t u v w : State} {Q : Frame → Prop}

/-! ### Owners told of lost frames -/

/-- An offer changes the line, and tells at most one owner: that of the frame, or of an entry of the queue. -/
theorem offer_told (f : Frame) (s : State) :
    ∃ l : LineUnit, offer f s = { s with line := l } ∨
      ∃ g id, (g = f ∨ ∃ x ∈ s.line.queue, x.frame = g ∧ x.id = id) ∧ offer f s = tellLost g id { s with line := l } := by
  have enter (n : Nat) : ∃ l : LineUnit,
      enterQueue f s.line.nextId { s with line := { s.line with nextId := n } } = { s with line := l } ∨
        ∃ g id, (g = f ∨ ∃ x ∈ s.line.queue, x.frame = g ∧ x.id = id) ∧
          enterQueue f s.line.nextId { s with line := { s.line with nextId := n } } = tellLost g id { s with line := l } := by
    unfold enterQueue
    dsimp only
    split
    · exact ⟨_, .inl rfl⟩
    · split
      · exact ⟨_, .inr ⟨f, _, .inl rfl, rfl⟩⟩
      · next x hx =>
        split
        · exact ⟨_, .inr ⟨x.frame, x.id, .inr ⟨x, List.mem_reverse.mp (List.mem_of_find?_eq_some hx), rfl, rfl⟩, rfl⟩⟩
        · exact ⟨_, .inr ⟨f, _, .inl rfl, rfl⟩⟩
  unfold offer
  dsimp only
  split
  · unfold takeFrame
    split
    · split
      · exact enter _
      · split
        · exact ⟨_, .inl rfl⟩
        · exact ⟨_, .inl rfl⟩
    · split
      · exact ⟨_, .inr ⟨f, _, .inl rfl, rfl⟩⟩
      · exact enter _
  · exact ⟨_, .inl rfl⟩

theorem queueing_fields (h : t.queueing = s.queueing) :
    t.line = s.line ∧ t.roster.announce = s.roster.announce ∧ t.body.relay = s.body.relay ∧ t.port.query = s.port.query ∧
    t.port.queryOutcome = s.port.queryOutcome ∧ t.port.answering = s.port.answering ∧ t.port.owed = s.port.owed := by
  simpa only [State.queueing, Prod.mk.injEq] using h

/-- A sequence but for whether its segment awaits a new offer. -/
def Sending.offered (a : Sending) : Sending := { a with reoffer := false }

theorem tellLost_offered (g : Frame) (id : Nat) (s : State) :
    (tellLost g id s).roster.announce.map Sending.offered = s.roster.announce.map Sending.offered := by
  unfold tellLost
  split
  · exact Option.map_map ..
  · split <;> rfl
  · split <;> rfl
  · split <;> rfl
  · rfl

theorem offer_offered (f : Frame) (s : State) :
    (offer f s).roster.announce.map Sending.offered = s.roster.announce.map Sending.offered := by
  obtain ⟨l, h | ⟨g, id, -, h⟩⟩ := offer_told f s <;> rw [h]
  exact tellLost_offered g id _

/-- The announcement stands through it, but for a segment that awaits a new offer. -/
theorem Queueing.offered (h : Queueing Q s t) :
    t.roster.announce.map Sending.offered = s.roster.announce.map Sending.offered := by
  induction h with
  | same h => rw [(queueing_fields h).2.1]
  | offer _ s => exact offer_offered _ s
  | withdraw => rfl
  | trans _ _ ih ik => exact ik.trans ih

theorem Queueing.announce_none (h : Queueing Q s t) (hs : s.roster.announce = none) : t.roster.announce = none := by
  have := h.offered
  rw [hs] at this
  simpa using this

/-- No frame goes in flight by it. -/
theorem Queueing.pending (h : Queueing Q s t) (hs : ∀ e ∈ s.line.queue, e.inFlight = false) :
    ∀ e ∈ t.line.queue, e.inFlight = false := by
  induction h with
  | same h => rw [(queueing_fields h).1]; exact hs
  | @offer f _ s =>
    obtain ⟨q, fo, o, hl, -, ho⟩ := offer_line f s
    intro e he
    rw [hl] at he
    cases ho with
    | same => exact hs e he
    | entered => exact ((mem_insertEntry _ _ _).mp he).elim (fun h => by rw [h]) (hs e)
    | inPlace => exact ((mem_insertEntry _ _ _).mp he).elim (fun h => by rw [h]) fun h => hs e (List.mem_of_mem_filter h)
    | replaced =>
      obtain ⟨x, hx, rfl⟩ := List.mem_map.mp he
      split
      · exact hs x hx
      · exact hs x hx
    | held => exact hs e he
  | withdraw p s => exact fun e he => hs e (List.mem_of_mem_filter he)
  | trans _ _ ih ik => exact ik (ih hs)

/-- Of the line the queue and what goes with it may change. -/
theorem Queueing.line (h : Queueing Q s t) : t.line =
    { s.line with
      queue := t.line.queue, followOn := t.line.followOn, overflow := t.line.overflow, nextId := t.line.nextId } := by
  induction h with
  | same h => rw [(queueing_fields h).1]
  | @offer f _ s =>
    obtain ⟨q, fo, o, hl, -⟩ := offer_line f s
    rw [hl]
  | withdraw => rfl
  | trans _ _ ih ik =>
    rw [ik, ih]

/-- A relay record that waits for no frame stands. -/
theorem Queueing.relay (h : Queueing Q s t) (hs : s.body.relay.state ≠ .waiting) : t.body.relay = s.body.relay := by
  induction h with
  | same h => exact (queueing_fields h).2.2.1
  | @offer f _ s =>
    obtain ⟨l, h | ⟨g, id, -, h⟩⟩ := offer_told f s <;> rw [h]
    unfold tellLost
    split
    · rfl
    · split
      · next hw => exact absurd hw.1 hs
      · rfl
    · split <;> rfl
    · split <;> rfl
    · rfl
  | withdraw => rfl
  | trans _ _ ih ik =>
    have := ih hs
    exact (ik (by rw [this]; exact hs)).trans this

/-- An answering that is over stays so. -/
theorem Queueing.answering (h : Queueing Q s t) (hs : s.port.answering = none) : t.port.answering = none := by
  induction h with
  | same h => exact (queueing_fields h).2.2.2.2.2.1.trans hs
  | @offer f _ s =>
    obtain ⟨l, h | ⟨g, id, -, h⟩⟩ := offer_told f s <;> rw [h]
    · exact hs
    · unfold tellLost
      split
      · exact hs
      · split <;> exact hs
      · split <;> exact hs
      · split
        · exact hs
        · simp [hs]
      · exact hs
  | withdraw => exact hs
  | trans _ _ ih ik => exact ik (ih hs)

/-- The frame is a QUERY. -/
def Frame.isQuery : Frame → Bool
  | .query _ _ _ _ => true
  | _ => false

theorem tellLost_query {g : Frame} {id : Nat} (h : g.isQuery = true → (s.port.query.map Query.frameId) ≠ some id) :
    (tellLost g id s).port.query = s.port.query := by
  unfold tellLost
  split
  · rfl
  · split <;> rfl
  · split
    · next hq => exact absurd hq (h rfl)
    · rfl
  · split <;> rfl
  · rfl

/-- A query none of whose entries waits stands where no QUERY is offered. -/
theorem Queueing.query (h : Queueing Q s t) (hQ : ∀ f, Q f → f.isQuery = false)
    (hs : ∀ e ∈ s.line.queue, e.frame.isQuery = true → (s.port.query.map Query.frameId) ≠ some e.id) :
    t.port.query = s.port.query ∧
      ∀ e ∈ t.line.queue, e.frame.isQuery = true → (t.port.query.map Query.frameId) ≠ some e.id := by
  induction h with
  | same h =>
    obtain ⟨hl, -, -, hq, -⟩ := queueing_fields h
    rw [hl, hq]
    exact ⟨rfl, hs⟩
  | @offer f hf s =>
    have hquery : (Machine.offer f s).port.query = s.port.query := by
      obtain ⟨l, h | ⟨g, id, hg, h⟩⟩ := offer_told f s <;> rw [h]
      refine tellLost_query fun hi => ?_
      rcases hg with rfl | ⟨x, hx, rfl, rfl⟩
      · rw [hQ _ hf] at hi; cases hi
      · exact hs x hx hi
    refine ⟨hquery, fun e he hi => ?_⟩
    rw [hquery]
    rcases offer_newFrames (Q := Q) f hf s e he with hm | hq
    · exact hs e hm hi
    · rw [hQ _ hq] at hi; cases hi
  | withdraw => exact ⟨rfl, fun e he => hs e (List.mem_of_mem_filter he)⟩
  | trans _ _ ih ik =>
    obtain ⟨h1, h2⟩ := ih hs
    obtain ⟨h3, h4⟩ := ik h2
    exact ⟨h3.trans h1, h4⟩

/-! ### The fault list through routine changes -/

/-- DEMAND-LOST and COMBINATION-FULL alone are raised, and FRONT-LINK-LOST is neither cleared nor, at its severity, evicted. -/
structure CalmFaults (s t : State) : Prop where
  only : ∀ e ∈ t.faults.list, e ∈ s.faults.list ∨ e.code = .demandLost ∨ e.code = .combinationFull
  kept : (∀ x ∈ s.faults.list, x.code = .frontLinkLost → x.subject = 0 → 2 ≤ x.severity) →
    ∀ e ∈ s.faults.list, e.code = .frontLinkLost → e.subject = 0 → e ∈ t.faults.list

theorem CalmFaults.of_list (h : t.faults.list = s.faults.list) : CalmFaults s t :=
  ⟨fun _ he => .inl (h ▸ he), fun _ _ he _ _ => h.symm ▸ he⟩

theorem CalmFaults.trans (h : CalmFaults s t) (k : CalmFaults t u) : CalmFaults s u where
  only e he := (k.only e he).elim (h.only e) .inr
  kept hs e he hc h0 := by
    refine k.kept (fun x hx hxc hx0 => ?_) e (h.kept hs e he hc h0) hc h0
    rcases h.only x hx with hm | hd | hd
    · exact hs x hm hxc hx0
    · rw [hd] at hxc; cases hxc
    · rw [hd] at hxc; cases hxc

theorem CalmFaults.after (k : CalmFaults u t) (h : u.faults.list = s.faults.list) : CalmFaults s t :=
  (CalmFaults.of_list h).trans k

theorem raiseFault_calm {c : FaultCode} {n : Nat} (hc : c = .demandLost ∨ c = .combinationFull) (hn : n ≤ 2) (k : Nat)
    (s : State) : CalmFaults s (raiseFault c k n s) := by
  have hlist := raiseFault_list c k n s
  rcases raisedList_cases { code := c, subject := k, severity := n, onset := min s.now Config.onsetTop } s.faults.list with
    ⟨hl, -⟩ | ⟨hl, -⟩ | ⟨x, hx, -, hsev, -, hl⟩
  · exact .of_list (hlist.trans hl)
  · rw [hl] at hlist
    refine ⟨fun e he => ?_, fun _ e he _ _ => ?_⟩
    · rw [hlist] at he
      rcases List.mem_append.mp he with he | he
      · exact .inl he
      · rw [List.mem_singleton.mp he]
        exact .inr hc
    · rw [hlist]
      exact List.mem_append_left _ he
  · rw [hl] at hlist
    refine ⟨fun e he => ?_, fun hs e he hec h0 => ?_⟩
    · rw [hlist] at he
      rcases List.mem_append.mp he with he | he
      · exact .inl (List.mem_of_mem_filter he)
      · rw [List.mem_singleton.mp he]
        exact .inr hc
    · rw [hlist]
      refine List.mem_append_left _ (List.mem_filter.mpr ⟨he, ?_⟩)
      by_contra hcon
      simp only [Bool.not_eq_true', Bool.not_eq_false, Bool.and_eq_true, beq_iff_eq] at hcon
      have := hs x hx (hcon.1.symm.trans hec) (hcon.2.symm.trans h0)
      have hsev' : x.severity < n := hsev
      omega

theorem clearFault_calm {c : FaultCode} (hc : c ≠ .frontLinkLost) (k : Nat) (s : State) : CalmFaults s (clearFault c k s) := by
  cases hl : c.latched with
  | true => exact .of_list (by rw [clearFault, if_pos hl])
  | false =>
    have hlist := clearFault_list (s := s) c k hl
    refine ⟨fun e he => ?_, fun _ e he hec _ => ?_⟩
    · rw [hlist] at he
      exact .inl (List.mem_of_mem_filter he)
    · rw [hlist]
      exact List.mem_filter.mpr ⟨he, by simp [hec, Ne.symm hc]⟩

theorem settle_calm (s : State) : CalmFaults s (settle s) := by
  obtain ⟨v, hv, -, -, -, hs⟩ := settle_faults s
  have hj : CalmFaults v (judgeFallback v) := by
    unfold judgeFallback
    dsimp only
    split
    · exact .of_list rfl
    · split
      · exact (raiseFault_calm (.inl rfl) (Nat.le_refl 2) _ _).after rfl
      · exact (clearFault_calm (c := .demandLost) (by decide) _ _).after rfl
  exact ((CalmFaults.of_list (by rw [hv])).trans hj).trans (.of_list (by rw [hs]))

/-- A code that routine changes do not raise is listed after only where it was before. -/
theorem CalmFaults.hasFault {c : FaultCode} {k : Nat} (h : CalmFaults s t) (hd : c ≠ .demandLost) (hf : c ≠ .combinationFull)
    (ht : s.hasFault c k = false) : t.hasFault c k = false := by
  by_contra hn
  obtain ⟨e, he, hc, hk⟩ := (hasFault_iff c k).mp (Bool.of_not_eq_false hn)
  rcases h.only e he with hm | hx | hx
  · rw [(hasFault_iff c k).mpr ⟨e, hm, hc, hk⟩] at ht
    cases ht
  · exact hd (hc.symm.trans hx)
  · exact hf (hc.symm.trans hx)

/-! ### Routine changes -/

/-- A roster entry by its identity and what was announced of it. -/
def RosterEntry.identified (e : RosterEntry) : RosterEntry :=
  { e with stage := .claimed, note := .none, check := none, fault := none }

/-- What a station's own routine leaves: besides what the judgements may change, the channels, the report timers, and the state, note
and summaries of the own entry are put to fixed values. -/
def State.routine (s : State) : State :=
  let t := s.primary
  { t with
    roster := { t.roster with entries := Table.modify t.roster.entries t.seat.ownSeat RosterEntry.identified }
    lamps := { t.lamps with channels := [] }
    sensor := { t.sensor with countsTimer := .stopped, analogTimer := .stopped } }

/-- A routine change: frames but no QUERY, faults of the station's own function, channels and the own entry. -/
structure Routine (s t : State) : Prop where
  routine : t.routine = s.routine
  queueing : Queueing (·.isQuery = false) s t
  faults : CalmFaults s t

theorem Routine.refl (s : State) : Routine s s := ⟨rfl, .refl s, .of_list rfl⟩

theorem Routine.trans (h : Routine s t) (k : Routine t u) : Routine s u :=
  ⟨k.routine.trans h.routine, h.queueing.trans k.queueing, h.faults.trans k.faults⟩

theorem routine_of_primary (h : t.primary = s.primary) : t.routine = s.routine := by
  rw [State.routine, h, State.routine]

theorem Routine.of_primary (h : t.primary = s.primary) (hq : Queueing (·.isQuery = false) s t) (hf : CalmFaults s t) :
    Routine s t := ⟨routine_of_primary h, hq, hf⟩

/-- An update first that touches neither frames nor faults. -/
theorem Routine.after (k : Routine u t) (h : u.routine = s.routine) (hq : u.queueing = s.queueing)
    (hf : u.faults.list = s.faults.list) : Routine s t :=
  Routine.trans ⟨h, .same hq, .of_list hf⟩ k

theorem Frame.isQuery_of_follows (f : Frame) (h : f.follows) : f.isQuery = false := by
  cases f <;> first | rfl | exact h.elim

theorem Frame.isQuery_of_isFault (f : Frame) (h : f.isFault) : f.isQuery = false := f.isQuery_of_follows (f.follows_of_isFault h)

theorem offer_routine {f : Frame} (hf : f.isQuery = false) (s : State) : Routine s (offer f s) :=
  .of_primary (offer_primary s f) (.offer hf s)
    (.of_list (by rw [(unqueued_fields (offer_unqueued s f)).2.2.2.2.2.2.2.2.2.2.1]))

theorem settle_routine (s : State) : Routine s (settle s) :=
  .of_primary (settle_primary s) ((settle_queueing s).mono Frame.isQuery_of_follows) (settle_calm s)

theorem raiseFault_routine {c : FaultCode} {n : Nat} (hc : c = .demandLost ∨ c = .combinationFull) (hn : n ≤ 2) (k : Nat)
    (s : State) : Routine s (raiseFault c k n s) :=
  .of_primary (raiseFault_primary s c k n) ((raiseFault_queueing c k n s).mono Frame.isQuery_of_isFault)
    (raiseFault_calm hc hn k s)

theorem clearFault_routine {c : FaultCode} (hc : c ≠ .frontLinkLost) (k : Nat) (s : State) : Routine s (clearFault c k s) :=
  .of_primary (clearFault_primary s c k) ((clearFault_queueing c k s).mono Frame.isQuery_of_isFault) (clearFault_calm hc k s)

theorem setChannels_routine (l : List Channel) (s : State) : Routine s (setChannels l s) := ⟨rfl, .same rfl, .of_list rfl⟩

theorem modChannel_routine (n : Nat) (f : Channel → Channel) (s : State) : Routine s (modChannel n f s) :=
  setChannels_routine _ s

theorem modOwnEntry_routine {f : RosterEntry → RosterEntry} (hf : ∀ e, (f e).identified = e.identified) (s : State) :
    Routine s (modOwnEntry f s) := by
  unfold modOwnEntry
  split
  · refine ⟨?_, .same rfl, .of_list rfl⟩
    simp only [State.routine, State.primary, State.unfaulted, State.unqueued, Table.modify_modify]
    have hcomp : RosterEntry.identified ∘ (fun e => { e with fault := none }) ∘ f =
        RosterEntry.identified ∘ fun e => { e with fault := none } := funext fun e => hf e
    rw [hcomp]
  · exact .refl s

theorem foldl_routine {α : Type} (f : State → α → State) (h : ∀ v a, Routine v (f v a)) (l : List α) (s : State) :
    Routine s (l.foldl f s) := by
  induction l generalizing s with
  | nil => exact .refl s
  | cons a l ih => exact (h s a).trans (ih _)

theorem setHealth_routine (n : Nat) (h : Health) (hh : h.fault = none) (s : State) : Routine s (setHealth n h s) := by
  have hclear (c : FaultCode) (k : Health) (hk : k.fault = some c) : c ≠ .frontLinkLost := by
    cases k <;> cases hk <;> decide
  unfold setHealth
  dsimp only
  split
  · exact .refl s
  · have hm := modChannel_routine n (fun c => { c with health := h, run := none }) s
    generalize modChannel n (fun c => { c with health := h, run := none }) s = v at hm ⊢
    have hv : Routine v (clearHealthFault n (s.channel n).health v) := by
      unfold clearHealthFault
      split
      · exact .refl v
      · next c hc => exact clearFault_routine (hclear c _ hc) _ _
    have hr (x : State) : raiseHealthFault n h x = x := by rw [raiseHealthFault, hh]
    rw [hr]
    refine (hm.trans hv).trans ?_
    unfold clearIfCompleted
    split
    · exact clearFault_routine (c := .rearDeficient) (by decide) _ _
    · exact .refl _

theorem prepareChannel_routine (s : State) (n : Nat) : Routine s (prepareChannel s n) :=
  (setHealth_routine n .untested rfl s).trans ((modChannel_routine n _ _).trans
    ((clearFault_routine (c := .lampOpen) (by decide) _ _).trans
      ((clearFault_routine (c := .lampOverload) (by decide) _ _).trans
        (clearFault_routine (c := .lampShort) (by decide) _ _))))

/-! ### The circuit check begun, and SYNC entered -/

/-- The state with a check under way. -/
def withCheck (c : Option Check) (s : State) : State := { s with lamps := { s.lamps with check := c } }

theorem routine_withCheck (h : t.routine = s.routine) (c : Option Check) : (withCheck c t).routine = (withCheck c s).routine :=
  congrArg (withCheck c) h

/-- A check set over routine changes. -/
theorem Routine.withCheck (h : Routine s t) (c : Option Check) : Routine (withCheck c s) (withCheck c t) where
  routine := routine_withCheck h.routine c
  queueing := .trans (t := s) (.same rfl) (.trans (t := t) h.queueing (.same rfl))
  faults := .trans (t := s) (.of_list rfl) (.trans (t := t) h.faults (.of_list rfl))

/-- The circuit check begun takes the channels under test in their order. -/
theorem beginCheck_routine (s : State) :
    Routine (withCheck (some { todo := s.underTest, turn := 0, pulse := true }) s) (beginCheck s) :=
  ((foldl_routine prepareChannel prepareChannel_routine s.underTest s).trans (setChannels_routine _ _)).withCheck _

theorem beginDemand_routine (s : State) : Routine s (beginDemand s) := by
  have hsend (v : State) : Routine v (sendDemand v) := (offer_routine rfl _).after rfl rfl rfl
  unfold beginDemand
  split
  · exact hsend s
  · split
    · exact .refl s
    · exact (hsend _).after rfl rfl rfl

theorem queueCounts_routine (s : State) : Routine s (queueCounts s) := by
  unfold queueCounts
  split
  · exact (offer_routine rfl _).after rfl rfl rfl
  · exact .refl s

theorem queueAnalog_routine (s : State) : Routine s (queueAnalog s) := by
  unfold queueAnalog
  split
  · exact (offer_routine rfl _).after rfl rfl rfl
  · exact .refl s

theorem queueListedFaults_routine (s : State) : Routine s (queueListedFaults s) := by
  refine foldl_routine _ (fun v e => ?_) _ s
  unfold queueFault
  split
  · exact offer_routine rfl v
  · exact .refl v

theorem judgeFull_routine (s : State) : Routine s (judgeFull s) := by
  unfold judgeFull
  split
  · exact raiseFault_routine (.inr rfl) (by decide) _ _
  · exact .refl s

theorem enterSync_routine (s : State) : Routine (startSync s) (enterSync s) :=
  (beginDemand_routine (startSync s)).trans ((queueCounts_routine _).trans ((queueAnalog_routine _).trans
    ((queueListedFaults_routine _).trans (judgeFull_routine _))))

/-! ### What a routine change leaves -/

theorem Routine.seat (h : Routine s t) : t.seat = { s.seat with offer := t.seat.offer } :=
  (congrArg (fun v : State => { v.seat with offer := t.seat.offer }) h.routine :)

theorem Routine.retention (h : Routine s t) : t.retention = { s.retention with channels := t.retention.channels } :=
  (congrArg (fun v : State => { v.retention with channels := t.retention.channels }) h.routine :)

theorem Routine.loader (h : Routine s t) : t.loader = s.loader := (congrArg State.loader h.routine :)
theorem Routine.power (h : Routine s t) : t.power = s.power := (congrArg State.power h.routine :)
theorem Routine.phase (h : Routine s t) : t.phase = s.phase := (congrArg State.phase h.routine :)
theorem Routine.check (h : Routine s t) : t.lamps.check = s.lamps.check := (congrArg (·.lamps.check) h.routine :)
theorem Routine.mute (h : Routine s t) : t.line.mute = s.line.mute := (congrArg (·.line.mute) h.routine :)

theorem Routine.ownSeat (h : Routine s t) : t.seat.ownSeat = s.seat.ownSeat := by rw [h.seat]
theorem Routine.stage (h : Routine s t) : t.seat.stage = s.seat.stage := by rw [h.seat]

theorem Routine.entries (h : Routine s t) :
    Table.modify t.roster.entries s.seat.ownSeat RosterEntry.identified =
      Table.modify s.roster.entries s.seat.ownSeat RosterEntry.identified := by
  have he := congrArg (·.roster.entries) h.routine
  simp only [State.routine, State.primary, State.unfaulted, State.unqueued, Table.modify_modify] at he
  rw [h.ownSeat] at he
  exact he

theorem Routine.get (h : Routine s t) {q : Nat} (hq : q ≠ s.seat.ownSeat) :
    Table.get t.roster.entries q = Table.get s.roster.entries q := by
  have he := congrArg (fun l => Table.get l q) h.entries
  simpa only [Table.get_modify, if_neg hq] using he

theorem Routine.own (h : Routine s t) :
    (Table.get t.roster.entries s.seat.ownSeat).map RosterEntry.identified =
      (Table.get s.roster.entries s.seat.ownSeat).map RosterEntry.identified := by
  have he := congrArg (fun l => Table.get l s.seat.ownSeat) h.entries
  simpa only [Table.get_modify, if_pos] using he

/-! ### From PROFILING on -/

theorem Routine.startSync (h : Routine s t) : Routine (startSync s) (startSync t) where
  routine := (congrArg Machine.startSync h.routine :)
  queueing := .trans (t := s) (.same rfl) (.trans (t := t) h.queueing (.same rfl))
  faults := .trans (t := s) (.of_list rfl) (.trans (t := t) h.faults (.of_list rfl))

/-- The check done: STAGE CHECKED, the own entry with the results, and SYNC. -/
theorem checkDone_routine (s : State) : Routine (startSync (withCheck none s)) (checkDone s) := by
  have ho := offer_routine (f := .stageChecked s.checkResults.good s.checkResults.failed s.checkResults.complete) rfl
    (withCheck none s)
  have he : checkDone s =
      enterSync (modOwnEntry (fun e => { e with stage := .checked, check := some s.checkResults })
        (offer (.stageChecked s.checkResults.good s.checkResults.failed s.checkResults.complete) (withCheck none s))) := rfl
  rw [he]
  generalize offer _ (withCheck none s) = v at ho ⊢
  have hm := modOwnEntry_routine (f := fun e => { e with stage := .checked, check := some s.checkResults }) (fun _ => rfl) v
  exact (ho.trans hm).startSync.trans (enterSync_routine _)

/-- A check that has nothing to test is done at once. -/
theorem enterChecking_done (h : s.underTest = []) : Routine (startSync (withCheck none s)) (enterChecking s) := by
  have hb := beginCheck_routine (startChecking s)
  have hc : (beginCheck (startChecking s)).lamps.check = some { todo := s.underTest, turn := 0, pulse := true } := rfl
  have he : enterChecking s = checkDone (beginCheck (startChecking s)) := by
    show finishCheck (beginCheck (startChecking s)) = _
    simp only [finishCheck, hc, h, List.isEmpty_nil, if_true]
  rw [he]
  exact (hb.withCheck none).startSync.trans (checkDone_routine _)

/-- A check that has channels to test begins with the first. -/
theorem enterChecking_begun (h : s.underTest ≠ []) :
    Routine (withCheck (some { todo := s.underTest, turn := 0, pulse := true }) (startChecking s)) (enterChecking s) := by
  have hc : (beginCheck (startChecking s)).lamps.check = some { todo := s.underTest, turn := 0, pulse := true } := rfl
  have he : enterChecking s = beginCheck (startChecking s) := by
    show finishCheck (beginCheck (startChecking s)) = _
    simp only [finishCheck, hc, List.isEmpty_iff, h, if_false]
  rw [he]
  exact beginCheck_routine _

/-- The station goes on to SYNC without a check (R19). -/
def State.skipsCheck (s : State) : Bool := (s.seat.claimRejoin || s.seat.reseat) && s.allTested

/-- The last segment sent, or taken as sent: to SYNC, or to CHECKING. -/
theorem profilingEnd_routine (s : State) :
    (s.skipsCheck = true → Routine (startSync (setAnnounce none s)) (profilingEnd s)) ∧
    (s.skipsCheck = false → s.underTest = [] → Routine (startSync (withCheck none (setAnnounce none s))) (profilingEnd s)) ∧
    (s.skipsCheck = false → s.underTest ≠ [] →
      Routine (withCheck (some { todo := s.underTest, turn := 0, pulse := true }) (startChecking (setAnnounce none s)))
        (profilingEnd s)) := by
  have hm : Routine (setAnnounce none s) (modOwnEntry (fun e => { e with stage := .profiled }) (setAnnounce none s)) :=
    modOwnEntry_routine (f := fun e => { e with stage := .profiled }) (fun _ => rfl) _
  have hk : (modOwnEntry (fun e => { e with stage := .profiled }) (setAnnounce none s)).skipsCheck = s.skipsCheck ∧
      (modOwnEntry (fun e => { e with stage := .profiled }) (setAnnounce none s)).underTest = s.underTest := by
    unfold modOwnEntry
    split <;> exact ⟨rfl, rfl⟩
  have he : profilingEnd s =
      if (modOwnEntry (fun e => { e with stage := .profiled }) (setAnnounce none s)).skipsCheck
      then enterSync (modOwnEntry (fun e => { e with stage := .profiled }) (setAnnounce none s))
      else enterChecking (modOwnEntry (fun e => { e with stage := .profiled }) (setAnnounce none s)) := rfl
  rw [he, hk.1]
  have hu := hk.2
  generalize modOwnEntry (fun e => { e with stage := .profiled }) (setAnnounce none s) = v at hm hu ⊢
  refine ⟨fun h => ?_, fun h ht => ?_, fun h ht => ?_⟩
  · rw [if_pos h]
    exact hm.startSync.trans (enterSync_routine v)
  · rw [if_neg (by rw [h]; exact Bool.false_ne_true)]
    exact (hm.withCheck none).startSync.trans (enterChecking_done (hu.trans ht))
  · rw [if_neg (by rw [h]; exact Bool.false_ne_true), ← hu]
    rw [← hu] at ht
    have hc : Routine (startChecking (setAnnounce none s)) (startChecking v) :=
      ⟨(congrArg startChecking hm.routine :), .trans (t := setAnnounce none s) (.same rfl) (.trans (t := v) hm.queueing (.same rfl)),
        .trans (t := setAnnounce none s) (.of_list rfl) (.trans (t := v) hm.faults (.of_list rfl))⟩
    exact (hc.withCheck _).trans (enterChecking_begun ht)

/-! ### What there is to test -/

theorem numbersFrom_eq_nil (p : Nat → Channel → Bool) (k : Nat) (l : List Channel) :
    numbersFrom p k l = [] ↔ ∀ i c, l[i]? = some c → p (k + i) c = false := by
  induction l generalizing k with
  | nil => simp [numbersFrom]
  | cons c r ih =>
    rw [numbersFrom]
    constructor
    · intro h i d hd
      split at h
      · cases h
      · next hp =>
        cases i with
        | zero =>
          cases hd
          simpa using hp
        | succ i =>
          have := (ih (k + 1)).mp h i d hd
          rwa [show k + 1 + i = k + (i + 1) by omega] at this
    · intro h
      rw [if_neg (by rw [show k = k + 0 from rfl, h 0 c rfl]; exact Bool.false_ne_true)]
      refine (ih (k + 1)).mpr fun i d hd => ?_
      rw [show k + 1 + i = k + (i + 1) by omega]
      exact h (i + 1) d hd

theorem mem_lampHealth {e : LampFn × Health} :
    e ∈ s.lampHealth ↔ ∃ (i : Nat) (a : LampCfg) (c : Channel), s.loader.profile.lamps[i]? = some a ∧ s.lamps.channels[i]? = some c ∧ e = (a.function, c.health) := by
  rw [State.lampHealth, List.mem_map]
  constructor
  · rintro ⟨⟨a, c⟩, hm, rfl⟩
    obtain ⟨i, hi⟩ := List.mem_iff_getElem?.mp hm
    obtain ⟨ha, hc⟩ := List.getElem?_zip_eq_some.mp hi
    exact ⟨i, a, c, ha, hc, rfl⟩
  · rintro ⟨i, a, c, ha, hc, rfl⟩
    exact ⟨(a, c), List.mem_iff_getElem?.mpr ⟨i, List.getElem?_zip_eq_some.mpr ⟨ha, hc⟩⟩, rfl⟩

/-- Nothing is to be tested where every assigned channel is LOCKED. -/
theorem underTest_eq_nil : s.underTest = [] ↔ ∀ e ∈ s.lampHealth, e.1 = .unassigned ∨ e.2 = .locked := by
  rw [State.underTest, numbersFrom_eq_nil]
  constructor
  · rintro h e he
    obtain ⟨i, a, c, ha, hc, rfl⟩ := mem_lampHealth.mp he
    have := h i c hc
    rw [show 1 + i = i + 1 from Nat.add_comm 1 i] at this
    simp only [State.assigned, State.functionOf, nth, ha, Option.map_some, Option.getD_some, Bool.and_eq_false_iff,
      bne_eq_false_iff_eq] at this
    exact this
  · intro h i c hc
    rw [show 1 + i = i + 1 from Nat.add_comm 1 i]
    simp only [State.assigned, State.functionOf, nth, Bool.and_eq_false_iff, bne_eq_false_iff_eq]
    cases ha : s.loader.profile.lamps[i]? with
    | none => exact .inl rfl
    | some a => exact h _ (mem_lampHealth.mpr ⟨i, a, c, ha, hc, rfl⟩)

theorem allTested_iff : s.allTested = true ↔ ∀ e ∈ s.lampHealth, e.1 = .unassigned ∨ e.2 ≠ .untested := by
  simp [State.allTested]

end Sys2Proof.Machine

end

section
/-! SUPPORT. The claim window's expiry: O14. -/

namespace Sys2Proof.Machine

variable {s t u v w : State}

/-- The seat taken, with the two faults that it may clear and raise. -/
def seatTaken (s : State) : State := judgeFront (clearFault .seatUnavailable 0 (takeSeat s))

theorem becomeSeated_eq (s : State) :
    becomeSeated s = if (seatTaken s).line.mute then profilingEnd (seatTaken s) else beginSequence .initial (seatTaken s) := rfl

theorem seatTaken_unfaulted (s : State) : (seatTaken s).unfaulted = (takeSeat s).unfaulted := by
  have h := clearFault_unfaulted (takeSeat s) .seatUnavailable 0
  unfold seatTaken judgeFront
  split
  · exact (raiseFault_unfaulted ..).trans h
  · exact h

theorem seatTaken_primary (s : State) : (seatTaken s).primary = (takeSeat s).primary :=
  primary_of_unfaulted (seatTaken_unfaulted s)

/-- Taking the seat changes nothing that says whether there is something to test. -/
theorem seatTaken_tests (s : State) : (seatTaken s).skipsCheck = s.skipsCheck ∧ (seatTaken s).underTest = s.underTest := by
  obtain ⟨-, -, hl, -, hs, -, -, hc, -⟩ := unfaulted_fields (seatTaken_unfaulted s)
  generalize seatTaken s = v at *
  constructor
  · simp only [State.skipsCheck, State.allTested, State.lampHealth, hl, hs, hc]
    rfl
  · simp only [State.underTest, State.assigned, State.functionOf, hl, hc]
    rfl

theorem skipsCheck_iff : s.skipsCheck = true ↔
    (s.seat.claimRejoin = true ∨ s.seat.reseat = true) ∧ ∀ e ∈ s.lampHealth, e.1 = .unassigned ∨ e.2 ≠ .untested := by
  rw [State.skipsCheck, Bool.and_eq_true, Bool.or_eq_true, allTested_iff]

theorem takeSeat_ownSummaryOk (s : State) : OwnSummaryOk (takeSeat s) := by
  intro _
  simp only [takeSeat, Table.get_put]
  rfl

theorem takeSeat_own (s : State) :
    (Table.get (takeSeat s).roster.entries s.seat.claimed).map (fun e => { e with fault := none }) =
      some
        { identity := s.loader.identity, cls := s.loader.profile.cls, stage := .claimed, rejoin := s.seat.claimRejoin,
          note := .none, profile := some (ownSummary s.loader), check := none, fault := none } := by
  simp only [takeSeat, Table.get_put, if_pos]
  rfl

theorem seatTaken_quiet (s : State) : Quiet True (takeSeat s) (seatTaken s) := (clearFault_quiet ..).trans judgeFront_quiet

/-- FRONT-LINK-LOST stands at a severity that nothing of the station's routine evicts. -/
def FrontLost (s : State) : Prop :=
  (∀ x ∈ s.faults.list, x.code = .frontLinkLost → x.subject = 0 → 2 ≤ x.severity) ∧ s.hasFault .frontLinkLost 0 = true

theorem CalmFaults.frontLost (h : CalmFaults s t) (k : FrontLost s) : t.hasFault .frontLinkLost 0 = true := by
  obtain ⟨e, he, hc, h0⟩ := (hasFault_iff ..).mp k.2
  exact (hasFault_iff ..).mpr ⟨e, h.kept k.1 e he hc h0, hc, h0⟩

theorem seatTaken_faults (hf : s.hasFault .frontLinkLost 0 = false) :
    (seatTaken s).hasFault .seatUnavailable 0 = false ∧
    (s.seat.head = true ∨ s.seat.seatIn = true → (seatTaken s).hasFault .frontLinkLost 0 = false) ∧
    (s.seat.head = false → s.seat.seatIn = false → s.faults.list.length < 8 → FrontLost (seatTaken s)) := by
  have hc : (clearFault .seatUnavailable 0 (takeSeat s)).hasFault .seatUnavailable 0 = false := clearFault_hasFault _ _ rfl
  have ho : (clearFault .seatUnavailable 0 (takeSeat s)).hasFault .frontLinkLost 0 = false :=
    (clearFault_other (by decide)).trans hf
  have hl : (clearFault .seatUnavailable 0 (takeSeat s)).faults.list.length ≤ s.faults.list.length := clearFault_length ..
  have hs : (clearFault .seatUnavailable 0 (takeSeat s)).seat = (takeSeat s).seat := by simp
  unfold seatTaken
  generalize clearFault .seatUnavailable 0 (takeSeat s) = v at *
  have hv : v.seated = true ∧ v.seat.head = s.seat.head ∧ v.seat.seatIn = s.seat.seatIn := by
    rw [State.seated, hs]
    exact ⟨rfl, rfl, rfl⟩
  obtain ⟨h1, h2, h3⟩ := hv
  unfold judgeFront
  refine ⟨?_, fun h => ?_, fun h h' h8 => ?_⟩
  · split
    · by_contra hn
      rw [raiseFault_only (c := .frontLinkLost) (by decide) (Bool.of_not_eq_false hn)] at hc
      cases hc
    · exact hc
  · rw [if_neg]
    · exact ho
    · rcases h with h | h <;> simp [h2, h3, h]
  · rw [if_pos (by simp [h1, h2, h3, h, h'])]
    have h8' : v.faults.list.length < 8 := by omega
    refine ⟨fun x hx hxc hx0 => ?_, raiseFault_hasFault _ 0 2 h8'⟩
    rw [raiseFault_list] at hx
    have hno : ∀ y ∈ v.faults.list, ¬(y.code = .frontLinkLost ∧ y.subject = 0) := fun y hy hyc => by
      rw [(hasFault_iff ..).mpr ⟨y, hy, hyc.1, hyc.2⟩] at ho
      cases ho
    rcases raisedList_cases { code := .frontLinkLost, subject := 0, severity := 2, onset := min v.now Config.onsetTop }
      v.faults.list with ⟨hr, -⟩ | ⟨hr, -⟩ | ⟨y, hy, -, -, h88, -⟩
    · rw [hr] at hx
      exact absurd ⟨hxc, hx0⟩ (hno x hx)
    · rw [hr] at hx
      rcases List.mem_append.mp hx with hx | hx
      · exact absurd ⟨hxc, hx0⟩ (hno x hx)
      · rw [List.mem_singleton.mp hx]
    · omega

/-- A station seated, whatever it goes on to. -/
structure BecameSeated (s t : State) : Prop where
  power : t.power = s.power
  seat : t.seat = { s.seat with
    stage := t.seat.stage, ownSeat := s.seat.claimed, claimed := 0, claim := .none, window := .stopped
    fallbackMark := t.seat.fallbackMark, offer := t.seat.offer }
  retention : t.retention =
    { s.retention with valid := true, seat := s.seat.claimed, identity := s.loader.identity, channels := t.retention.channels }
  others : ∀ q, q ≠ s.seat.claimed → Table.get t.roster.entries q = Table.get s.roster.entries q
  own : (Table.get t.roster.entries s.seat.claimed).map RosterEntry.identified =
    some
      { identity := s.loader.identity, cls := s.loader.profile.cls, stage := .claimed, rejoin := s.seat.claimRejoin,
        note := .none, profile := some (ownSummary s.loader), check := none, fault := none }
  faults : CalmFaults (seatTaken s) t

theorem Routine.becameSeated (h : Routine u t) (hr : u.power = s.power) (hs : u.seat = { (takeSeat s).seat with
      stage := u.seat.stage, fallbackMark := u.seat.fallbackMark, offer := u.seat.offer })
    (hre : u.retention = { (takeSeat s).retention with channels := u.retention.channels })
    (he : u.roster.entries = (seatTaken s).roster.entries) (hf : u.faults.list = (seatTaken s).faults.list) :
    BecameSeated s t := by
  have hown : u.seat.ownSeat = s.seat.claimed := by rw [hs]; rfl
  have hp := seatTaken_primary s
  have hts : (takeSeat s).seat.ownSeat = s.seat.claimed := rfl
  refine ⟨h.power.trans hr, ?_, ?_, fun q hq => ?_, ?_, (CalmFaults.of_list hf).trans h.faults⟩
  · rw [h.seat, hs]
    rfl
  · rw [h.retention, hre]
    rfl
  · rw [h.get (by rw [hown]; exact hq), he, get_of_primary hp (by rw [hts]; exact hq)]
    simp only [takeSeat, Table.get_put, if_neg hq]
  · have hk := h.own
    rw [hown, he] at hk
    have ho := congrArg (Option.map RosterEntry.identified) (getOwn_of_primary hp)
    rw [hts, Option.map_map, Option.map_map] at ho
    have hid : RosterEntry.identified ∘ (fun e => { e with fault := none }) = RosterEntry.identified := rfl
    rw [hid] at ho
    rw [hk, ho]
    simp only [takeSeat, Table.get_put, if_pos]
    rfl

/-- A station that goes on from its seat by routine changes, its stage first. -/
theorem Routine.fromSeat (h : Routine u t) (hp : u.power = (seatTaken s).power)
    (hs : u.seat = { (seatTaken s).seat with stage := u.seat.stage, fallbackMark := u.seat.fallbackMark })
    (hr : u.retention = (seatTaken s).retention) (he : u.roster.entries = (seatTaken s).roster.entries)
    (hf : u.faults.list = (seatTaken s).faults.list) : BecameSeated s t := by
  have hpr := seatTaken_primary s
  refine h.becameSeated (hp.trans (primary_fields hpr).1) ?_ ?_ he hf
  · have hseat := seat_of_primary hpr
    rw [hs, hseat]
  · have hret := retention_of_primary hpr
    rw [hr]
    exact hret

theorem seatTaken_mute (s : State) : (seatTaken s).line.mute = s.line.mute := by
  obtain ⟨-, -, -, -, -, -, -, -, -, -, -, -, -, -, -, -, -, -, -, -, -, -, -, hm, -⟩ := primary_fields (seatTaken_primary s)
  exact hm

/-- A mute station goes on at once. -/
theorem settle_becomeSeated_mute (hm : s.line.mute = true) (hfs : t = settle (becomeSeated s)) :
    BecameSeated s t ∧ t.roster.announce = none ∧
    ((seatTaken s).skipsCheck = true ∨ (seatTaken s).underTest = [] → t.seat.stage = .sync) ∧
    ((seatTaken s).skipsCheck = false → (seatTaken s).underTest ≠ [] → t.seat.stage = .checking ∧
      t.lamps.check = some { todo := (seatTaken s).underTest, turn := 0, pulse := true }) := by
  rw [becomeSeated_eq, seatTaken_mute, if_pos hm] at hfs
  obtain ⟨h1, h2, h3⟩ := profilingEnd_routine (seatTaken s)
  have hset := settle_routine (profilingEnd (seatTaken s))
  rw [← hfs] at hset
  cases hk : (seatTaken s).skipsCheck with
  | true =>
    have h := (h1 hk).trans hset
    exact ⟨h.fromSeat rfl rfl rfl rfl rfl, h.queueing.announce_none rfl, fun _ => h.stage, fun hx => by cases hx⟩
  | false =>
    by_cases ht : (seatTaken s).underTest = []
    · have h := (h2 hk ht).trans hset
      exact ⟨h.fromSeat rfl rfl rfl rfl rfl, h.queueing.announce_none rfl, fun _ => h.stage, fun _ hx => absurd ht hx⟩
    · have h := (h3 hk ht).trans hset
      exact ⟨h.fromSeat rfl rfl rfl rfl rfl, h.queueing.announce_none rfl, fun hx => (hx.resolve_left Bool.false_ne_true |> ht).elim,
        fun _ _ => ⟨h.stage, h.check⟩⟩

theorem beginSequence_eq (p : Purpose) (s : State) :
    beginSequence p s =
      offer (.profile 0 (segmentTotal (ownSummaryBytes s.loader)) (segmentData (ownSummaryBytes s.loader) 0))
        (setAnnounce (some { purpose := p, index := 0, restart := false, reoffer := false }) s) := rfl

/-- Any other announces itself first. -/
theorem settle_becomeSeated_announcing (hm : s.line.mute = false) (hfs : t = settle (becomeSeated s)) :
    BecameSeated s t ∧ t.seat.stage = .profiling ∧ t.primary = (takeSeat s).primary ∧ OwnSummaryOk t ∧
    ∃ a, t.roster.announce = some a ∧ a.purpose = .initial ∧ a.index = 0 := by
  rw [becomeSeated_eq, seatTaken_mute, if_neg (by rw [hm]; exact Bool.false_ne_true)] at hfs
  have hr := (offer_routine (f := .profile 0 (segmentTotal (ownSummaryBytes (seatTaken s).loader))
    (segmentData (ownSummaryBytes (seatTaken s).loader) 0)) rfl
      (setAnnounce (some { purpose := .initial, index := 0, restart := false, reoffer := false }) (seatTaken s))).trans
    (settle_routine _)
  rw [← beginSequence_eq, ← hfs] at hr
  have hp : t.primary = (takeSeat s).primary := by
    rw [hfs, settle_primary, beginSequence_eq, offer_primary]
    exact seatTaken_primary s
  have hst : (takeSeat s).seat.stage = .profiling := rfl
  have hq : Quiet True (takeSeat s) t := by
    rw [hfs]
    exact (seatTaken_quiet s).trans ((beginSequence_quiet _ fun _ => .inl ((seatTaken_quiet s).stage.trans hst)).trans
      (settle_quiet (.inl trivial)))
  have ha := hr.queueing.offered
  refine ⟨hr.fromSeat rfl rfl rfl rfl rfl, hq.stage.trans hst, hp, hq.ownSummaryOk (takeSeat_ownSummaryOk s), ?_⟩
  obtain ⟨a, ha', he⟩ := Option.map_eq_some_iff.mp ha
  exact ⟨a, ha', (congrArg Sending.purpose he :), (congrArg Sending.index he :)⟩

end Sys2Proof.Machine

open Sys2Proof Sys2Proof.Machine

/-- Settles O14. -/
theorem claimWindowSeats : Obligations.ClaimWindowSeats := by
  intro s hp hg hw hf
  have he : exec .claimWindowExpiry s = .next (settle (becomeSeated s)) :=
    whenRunning_admitted (fun s => s.seat.window.isRunning && s.seat.stage == .claiming) hp (by simp [hg, hw])
  refine ⟨_, he, ?_⟩
  generalize hfs : settle (becomeSeated s) = t
  obtain ⟨hsk, hut⟩ := seatTaken_tests s
  obtain ⟨hsu, hfree, hlost⟩ := seatTaken_faults hf
  have hboth : BecameSeated s t := by
    cases hm : s.line.mute with
    | true => exact (settle_becomeSeated_mute hm hfs.symm).1
    | false => exact (settle_becomeSeated_announcing hm hfs.symm).1
  have hseat := hboth.seat
  have hret := hboth.retention
  have hseated : t.seated = true := by
    cases hm : s.line.mute with
    | true =>
      obtain ⟨-, -, h1, h2⟩ := settle_becomeSeated_mute hm hfs.symm
      by_cases h : (seatTaken s).skipsCheck = true ∨ (seatTaken s).underTest = []
      · rw [State.seated, h1 h]; rfl
      · rw [not_or, Bool.not_eq_true] at h
        rw [State.seated, (h2 h.1 h.2).1]; rfl
    | false =>
      obtain ⟨-, h, -⟩ := settle_becomeSeated_announcing hm hfs.symm
      rw [State.seated, h]; rfl
  refine ⟨by rw [hseat], fun hm => ?_, fun hm => ?_, by simp [State.seatOut, hboth.power, hp, hseated], by rw [hseat],
    by rw [hseat], by rw [hseat], by rw [hseat], hboth.others, by rw [hret], by rw [hret], by rw [hret], by rw [hret],
    hboth.faults.hasFault (by decide) (by decide) hsu, fun h => hboth.faults.hasFault (by decide) (by decide) (hfree h),
    fun hh hi h8 => hboth.faults.frontLost (hlost hh hi h8)⟩
  · obtain ⟨-, hst, hpr, hsum, ha⟩ := settle_becomeSeated_announcing hm hfs.symm
    refine ⟨hst, ha, ?_⟩
    have hown := getOwn_of_primary hpr
    have hts : (takeSeat s).seat.ownSeat = s.seat.claimed := rfl
    have hsum' := hsum hseated
    rw [hts] at hown
    rw [show t.seat.ownSeat = s.seat.claimed by rw [hseat]] at hsum'
    rw [takeSeat_own] at hown
    obtain ⟨e, hx, hxe⟩ := Option.map_eq_some_iff.mp hown
    rw [hx, Option.map_some, Option.some_inj] at hsum'
    rw [hx, Option.some_inj]
    rw [← hsum']
    exact (congrArg (fun r : RosterEntry => { r with fault := e.fault }) hxe :)
  · obtain ⟨-, han, h1, h2⟩ := settle_becomeSeated_mute hm hfs.symm
    rw [hsk, hut] at h1 h2
    rw [Bool.eq_false_iff, Ne, skipsCheck_iff, Ne, underTest_eq_nil] at h2
    rw [skipsCheck_iff, underTest_eq_nil] at h1
    refine ⟨h1, h2, han, ?_⟩
    have hid := congrArg (Option.map RosterEntry.identity) hboth.own
    rw [Option.map_map] at hid
    exact hid

end

section
/-! SUPPORT. A frame sent to its end: O44. -/

namespace Sys2Proof.Machine

variable {s t u v w : State} {x : Entry} {Q : Frame → Prop}

/-! ### What the line keeps -/

/-- Of the line the queue and what goes with it may change, and nothing goes in flight. -/
structure LineKept (s t : State) : Prop where
  line : t.line = { s.line with
    queue := t.line.queue, followOn := t.line.followOn, overflow := t.line.overflow, nextId := t.line.nextId }
  pending : (∀ e ∈ s.line.queue, e.inFlight = false) → ∀ e ∈ t.line.queue, e.inFlight = false

theorem LineKept.of_line (hl : t.line = s.line) : LineKept s t := ⟨by rw [hl], by rw [hl]; exact id⟩

theorem LineKept.trans (h : LineKept s t) (k : LineKept t u) : LineKept s u :=
  ⟨by rw [k.line, h.line], fun hs => k.pending (h.pending hs)⟩

theorem LineKept.after (k : LineKept u t) (hl : u.line = s.line) : LineKept s t := (LineKept.of_line hl).trans k

theorem Queueing.lineKept (h : Queueing Q s t) : LineKept s t := ⟨h.line, h.pending⟩

/-- The same, and no other faults are raised. -/
structure KeepsLine (s t : State) : Prop extends LineKept s t where
  faults : CalmFaults s t

theorem KeepsLine.of_fields (hl : t.line = s.line) (hf : t.faults.list = s.faults.list) : KeepsLine s t :=
  ⟨.of_line hl, .of_list hf⟩

theorem KeepsLine.trans (h : KeepsLine s t) (k : KeepsLine t u) : KeepsLine s u :=
  ⟨h.toLineKept.trans k.toLineKept, h.faults.trans k.faults⟩

theorem KeepsLine.after (k : KeepsLine u t) (hl : u.line = s.line) (hf : u.faults.list = s.faults.list) : KeepsLine s t :=
  (KeepsLine.of_fields hl hf).trans k

theorem Routine.keepsLine (h : Routine s t) : KeepsLine s t := ⟨h.queueing.lineKept, h.faults⟩

theorem offerSegment_routine (s : State) :
    Routine { s with roster := { s.roster with announce := s.roster.announce.map Sending.offered } } (offerSegment s) := by
  unfold offerSegment
  cases h : s.roster.announce with
  | none =>
    have he : { s with roster := { s.roster with announce := none } } = s := by rw [← h]
    simp only [Option.map_none, he]
    exact .refl s
  | some a => exact offer_routine rfl _

/-! ### The owner told -/

theorem beginSequence_routine (p : Purpose) (s : State) :
    Routine (setAnnounce (some { purpose := p, index := 0, restart := false, reoffer := false }) s) (beginSequence p s) :=
  offer_routine rfl _

theorem segmentSent_keepsLine (s : State) : KeepsLine s (segmentSent s) := by
  unfold segmentSent
  split
  · exact .of_fields rfl rfl
  · split
    · exact (beginSequence_routine _ s).keepsLine.after rfl rfl
    · split
      · exact (offerSegment_routine _).keepsLine.after rfl rfl
      · split
        · obtain ⟨h1, h2, h3⟩ := profilingEnd_routine s
          cases hk : s.skipsCheck with
          | true => exact (h1 hk).keepsLine.after rfl rfl
          | false =>
            by_cases ht : s.underTest = []
            · exact (h2 hk ht).keepsLine.after rfl rfl
            · exact (h3 hk ht).keepsLine.after rfl rfl
        · exact (offer_routine rfl _).keepsLine.after rfl rfl
        · exact .of_fields rfl rfl

theorem tellSent_keepsLine (x : Entry) (s : State) : KeepsLine s (tellSent x s) := by
  unfold tellSent
  split
  · unfold claimSent
    split <;> exact .of_fields rfl rfl
  · exact segmentSent_keepsLine s
  · unfold relaySent setRelay
    split <;> exact .of_fields rfl rfl
  · unfold querySent
    split
    · exact .of_fields rfl rfl
    · split <;> exact .of_fields rfl rfl
  · unfold answerSent setAnswering
    split
    · exact .of_fields rfl rfl
    · split <;> exact .of_fields rfl rfl
  · exact .of_fields rfl rfl

/-! ### From the owner told to the end of the event -/

/-- No QUERY on the queue is the outstanding one. -/
def QueryAway (s : State) : Prop :=
  ∀ e ∈ s.line.queue, e.frame.isQuery = true → (s.port.query.map Query.frameId) ≠ some e.id

/-- What the rest of the event leaves to the owner told. -/
structure Onward (s t : State) : Prop extends KeepsLine s t where
  seat : t.seat = { s.seat with offer := t.seat.offer }
  offered : t.roster.announce.map Sending.offered = s.roster.announce.map Sending.offered
  relay : s.body.relay.state ≠ .waiting → t.body.relay = s.body.relay
  answering : s.port.answering = none → t.port.answering = none
  query : QueryAway s → t.port.query = s.port.query ∧ QueryAway t

theorem Onward.refl (s : State) : Onward s s where
  toKeepsLine := .of_fields rfl rfl
  seat := rfl
  offered := rfl
  relay _ := rfl
  answering := id
  query h := ⟨rfl, h⟩

theorem Onward.trans (h : Onward s t) (k : Onward t u) : Onward s u where
  toKeepsLine := h.toKeepsLine.trans k.toKeepsLine
  seat := by rw [k.seat, h.seat]
  offered := k.offered.trans h.offered
  relay hs := by
    have := h.relay hs
    rw [k.relay (by rw [this]; exact hs), this]
  answering := k.answering ∘ h.answering
  query hs := by
    obtain ⟨h1, h2⟩ := h.query hs
    obtain ⟨h3, h4⟩ := k.query h2
    exact ⟨h3.trans h1, h4⟩

theorem Routine.onward (h : Routine s t) : Onward s t where
  toKeepsLine := h.keepsLine
  seat := h.seat
  offered := h.queueing.offered
  relay := h.queueing.relay
  answering := h.queueing.answering
  query := h.queueing.query fun _ hf => hf

theorem offerSegment_onward (s : State) : Onward s (offerSegment s) := by
  have h1 : Onward s { s with roster := { s.roster with announce := s.roster.announce.map Sending.offered } } := by
    refine ⟨.of_fields rfl rfl, rfl, ?_, fun _ => rfl, id, fun h => ⟨rfl, h⟩⟩
    show Option.map _ (Option.map _ _) = _
    rw [Option.map_map]
    rfl
  exact h1.trans (offerSegment_routine s).onward

theorem profileAgain_onward (b : Bool) (s : State) : Onward s (profileAgain b s) := by
  unfold profileAgain
  split
  · exact offerSegment_onward s
  · exact .refl s

theorem answerAgain_onward (o : Option OwedBusy) (d : Bool) (s : State) : Onward s (answerAgain o d s) := by
  have hset (a b : Option Answering) (ha : s.port.answering = b) (hb : b ≠ none) : Onward s (setAnswering a s) :=
    ⟨.of_fields rfl rfl, rfl, rfl, fun _ => rfl, fun h => absurd (ha.symm.trans h) hb, fun h => ⟨rfl, h⟩⟩
  unfold answerAgain
  split
  · exact .refl s
  · split
    · have ho : Onward s { s with port := { s.port with owed := none } } :=
        ⟨.of_fields rfl rfl, rfl, rfl, fun _ => rfl, id, fun h => ⟨rfl, h⟩⟩
      exact ho.trans (offer_routine rfl _).onward
    · split
      · exact .refl s
      · next a ha =>
        split
        · unfold answerNext
          rw [ha]
          dsimp only
          split
          · exact (hset _ _ ha (by simp)).trans (offer_routine rfl _).onward
          · exact (hset _ _ ha (by simp)).trans (offer_routine rfl _).onward
        · exact .refl s

/-- The owner told, on a line whose drive faults in a row are over. -/
def toldOwner (x : Entry) (s : State) : State :=
  { tellSent x (leaveQueue x (readOwnEnd s)) with
    line := { (tellSent x (leaveQueue x (readOwnEnd s))).line with driveFaults := 0 } }

theorem sendEnd_onward (x : Entry) (s : State) :
    Onward (toldOwner x s) (settle (sendEnd x s)) ∧ (settle (sendEnd x s)).hasFault .lineDrive 0 = false := by
  have he : sendEnd x s = answerAgain s.port.owed (s.answerDue || x.frame.isAnswer)
      (profileAgain s.segmentDue (clearFault .lineDrive 0 (toldOwner x s))) := rfl
  have hc : (clearFault .lineDrive 0 (toldOwner x s)).hasFault .lineDrive 0 = false := clearFault_hasFault _ _ rfl
  have h1 := (clearFault_routine (c := .lineDrive) (by decide) 0 (toldOwner x s)).onward
  rw [he]
  generalize clearFault .lineDrive 0 (toldOwner x s) = v at hc h1 ⊢
  have h2 := (profileAgain_onward s.segmentDue v).trans ((answerAgain_onward s.port.owed (s.answerDue || x.frame.isAnswer) _).trans
    (settle_routine _).onward)
  exact ⟨h1.trans h2, h2.faults.hasFault (by decide) (by decide) hc⟩

/-! ### The frame leaves the queue -/

theorem replaceClass_of_isQuery {f : Frame} (h : f.replaceClass.isSome = true) : f.isQuery = false := by
  cases f <;> first | rfl | cases h

theorem leaveQueue_onward (x : Entry) (s : State) : Onward (frameGone x s) (leaveQueue x (readOwnEnd s)) := by
  rw [leaveQueue_readOwnEnd]
  split
  · exact .refl _
  · next f hf =>
    refine (offer_routine (replaceClass_of_isQuery ?_) _).onward
    have := List.find?_some hf
    simp only [Bool.and_eq_true, beq_iff_eq] at this
    rw [this.2]
    exact this.1

/-- A frame of no replaceable class leaves the queue with nothing in its place. -/
theorem leaveQueue_plain (h : x.frame.replaceClass = none) : leaveQueue x (readOwnEnd s) = frameGone x s := by
  rw [leaveQueue_readOwnEnd]
  split
  · rfl
  · next f hf =>
    have := List.find?_some hf
    simp [h] at this

theorem frameGone_pending (x : Entry) (s : State) : ∀ e ∈ (frameGone x s).line.queue, e.inFlight = false := fun e he => by
  simpa using (List.mem_filter.mp he).2

/-- What every frame sent to its end leaves of the line. -/
theorem sendEnd_line (x : Entry) (s : State) (hfs : t = settle (sendEnd x s)) :
    (∀ e ∈ t.line.queue, e.inFlight = false) ∧
    t.line = { s.line.read ((s.line.reception.map Reception.rest).getD []) with
      reception := none, driveFaults := 0
      queue := t.line.queue, followOn := t.line.followOn, overflow := t.line.overflow, nextId := t.line.nextId } := by
  have h1 := (leaveQueue_onward x s).toKeepsLine.trans (tellSent_keepsLine x _)
  have h2 := (sendEnd_onward x s).1.toKeepsLine
  rw [← hfs] at h2
  refine ⟨h2.pending (h1.pending (frameGone_pending x s)), ?_⟩
  rw [h2.line, toldOwner, h1.line]
  rfl

/-! ### Each owner -/

theorem toldOwner_plain (h : x.frame.replaceClass = none) :
    toldOwner x s =
      { tellSent x (frameGone x s) with line := { (tellSent x (frameGone x s)).line with driveFaults := 0 } } := by
  rw [toldOwner, leaveQueue_plain h]

theorem toldOwner_claim (h : x.frame.isSeatClaim = true) (hc : s.seat.claim = .inFlight) (hid : x.id = s.seat.claimId) :
    (toldOwner x s).seat =
      { s.seat with claim := .window, unseated := .stopped, expiryHeld := false, window := .running 0 200 } := by
  have hr : x.frame.replaceClass = none := by cases hf : x.frame <;> rw [hf] at h <;> first | rfl | cases h
  rw [toldOwner_plain hr]
  show (tellSent x (frameGone x s)).seat = _
  have ht : tellSent x (frameGone x s) = claimSent x.id (frameGone x s) := by
    unfold tellSent
    cases hf : x.frame <;> rw [hf] at h <;> first | rfl | cases h
  rw [ht, claimSent, if_pos ⟨hc, hid⟩]
  rfl

theorem toldOwner_relay {p c g : Nat} {b : Bool} (h : x.frame = .bodyRequest p c b g) (hw : s.body.relay.state = .waiting)
    (hid : s.body.relay.frameId = x.id) : (toldOwner x s).body.relay = { s.body.relay with state := .sent } := by
  rw [toldOwner_plain (by rw [h]; rfl)]
  show (tellSent x (frameGone x s)).body.relay = _
  simp only [tellSent, h, relaySent]
  rw [if_pos (by exact ⟨hw, hid.symm⟩)]
  rfl

theorem toldOwner_query {p c f k : Nat} {q : Query} (h : x.frame = .query p c f k) (hq : s.port.query = some q)
    (hid : q.frameId = x.id) (hids : ∀ e ∈ s.line.queue, e.id = x.id → e.inFlight = true) :
    (toldOwner x s).port.query = some { q with sent := true, timer := .running 0 250 } ∧ QueryAway (toldOwner x s) := by
  have hg : querySent x.id (frameGone x s) =
      { frameGone x s with
        port := { s.port with query := some { q with sent := true, timer := .running 0 250 } } } := by
    have hg : (frameGone x s).port.query = some q := hq
    unfold querySent
    rw [hg]
    exact if_pos hid
  have ht : toldOwner x s = _ := toldOwner_plain (by rw [h]; rfl)
  simp only [tellSent, h, hg] at ht
  rw [ht]
  refine ⟨rfl, fun e he _ hx => ?_⟩
  obtain ⟨hm, hf⟩ := List.mem_filter.mp he
  have := hids e hm ((Option.some_inj.mp hx).symm.trans hid)
  rw [this] at hf
  cases hf

theorem toldOwner_answer {p c i : Nat} {o : AnswerStatus} {d : List Byte} {a : Answering} (h : x.frame = .answer p c i o d)
    (ha : s.port.answering = some a) (ho : o ≠ .busy) (hl : a.ended = true) : (toldOwner x s).port.answering = none := by
  have ht : toldOwner x s = _ := toldOwner_plain (by rw [h]; rfl)
  have hg : (frameGone x s).port.answering = some a := ha
  simp only [tellSent, h, answerSent, hg, if_pos (And.intro ho hl)] at ht
  rw [ht]
  rfl

theorem segmentSent_restart {a : Sending} (ha : s.roster.announce = some a) (h : a.restart = true) :
    segmentSent s = beginSequence a.purpose s := by
  simp only [segmentSent, ha, h, if_true]

theorem segmentSent_next {a : Sending} (ha : s.roster.announce = some a) (h : a.restart = false)
    (hi : a.index + 1 < segmentTotal (ownSummaryBytes s.loader)) :
    segmentSent s = offerSegment (setAnnounce (some { a with index := a.index + 1 }) s) := by
  simp only [segmentSent, ha, h, hi, if_true, Bool.false_eq_true, if_false]

theorem segmentSent_initial {a : Sending} (ha : s.roster.announce = some a) (h : a.restart = false)
    (hi : segmentTotal (ownSummaryBytes s.loader) ≤ a.index + 1) (hp : a.purpose = .initial) :
    segmentSent s = profilingEnd s := by
  simp only [segmentSent, ha, h, Nat.not_lt.mpr hi, hp, Bool.false_eq_true, if_false]

theorem segmentSent_announced {a : Sending} (ha : s.roster.announce = some a) (h : a.restart = false)
    (hi : segmentTotal (ownSummaryBytes s.loader) ≤ a.index + 1) (hp : a.purpose = .announce) :
    segmentSent s = offer (.stageJoined s.ownNote) (setAnnounce none s) := by
  simp only [segmentSent, ha, h, Nat.not_lt.mpr hi, hp, Bool.false_eq_true, if_false]

theorem segmentSent_defended {a : Sending} (ha : s.roster.announce = some a) (h : a.restart = false)
    (hi : segmentTotal (ownSummaryBytes s.loader) ≤ a.index + 1) (hp : a.purpose = .defence) :
    segmentSent s = setAnnounce none s := by
  simp only [segmentSent, ha, h, Nat.not_lt.mpr hi, hp, Bool.false_eq_true, if_false]

/-- The sequence after a segment sent. -/
theorem toldOwner_segment {a : Sending} (h : x.frame.isProfile = true) (ha : s.roster.announce = some a) :
    (a.restart = true → (toldOwner x s).roster.announce.map Sending.index = some 0) ∧
    (a.restart = false → a.index + 1 < segmentTotal (ownSummaryBytes s.loader) →
      (toldOwner x s).roster.announce.map Sending.index = some (a.index + 1)) ∧
    (a.restart = false → segmentTotal (ownSummaryBytes s.loader) ≤ a.index + 1 →
      (toldOwner x s).roster.announce = none ∧
      (a.purpose = .initial → s.skipsCheck = true ∨ s.underTest = [] → (toldOwner x s).seat.stage = .sync) ∧
      (a.purpose = .initial → s.skipsCheck = false → s.underTest ≠ [] → (toldOwner x s).seat.stage = .checking) ∧
      (a.purpose ≠ .initial → (toldOwner x s).seat.stage = s.seat.stage)) := by
  have hr : x.frame.replaceClass = none := by cases hf : x.frame <;> rw [hf] at h <;> first | rfl | cases h
  have ht : tellSent x (frameGone x s) = segmentSent (frameGone x s) := by
    unfold tellSent
    cases hf : x.frame <;> rw [hf] at h <;> first | rfl | cases h
  have hann : (toldOwner x s).roster = (segmentSent (frameGone x s)).roster ∧
      (toldOwner x s).seat = (segmentSent (frameGone x s)).seat := by
    rw [toldOwner_plain hr, ht]
    exact ⟨rfl, rfl⟩
  have hga : (frameGone x s).roster.announce = some a := ha
  have hgl : (frameGone x s).loader = s.loader := rfl
  have hindex {v w : State} {b : Sending} (hv : v.roster.announce = some b) (k : Routine v w) :
      w.roster.announce.map Sending.index = some b.index := by
    have ho := k.queueing.offered
    rw [hv] at ho
    obtain ⟨c, hc, hb⟩ := Option.map_eq_some_iff.mp ho
    rw [hc]
    exact (congrArg (fun z : Sending => some z.index) hb :)
  rw [hann.1, hann.2]
  have hgk : (frameGone x s).skipsCheck = s.skipsCheck ∧ (frameGone x s).underTest = s.underTest := ⟨rfl, rfl⟩
  have hgs : (frameGone x s).seat.stage = s.seat.stage := rfl
  rw [← hgk.1, ← hgk.2, ← hgl, ← hgs]
  generalize frameGone x s = v at *
  refine ⟨fun hre => ?_, fun hre hi => ?_, fun hre hi => ?_⟩
  · rw [segmentSent_restart hga hre]
    exact hindex rfl (beginSequence_routine _ v)
  · rw [segmentSent_next hga hre hi]
    exact hindex (b := Sending.offered { a with index := a.index + 1 }) rfl (offerSegment_routine _)
  · obtain ⟨h1, h2, h3⟩ := profilingEnd_routine v
    have hft : ¬(false = true) := Bool.false_ne_true
    cases hpu : a.purpose with
    | initial =>
      rw [segmentSent_initial hga hre hi hpu]
      cases hk : v.skipsCheck with
      | true =>
        have h := h1 hk
        exact ⟨h.queueing.announce_none rfl, fun _ _ => h.stage, fun _ hx => absurd hx.symm hft, fun hx => absurd rfl hx⟩
      | false =>
        by_cases hu : v.underTest = []
        · have h := h2 hk hu
          exact ⟨h.queueing.announce_none rfl, fun _ _ => h.stage, fun _ _ hx => absurd hu hx, fun hx => absurd rfl hx⟩
        · have h := h3 hk hu
          exact ⟨h.queueing.announce_none rfl, fun _ hx => absurd (hx.resolve_left hft) hu, fun _ _ _ => h.stage,
            fun hx => absurd rfl hx⟩
    | announce =>
      rw [segmentSent_announced hga hre hi hpu]
      have h := offer_routine (f := .stageJoined v.ownNote) rfl (setAnnounce none v)
      exact ⟨h.queueing.announce_none rfl, nofun, nofun, fun _ => h.stage⟩
    | defence =>
      rw [segmentSent_defended hga hre hi hpu]
      exact ⟨rfl, nofun, nofun, fun _ => rfl⟩

/-! ### A segment offered again on an empty queue -/

theorem SameInputs.trans (h : SameInputs s t) (k : SameInputs t u) : SameInputs s u :=
  ⟨k.profile.trans h.profile, k.stage.trans h.stage, k.ownSeat.trans h.ownSeat, k.presIn.trans h.presIn, k.offer.trans h.offer,
    fun q => (k.entries q).trans (h.entries q), k.phase.trans h.phase, k.demand.trans h.demand, k.analogs.trans h.analogs,
    k.moving.trans h.moving, k.motion.trans h.motion, k.view.trans h.view, k.bodies.trans h.bodies⟩

/-- The owner of a frame that is no segment, told with the queue empty. -/
theorem toldOwner_alone (hq : s.line.queue = [x]) (hx : x.inFlight = true) (hf : s.line.followOn = [])
    (hn : x.frame.isProfile = false) :
    (toldOwner x s).line.queue = [] ∧ (toldOwner x s).roster = s.roster ∧ (toldOwner x s).loader = s.loader ∧
    SameInputs s (toldOwner x s) := by
  have hg : leaveQueue x (readOwnEnd s) = frameGone x s := by
    rw [leaveQueue_readOwnEnd, hf]
    rfl
  have hgq : (frameGone x s).line.queue = [] := by simp [frameGone, hq, hx]
  have hsame : SameInputs s (frameGone x s) := ⟨rfl, rfl, rfl, rfl, rfl, fun _ => rfl, rfl, rfl, rfl, rfl, rfl, rfl, rfl⟩
  have hr : (frameGone x s).roster = s.roster := rfl
  have hto : (tellSent x (frameGone x s)).line.queue = [] ∧ (tellSent x (frameGone x s)).roster = s.roster ∧
      (tellSent x (frameGone x s)).loader = s.loader ∧ SameInputs s (tellSent x (frameGone x s)) := by
    have hgl : (frameGone x s).loader = s.loader := rfl
    generalize frameGone x s = v at hgq hsame hr hgl
    have hplain (w : State) (hl : w.line = v.line) (hro : w.roster = v.roster) (hlo : w.loader = v.loader)
        (hse : w.seat.stage = v.seat.stage ∧ w.seat.ownSeat = v.seat.ownSeat ∧ w.seat.presIn = v.seat.presIn ∧
          w.seat.offer = v.seat.offer) (hph : w.phase = v.phase) (hd : w.demand = v.demand) (hsn : w.sensor = v.sensor)
        (hb : w.body.channels = v.body.channels) :
        w.line.queue = [] ∧ w.roster = s.roster ∧ w.loader = s.loader ∧ SameInputs s w := by
      obtain ⟨h1, h2, h3, h4⟩ := hse
      exact ⟨by rw [hl, hgq], hro.trans hr, hlo.trans hgl, hsame.trans ⟨by rw [hlo], h1, h2, h3, by rw [h4],
        fun q => by rw [hro], hph, by rw [hd], by rw [hsn], by rw [hsn], by rw [hsn], by rw [hsn], hb⟩⟩
    unfold tellSent
    split
    · unfold claimSent
      split <;> exact hplain _ rfl rfl rfl ⟨rfl, rfl, rfl, rfl⟩ rfl rfl rfl rfl
    · next hp => rw [hp] at hn; cases hn
    · unfold relaySent setRelay
      split <;> exact hplain _ rfl rfl rfl ⟨rfl, rfl, rfl, rfl⟩ rfl rfl rfl rfl
    · unfold querySent
      split
      · exact hplain _ rfl rfl rfl ⟨rfl, rfl, rfl, rfl⟩ rfl rfl rfl rfl
      · split <;> exact hplain _ rfl rfl rfl ⟨rfl, rfl, rfl, rfl⟩ rfl rfl rfl rfl
    · unfold answerSent setAnswering
      split
      · exact hplain _ rfl rfl rfl ⟨rfl, rfl, rfl, rfl⟩ rfl rfl rfl rfl
      · split <;> exact hplain _ rfl rfl rfl ⟨rfl, rfl, rfl, rfl⟩ rfl rfl rfl rfl
    · exact hplain _ rfl rfl rfl ⟨rfl, rfl, rfl, rfl⟩ rfl rfl rfl rfl
  obtain ⟨h1, h2, hl, h3⟩ := hto
  rw [toldOwner, hg]
  exact ⟨h1, h2, hl, h3.trans ⟨rfl, rfl, rfl, rfl, rfl, fun _ => rfl, rfl, rfl, rfl, rfl, rfl, rfl, rfl⟩⟩

theorem offer_queue_length (f : Frame) (s : State) : (offer f s).line.queue.length ≤ s.line.queue.length + 1 := by
  obtain ⟨q, fo, o, hl, -, ho⟩ := offer_line f s
  rw [hl]
  cases ho with
  | same => exact Nat.le_succ _
  | entered => simp [(insertEntry_perm _ _).length_eq]
  | inPlace x =>
    have := List.length_filter_le (fun y => y.id != x.id) s.line.queue
    simp [(insertEntry_perm _ _).length_eq]
    omega
  | replaced => simp
  | held => exact Nat.le_succ _

theorem clearFault_queue_length (c : FaultCode) (k : Nat) (s : State) :
    (clearFault c k s).line.queue.length ≤ s.line.queue.length + 1 := by
  unfold clearFault
  split
  · exact Nat.le_succ _
  · split
    · exact Nat.le_succ _
    · unfold removeFault queueFault
      split
      · exact (offer_queue_length _ _).trans (Nat.le_of_eq rfl)
      · exact Nat.le_succ _

theorem queueTakes_seated (f : Frame) (h : s.seated = true) : s.queueTakes f = true := by
  unfold State.queueTakes
  cases hg : s.seat.stage <;> simp_all [State.seated, Stage.seated]

/-- A segment that awaits a new offer enters a queue with room and no other segment. -/
theorem offerSegment_enters {a : Sending} (hs : s.seated = true) (ha : s.roster.announce = some a)
    (hl : s.line.queue.length < 8) (hk : ∀ e ∈ s.line.queue, e.frame.kind ≠ 8) :
    let b := ownSummaryBytes s.loader
    (offerSegment s).roster.announce = some { a with reoffer := false } ∧
    (offerSegment s).line.queue.length = s.line.queue.length + 1 ∧ (offerSegment s).unfaulted = s.unfaulted ∧
    ∃ e ∈ (offerSegment s).line.queue, e.inFlight = false ∧
      e.frame = .profile a.index (segmentTotal b) (segmentData b a.index) := by
  have he : offerSegment s =
      offer (.profile a.index (segmentTotal (ownSummaryBytes s.loader)) (segmentData (ownSummaryBytes s.loader) a.index))
        (setAnnounce (some { a with reoffer := false }) s) := by
    rw [offerSegment, ha]
    rfl
  have hu : (offerSegment s).unfaulted = s.unfaulted := by
    rw [he]
    exact unfaulted_of_unqueued (offer_unqueued _ _)
  have ho := offer_enters (s := setAnnounce (some { a with reoffer := false }) s)
    (f := .profile a.index (segmentTotal (ownSummaryBytes s.loader)) (segmentData (ownSummaryBytes s.loader) a.index))
    (queueTakes_seated _ hs) (.inl ⟨rfl, fun _ => hk⟩)
  rw [enterQueue_room _ (by exact hl)] at ho
  refine ⟨?_, ?_, hu, ?_⟩
  · rw [he, ho]
    rfl
  · rw [he, ho]
    exact (insertEntry_perm _ _).length_eq
  · refine ⟨⟨s.line.nextId, .profile a.index (segmentTotal (ownSummaryBytes s.loader))
      (segmentData (ownSummaryBytes s.loader) a.index), false, false⟩, ?_, rfl, rfl⟩
    rw [he, ho]
    exact (mem_insertEntry _ _ _).mpr (.inl rfl)

/-- An ANSWER or a BUSY offered to a queue with room leaves the frames that stand there. -/
theorem offer_answer_room {p c i : Nat} {o : AnswerStatus} {d : List Byte} (h : s.line.queue.length < 8) :
    (offer (.answer p c i o d) s).roster = s.roster ∧
    ∀ e ∈ s.line.queue, e ∈ (offer (.answer p c i o d) s).line.queue := by
  by_cases hq : s.queueTakes (.answer p c i o d) = true
  · by_cases hk : ∃ e ∈ s.line.queue, e.frame.kind = 11
    · rw [offer_turned hq (.inr rfl) hk]
      refine ⟨?_, fun e he => by rw [tellLost_line]; exact he⟩
      unfold tellLost
      dsimp only
      split <;> rfl
    · rw [offer_enters hq (.inl ⟨rfl, fun _ e he hek => hk ⟨e, he, hek⟩⟩), enterQueue_room _ (by exact h)]
      exact ⟨rfl, fun e he => (mem_insertEntry _ _ _).mpr (.inr he)⟩
  · rw [offer_refused (Bool.eq_false_iff.mpr hq)]
    exact ⟨rfl, fun _ he => he⟩

/-- The same after an update of the owners' state. -/
theorem offer_answer_after {p c i : Nat} {o : AnswerStatus} {d : List Byte} (h : s.line.queue.length < 8)
    (hl : v.line = s.line) (hr : v.roster = s.roster) (hu : v.unfaulted = s.unfaulted) :
    (offer (.answer p c i o d) v).roster = s.roster ∧
    (∀ e ∈ s.line.queue, e ∈ (offer (.answer p c i o d) v).line.queue) ∧
    (offer (.answer p c i o d) v).unfaulted = s.unfaulted := by
  obtain ⟨h1, h2⟩ := offer_answer_room (p := p) (c := c) (i := i) (o := o) (d := d) (s := v) (by rw [hl]; exact h)
  rw [hl] at h2
  exact ⟨h1.trans hr, h2, (unfaulted_of_unqueued (offer_unqueued _ _)).trans hu⟩

theorem answerAgain_room (o : Option OwedBusy) (d : Bool) (h : s.line.queue.length < 8) :
    (answerAgain o d s).roster = s.roster ∧ (∀ e ∈ s.line.queue, e ∈ (answerAgain o d s).line.queue) ∧
    (answerAgain o d s).unfaulted = s.unfaulted := by
  unfold answerAgain
  split
  · exact ⟨rfl, fun _ he => he, rfl⟩
  · split
    · exact offer_answer_after h rfl rfl rfl
    · split
      · exact ⟨rfl, fun _ he => he, rfl⟩
      · next a ha =>
        split
        · unfold answerNext
          rw [ha]
          dsimp only
          split
          · exact offer_answer_after h rfl rfl rfl
          · exact offer_answer_after h rfl rfl rfl
        · exact ⟨rfl, fun _ he => he, rfl⟩

theorem SameInputs.of_unfaulted (h : t.unfaulted = s.unfaulted) : SameInputs s t := by
  obtain ⟨-, -, hl, -, hs, hp, hd, -, -, hse, -, -, -, -, hb, -⟩ := unfaulted_fields h
  exact ⟨by rw [hl], by rw [hs], by rw [hs], by rw [hs], by rw [hs], holds_of_unfaulted h, hp, by rw [hd], by rw [hse],
    by rw [hse], by rw [hse], by rw [hse], hb⟩

/-- A segment that awaits a new offer is offered again when another frame has been sent from an otherwise empty queue. -/
theorem sendEnd_segmentAgain {a : Sending} (hset : Settled s) (hs : s.seated = true) (hq : s.line.queue = [x])
    (hx : x.inFlight = true) (hf : s.line.followOn = []) (hn : x.frame.isProfile = false) (ha : s.roster.announce = some a)
    (hre : a.reoffer = true) (hfs : t = settle (sendEnd x s)) :
    let b := ownSummaryBytes s.loader
    t.roster.announce = some { a with reoffer := false } ∧
    ∃ e ∈ t.line.queue, e.inFlight = false ∧ e.frame = .profile a.index (segmentTotal b) (segmentData b a.index) := by
  obtain ⟨hq0, hr0, hprof, hin⟩ := toldOwner_alone hq hx hf hn
  have hst : (toldOwner x s).seated = true := by rw [State.seated, hin.stage]; exact hs
  have he : sendEnd x s = answerAgain s.port.owed (s.answerDue || x.frame.isAnswer)
      (offerSegment (clearFault .lineDrive 0 (toldOwner x s))) := by
    have hd : s.segmentDue = true := by simp [State.segmentDue, ha, hre]
    show answerAgain _ _ (profileAgain s.segmentDue _) = _
    rw [hd]
    rfl
  rw [he] at hfs
  generalize toldOwner x s = v at *
  have hc1 := clearFault_unfaulted v .lineDrive 0
  have hc2 := clearFault_announce (s := v) .lineDrive 0 (by rw [hq0]; decide)
  have hc3 := clearFault_queue_length .lineDrive 0 v
  have hc4 := clearFault_newFrames .lineDrive 0 v
  generalize clearFault .lineDrive 0 v = c at *
  obtain ⟨-, -, hcl, -, hcs, -⟩ := unfaulted_fields hc1
  rw [hq0] at hc3
  have hkind : ∀ e ∈ c.line.queue, e.frame.kind ≠ 8 := fun e hem hk => by
    rcases hc4 e hem with hm | hfault
    · rw [hq0] at hm; cases hm
    · cases hfr : e.frame <;> rw [hfr] at hk hfault <;> first | exact hfault | cases hk
  obtain ⟨h1, h2, h3, e, hem, hei, hef⟩ := offerSegment_enters (s := c) (a := a) (by rw [State.seated, hcs]; exact hst)
    (by rw [hc2, hr0, ha]) (Nat.lt_of_le_of_lt hc3 (by decide)) hkind
  generalize offerSegment c = d at *
  obtain ⟨k1, k2, k3⟩ := answerAgain_room (s := d) s.port.owed (s.answerDue || x.frame.isAnswer)
    (by rw [h2]; exact Nat.lt_of_le_of_lt (Nat.succ_le_succ hc3) (by decide))
  generalize answerAgain s.port.owed (s.answerDue || x.frame.isAnswer) d = w at *
  have hw : SetsSettled w := (hset.sets.congr hin).congr (.of_unfaulted (k3.trans (h3.trans hc1)))
  rw [settle_of_sets hw] at hfs
  have hroster : t.roster = w.roster := by rw [hfs]; rfl
  have hqueue : t.line = w.line := by rw [hfs]; rfl
  rw [hroster, hqueue, k1]
  refine ⟨h1, e, k2 e hem, hei, ?_⟩
  rw [hef, hcl, hprof]

end Sys2Proof.Machine

open Sys2Proof Sys2Proof.Machine

/-- Settles O44. -/
theorem frameSentIsTold : Obligations.FrameSentIsTold := by
  refine ⟨fun s hp x hx hid => ?_, fun u a ha hr => ⟨fun h => ?_, fun h => ⟨fun hpu => ?_, fun hpu => ?_⟩⟩⟩
  · have he : exec .frameSent s = .next (settle (sendEnd x s)) := by
      show execFrameSent s = _
      simp only [execFrameSent, whenRunning_running _ _ hp, hx]
    refine ⟨_, he, ?_⟩
    generalize hfs : settle (sendEnd x s) = t
    obtain ⟨hpend, hline⟩ := sendEnd_line x s hfs.symm
    obtain ⟨hon, hdrive⟩ := sendEnd_onward x s
    rw [hfs] at hon hdrive
    obtain ⟨-, -, -, -, -, hmal, -, -, hmute⟩ := s.line.read_fields ((s.line.reception.map Reception.rest).getD [])
    refine ⟨hpend, by rw [hline], hdrive, by rw [hline], by rw [hline], by rw [hline], by rw [hline], by rw [hline]; exact hmute,
      by rw [hline]; exact hmal, ?_, ?_, ?_, ?_, ?_, ?_⟩
    · intro h hc hid
      have hseat := hon.seat
      rw [toldOwner_claim h hc hid] at hseat
      rw [hseat]
      exact ⟨rfl, rfl, rfl, rfl, rfl⟩
    · intro a ha h
      obtain ⟨h1, h2, h3⟩ := toldOwner_segment (s := s) h ha
      have hidx : t.roster.announce.map Sending.index = (toldOwner x s).roster.announce.map Sending.index := by
        have := congrArg (Option.map Sending.index) hon.offered
        rw [Option.map_map, Option.map_map] at this
        exact this
      have hnone (hz : (toldOwner x s).roster.announce = none) : t.roster.announce = none := by
        have := hon.offered
        rw [hz] at this
        simpa using this
      have hst : t.seat.stage = (toldOwner x s).seat.stage := by rw [hon.seat]
      rw [hidx, hst]
      refine ⟨h1, h2, fun hre hi => ?_⟩
      obtain ⟨k1, k2, k3, k4⟩ := h3 hre hi
      rw [skipsCheck_iff, underTest_eq_nil] at k2
      rw [Bool.eq_false_iff, Ne, skipsCheck_iff, Ne, underTest_eq_nil] at k3
      exact ⟨hnone k1, k2, k3, k4⟩
    · intro p c b g h hw hid
      have := toldOwner_relay h hw hid
      rw [hon.relay (by rw [this]; exact nofun), this]
    · intro q hq p c f k h hid'
      obtain ⟨h1, h2⟩ := toldOwner_query h hq hid' hid
      rw [(hon.query h2).1, h1]
    · intro a ha p c i o d h ho hl
      exact hon.answering (toldOwner_answer h ha ho hl)
    · intro hset hs hq hf hn a ha hre
      exact sendEnd_segmentAgain hset hs hq (List.find?_some hx) hf hn ha hre hfs.symm
  · rw [segmentSent_next ha hr h]
    rfl
  · exact segmentSent_announced ha hr h hpu
  · exact segmentSent_defended ha hr h hpu

end

section
/-! SUPPORT. The circuit check: O35. -/

namespace Sys2Proof.Machine

variable {s t u v w : State} {n : Nat}

/-! ### Channels through a move of the health and through the judgements -/

/-- A move of the health writes the channel's record; the rest are faults. -/
theorem setHealth_unfaulted (n : Nat) (h : Health) (s : State) :
    (setHealth n h s).unfaulted =
      (if (s.channel n).health = h then s else modChannel n (fun c => { c with health := h, run := none }) s).unfaulted := by
  unfold setHealth
  dsimp only
  split
  · rfl
  · unfold clearIfCompleted
    split
    · rw [clearFault_unfaulted, raiseHealthFault_unfaulted, clearHealthFault_unfaulted]
    · rw [raiseHealthFault_unfaulted, clearHealthFault_unfaulted]

theorem setHealth_lamps (n : Nat) (h : Health) (s : State) :
    (setHealth n h s).lamps =
      if (s.channel n).health = h then s.lamps else (modChannel n (fun c => { c with health := h, run := none }) s).lamps := by
  obtain ⟨-, -, -, -, -, -, -, hl, -⟩ := unfaulted_fields (setHealth_unfaulted n h s)
  rw [hl]
  split <;> rfl

theorem setHealth_seat (n : Nat) (h : Health) (s : State) : (setHealth n h s).seat = s.seat := by
  obtain ⟨-, -, -, -, hl, -⟩ := unfaulted_fields (setHealth_unfaulted n h s)
  rw [hl]
  split <;> rfl

theorem channel_of_nth {c : Channel} (h : nth s.lamps.channels n = some c) : s.channel n = c := by
  rw [State.channel, h]
  rfl

theorem modChannel_channel (n : Nat) (f : Channel → Channel) (s : State) :
    nth (modChannel n f s).lamps.channels n = (nth s.lamps.channels n).map f := nth_modNth_same _ _ _

theorem setHealth_channel {c : Channel} (h : Health) (hc : nth s.lamps.channels n = some c) :
    nth (setHealth n h s).lamps.channels n =
      some (if c.health = h then c else { c with health := h, run := none }) := by
  rw [setHealth_lamps, channel_of_nth hc]
  split
  · exact hc
  · rw [modChannel_channel, hc]
    rfl

theorem setHealth_check (n : Nat) (h : Health) (s : State) : (setHealth n h s).lamps.check = s.lamps.check := by
  rw [setHealth_lamps]
  split <;> rfl

/-- In CHECKING the judgements light a channel where its check pulse is on. -/
theorem settle_channel (hg : u.seat.stage = .checking) (n : Nat) :
    ∃ f, nth (settle u).lamps.channels n = (nth u.lamps.channels n).map (Channel.judge f (u.pulsed n)) := by
  obtain ⟨-, -, hl, hs⟩ := judgeSets_judged u
  rw [settle_eq]
  generalize judgeSets u = v at hl hs
  have hv : (judgeGates (judgeEff v)).seat = u.seat := hs
  have hlv : (judgeGates (judgeEff v)).lamps = u.lamps := hl
  generalize judgeGates (judgeEff v) = w at hv hlv
  have hcall : w.calledFor n = u.pulsed n := by
    rw [State.calledFor, hv, hg]
    simp only [State.pulsed, hlv]
  rw [(unqueued_fields (judgeOffer_keeps (judgeLamps w)).1).2.2.2.2.2.2.2.1]
  refine ⟨w.functionOf n, ?_⟩
  show nth (judgeFrom w 1 w.lamps.channels) n = _
  rw [nth_judgeFrom, hlv, show 1 + n - 1 = n by omega, hcall]

theorem Channel.judge_uncalled (f : LampFn) (c : Channel) :
    c.judge f false = { c with lit := false, steady := if c.lit = false then c.steady else none } := by
  by_cases hl : c.lit = false
  · simp only [Channel.judge, Channel.setLit, hl, Bool.false_and, Bool.false_eq_true, if_false, if_true]
    obtain ⟨⟩ := c
    simpa using hl
  · simp [Channel.judge, Channel.setLit, hl]

/-- A channel whose pulse is over is dark, and its record otherwise stands. -/
theorem settle_unpulsed {c : Channel} (hg : u.seat.stage = .checking) (hp : u.pulsed n = false)
    (hc : nth u.lamps.channels n = some c) :
    nth (settle u).lamps.channels n =
      some { c with lit := false, steady := if c.lit = false then c.steady else none } := by
  obtain ⟨f, h⟩ := settle_channel hg n
  rw [h, hp, hc, Option.map_some, Channel.judge_uncalled]

/-! ### A fault that stays through its event -/

/-- The fault is listed, and none of `m` faults raised after it at severity 2 evicts it. -/
structure Lodged (c : FaultCode) (k m : Nat) (s : State) : Prop where
  listed : s.hasFault c k = true
  held : s.faults.list.length + m ≤ 8 ∨ ∀ x ∈ s.faults.list, x.code = c → x.subject = k → 2 ≤ x.severity

section
variable {c : FaultCode} {k m : Nat}

theorem Lodged.of_list (h : Lodged c k m s) (hl : t.faults.list = s.faults.list) : Lodged c k m t :=
  ⟨by rw [hasFault_congr hl]; exact h.listed, by rw [hl]; exact h.held⟩

theorem Lodged.mono (h : Lodged c k (m + 1) s) : Lodged c k m s := ⟨h.listed, h.held.imp Nat.le_of_succ_le id⟩

/-- A raise lodges its fault where the list has room. -/
theorem raiseFault_lodged (c : FaultCode) (k : Nat) {n : Nat} (hn : 2 ≤ n) (h : s.faults.list.length + m ≤ 8)
    (h8 : s.faults.list.length < 8) : Lodged c k m (raiseFault c k n s) := by
  refine ⟨raiseFault_hasFault c k n h8, ?_⟩
  by_cases hs : s.hasFault c k = true
  · rw [raiseFault, if_pos hs]
    exact .inl h
  · rw [raiseFault_list]
    rcases raisedList_cases { code := c, subject := k, severity := n, onset := min s.now Config.onsetTop } s.faults.list with
      ⟨-, hx | hx⟩ | ⟨hl, -⟩ | ⟨y, -, -, -, hx, -⟩
    · exact absurd ((hasFault_iff c k).mpr hx) hs
    · omega
    · rw [hl]
      refine .inr fun x hx hc hk => ?_
      rcases List.mem_append.mp hx with hx | hx
      · exact absurd ((hasFault_iff c k).mpr ⟨x, hx, hc, hk⟩) hs
      · rw [List.mem_singleton.mp hx]
        exact hn
    · omega

theorem Lodged.raiseAgain (h : Lodged c k m s) (n : Nat) : Lodged c k m (raiseFault c k n s) := by
  rw [raiseFault, if_pos h.listed]
  exact h

/-- Another fault raised takes one place at most; it evicts nothing lodged where its severity is 2, or the list has room. -/
theorem Lodged.raise (h : Lodged c k (m + 1) s) {d : FaultCode} {j n : Nat} (hne : ¬(c = d ∧ k = j))
    (hn : n ≤ 2 ∨ s.faults.list.length < 8) : Lodged c k m (raiseFault d j n s) := by
  constructor
  · obtain ⟨e, he, hec, hek⟩ := (hasFault_iff c k).mp h.listed
    refine (hasFault_iff c k).mpr ⟨e, raiseFault_mem he ?_, hec, hek⟩
    rcases hn with hn | hn
    · exact h.held.imp (fun hx => by omega) fun hx x hm hxc hxk =>
        .inl (hn.trans (hx x hm (hxc.trans hec) (hxk.trans hek)))
    · exact .inl hn
  · refine h.held.imp (fun hx => ?_) fun hx x hm hxc hxk => ?_
    · have := raiseFault_length d j n s
      omega
    · refine hx x ?_ hxc hxk
      rw [raiseFault_list] at hm
      have hlast {l : List FaultEntry} {o : Nat}
          (hm : x ∈ l ++ [{ code := d, subject := j, severity := n, onset := o }]) : x ∈ l := by
        rcases List.mem_append.mp hm with hm | hm
        · exact hm
        · rw [List.mem_singleton.mp hm] at hxc hxk
          exact absurd ⟨hxc.symm, hxk.symm⟩ hne
      rcases raisedList_cases { code := d, subject := j, severity := n, onset := min s.now Config.onsetTop } s.faults.list with
        ⟨hl, -⟩ | ⟨hl, -⟩ | ⟨y, -, -, -, -, hl⟩ <;> rw [hl] at hm
      · exact hm
      · exact hlast hm
      · exact List.mem_of_mem_filter (hlast hm)

theorem Lodged.clearFault (h : Lodged c k m s) (d : FaultCode) (j : Nat) (hne : ¬(c = d ∧ k = j)) :
    Lodged c k m (clearFault d j s) := by
  refine ⟨(clearFault_other hne).trans h.listed, ?_⟩
  cases hl : d.latched with
  | true => rw [Machine.clearFault, if_pos hl]; exact h.held
  | false =>
    rw [clearFault_list d j hl]
    exact h.held.imp (fun hx => Nat.le_trans (Nat.add_le_add_right (List.length_filter_le _ _) _) hx)
      fun hx e he => hx e (List.mem_of_mem_filter he)

theorem Lodged.settled (h : Lodged c k 1 s) (hc : c ≠ .demandLost) : (settle s).hasFault c k = true := by
  obtain ⟨e, he, hec, hek⟩ := (hasFault_iff c k).mp h.listed
  refine (hasFault_iff c k).mpr ⟨e, settle_fault_mem he (by rw [hec]; exact hc) ?_, hec, hek⟩
  exact h.held.imp Nat.lt_of_succ_le fun hx => .inr fun x hm hxc hxk => .inl (hx x hm (hxc.trans hec) (hxk.trans hek))

end

/-! ### A pulse over -/

/-- The check with its pulse over. -/
def endPulse (s : State) : State :=
  { s with lamps := { s.lamps with check := s.lamps.check.map fun c => { c with pulse := false } } }

theorem pulsed_endPulse (n : Nat) (s : State) : (endPulse s).pulsed n = false := by
  rw [State.pulsed, endPulse]
  cases s.lamps.check <;> simp

/-- After a pulse the channel is dark, with the record the event left it. -/
theorem settle_endPulse {c : Channel} {k : Check} (hg : u.seat.stage = .checking) (hk : u.lamps.check = some k)
    (hc : nth u.lamps.channels n = some c) (hfs : t = settle (endPulse u)) :
    (t.channel n).lit = false ∧ (t.channel n).health = c.health ∧ (t.channel n).last = c.last ∧
    (t.channel n).retry = c.retry ∧ (t.channel n).short = c.short ∧ (t.channel n).rest = c.rest ∧
    t.lamps.check = some { k with pulse := false } ∧ t.seat.stage = .checking := by
  have h := channel_of_nth (settle_unpulsed (u := endPulse u) hg (pulsed_endPulse n u) hc)
  obtain ⟨-, -, -, -, -, -, -, hst, -, -, -, -, -, -, -, -, -, hch, -⟩ := settle_keeps (endPulse u)
  rw [← hfs] at h hst hch
  rw [h]
  refine ⟨rfl, rfl, rfl, rfl, rfl, rfl, ?_, hst.trans hg⟩
  rw [hch]
  show u.lamps.check.map _ = _
  rw [hk]
  rfl

theorem recordSample_channel {c : Channel} (i v : Nat) (o : SampleOutcome) (hc : nth s.lamps.channels n = some c) :
    nth (recordSample n i v o s).lamps.channels n =
      some { c with last := some { current := i, supply := v, outcome := o } } := by
  rw [recordSample, modChannel_channel, hc]
  rfl

/-! ### A trip in a check pulse -/

/-- What the retention record keeps of a channel. -/
def Channel.kept (c : Channel) : Health × Nat := (c.health, c.retry)

theorem mirrorChannels_of_kept {l m : List Channel} (h : l.map Channel.kept = m.map Channel.kept) (r : List (Health × Nat)) :
    mirrorChannels l m r = r := by
  induction l generalizing m r with
  | nil => simp [mirrorChannels]
  | cons a l ih =>
    cases m with
    | nil => simp [mirrorChannels]
    | cons b m =>
      cases r with
      | nil => simp [mirrorChannels]
      | cons x r =>
        obtain ⟨h1, h2⟩ := List.cons_eq_cons.mp h
        simp only [Channel.kept, Prod.mk.injEq] at h1
        simp [mirrorChannels, h1, ih h2]

theorem mirrorChannels_congr (l : List Channel) {m k : List Channel} (h : m.map Channel.kept = k.map Channel.kept)
    (r : List (Health × Nat)) : mirrorChannels l m r = mirrorChannels l k r := by
  induction l generalizing m k r with
  | nil => simp [mirrorChannels]
  | cons a l ih =>
    cases m with
    | nil => rw [List.map_eq_nil_iff.mp h.symm]
    | cons b m =>
      cases k with
      | nil => cases h
      | cons c k =>
        cases r with
        | nil => simp [mirrorChannels]
        | cons x r =>
          obtain ⟨h1, h2⟩ := List.cons_eq_cons.mp h
          simp only [Channel.kept, Prod.mk.injEq] at h1
          simp [mirrorChannels, h1, ih h2]

theorem modNth_modNth {α : Type} (l : List α) (n : Nat) (f g : α → α) : modNth (modNth l n f) n g = modNth l n (g ∘ f) := by
  cases n with
  | zero => rfl
  | succ n => exact List.modify_modify_eq ..

theorem map_modNth_kept {g : Channel → Channel} (hg : ∀ c, (g c).kept = c.kept) (l : List Channel) (n : Nat) :
    (modNth l n g).map Channel.kept = l.map Channel.kept := modNth_map l n g Channel.kept hg

/-- Two changes of a channel are one, where the second leaves its health and retry count. -/
theorem modChannel_modChannel {g : Channel → Channel} (hg : ∀ c, (g c).kept = c.kept) (n : Nat) (f : Channel → Channel)
    (s : State) : modChannel n g (modChannel n f s) = modChannel n (g ∘ f) s := by
  have h := map_modNth_kept hg (modNth s.lamps.channels n f) n
  simp only [modChannel, setChannels]
  rw [mirrorChannels_of_kept h.symm, ← modNth_modNth, mirrorChannels_congr _ h]

/-- A channel's record as a trip in its check pulse leaves it, but for the health. -/
def Channel.tripped (c : Channel) : Channel := { c with retry := 0 }.cutOff

theorem checkTrip_eq (n : Nat) (s : State) :
    checkTrip n s = endPulse (raiseFault .lampShort n 2 (setHealth n .short (modChannel n Channel.tripped s))) := by
  have h := modChannel_modChannel (g := Channel.cutOff) (fun _ => rfl) n (fun c => { c with retry := 0 }) s
  show endPulse (raiseFault .lampShort n 2 (setHealth n .short (modChannel n Channel.cutOff _))) = _
  rw [h]
  rfl

/-- LAMP-SHORT is listed after a short where the list has room. -/
theorem short_lodged (n : Nat) (h : s.faults.list.length < 8) :
    Lodged .lampShort n 1 (raiseFault .lampShort n 2 (setHealth n .short s)) := by
  unfold setHealth
  dsimp only
  split
  · exact raiseFault_lodged _ _ (Nat.le_refl 2) h h
  · have hm : (modChannel n (fun c => { c with health := .short, run := none }) s).faults = s.faults := rfl
    generalize modChannel n (fun c => { c with health := .short, run := none }) s = v at hm ⊢
    have hc : (clearHealthFault n (s.channel n).health v).faults.list.length < 8 := by
      unfold clearHealthFault
      split
      · rw [hm]; exact h
      · exact Nat.lt_of_le_of_lt (clearFault_length ..) (by rw [hm]; exact h)
    generalize clearHealthFault n (s.channel n).health v = w at hc ⊢
    have hl : Lodged .lampShort n 1 (raiseHealthFault n .short w) :=
      raiseFault_lodged _ _ (Nat.le_refl 2) hc hc
    generalize raiseHealthFault n .short w = x at hl ⊢
    unfold clearIfCompleted
    split
    · exact (hl.clearFault .rearDeficient 0 (fun h => by cases h.1)).raiseAgain 2
    · exact hl.raiseAgain 2

/-! ### SYNC entered -/

theorem beginDemand_leaves (s : State) :
    (beginDemand s).roster.entries = s.roster.entries ∧ (beginDemand s).faults = s.faults := by
  unfold beginDemand
  split
  · simp [sendDemand]
  · split
    · exact ⟨rfl, rfl⟩
    · simp [sendActive, sendDemand]

theorem queueCounts_leaves (s : State) :
    (queueCounts s).roster.entries = s.roster.entries ∧ (queueCounts s).faults = s.faults := by
  unfold queueCounts
  split
  · simp
  · exact ⟨rfl, rfl⟩

theorem queueAnalog_leaves (s : State) :
    (queueAnalog s).roster.entries = s.roster.entries ∧ (queueAnalog s).faults = s.faults := by
  unfold queueAnalog
  split
  · simp
  · exact ⟨rfl, rfl⟩

theorem queueListedFaults_leaves (s : State) :
    (queueListedFaults s).roster.entries = s.roster.entries ∧ (queueListedFaults s).faults = s.faults := by
  obtain ⟨-, -, -, -, -, -, -, -, -, -, hf, -, -, h, -⟩ := unqueued_fields (queueListedFaults_unqueued s)
  exact ⟨h, hf⟩

/-- SYNC is entered, up to the judgement of COMBINATION-FULL. -/
def syncBegun (s : State) : State := queueListedFaults (queueAnalog (queueCounts (beginDemand (startSync s))))

theorem syncBegun_leaves (s : State) :
    (syncBegun s).roster.entries = s.roster.entries ∧ (syncBegun s).faults = s.faults := by
  obtain ⟨h1, k1⟩ := beginDemand_leaves (startSync s)
  obtain ⟨h2, k2⟩ := queueCounts_leaves (beginDemand (startSync s))
  obtain ⟨h3, k3⟩ := queueAnalog_leaves (queueCounts (beginDemand (startSync s)))
  obtain ⟨h4, k4⟩ := queueListedFaults_leaves (queueAnalog (queueCounts (beginDemand (startSync s))))
  exact ⟨h4.trans (h3.trans (h2.trans h1)), k4.trans (k3.trans (k2.trans k1))⟩

theorem syncBegun_routine (s : State) : Routine (startSync s) (syncBegun s) :=
  (beginDemand_routine (startSync s)).trans ((queueCounts_routine _).trans ((queueAnalog_routine _).trans
    (queueListedFaults_routine _)))

theorem enterSync_eq (u : State) :
    enterSync u =
      judgeFull (queueListedFaults (queueAnalog (queueCounts (beginDemand
        { u with
          seat := { u.seat with stage := .sync, fallbackMark := false }
          phase := { u.phase with marked := false, syncTimer := .running 0 (3 * u.phase.period) } })))) := rfl

/-- Entering SYNC leaves the own entry but for its fault summary. -/
theorem enterSync_own (s : State) :
    (Table.get (enterSync s).roster.entries s.seat.ownSeat).map (fun e => { e with fault := none }) =
      (Table.get s.roster.entries s.seat.ownSeat).map fun e => { e with fault := none } := by
  have hj := getOwn_of_primary (primary_of_unfaulted (judgeFull_unfaulted (syncBegun s)))
  rw [(syncBegun_routine s).ownSeat, (syncBegun_leaves s).1] at hj
  exact hj

/-- The FAULT frames of the listed faults are queued in the order of the list, each with the summary of the whole list. -/
theorem queueListedFaults_serving (h : s.serving = true) :
    queueListedFaults s =
      s.faults.list.foldl (fun w e => offer (.fault e.code e.subject e.severity true (summaryOf s s.faults.list)) w) s := by
  have step (l : List FaultEntry) (v : State) (hv : v.unqueued = s.unqueued) :
      l.foldl (fun w e => queueFault e true w) v =
        l.foldl (fun w e => offer (.fault e.code e.subject e.severity true (summaryOf s s.faults.list)) w) v := by
    induction l generalizing v with
    | nil => rfl
    | cons e l ih =>
      obtain ⟨-, -, hl, -, hse, -, -, -, -, -, hf, -⟩ := unqueued_fields hv
      have he : queueFault e true v =
          offer (.fault e.code e.subject e.severity true (summaryOf s s.faults.list)) v := by
        have hsv : v.serving = true := by rw [State.serving, hse]; exact h
        have hsum : summaryOf v v.faults.list = summaryOf s s.faults.list := by
          rw [hf]
          simp only [summaryOf, hasLampFault, State.functionOf, hl]
        rw [queueFault, if_pos hsv, hsum]
      rw [List.foldl_cons, List.foldl_cons, he]
      exact ih _ ((offer_unqueued v _).trans hv)
  exact step _ s rfl

/-! ### The events of the check -/

theorem pulsedChannel_eq {k : Check} (hk : s.lamps.check = some k) (hg : s.seat.stage = .checking) :
    s.pulsedChannel = if k.pulse then k.todo.head? else none := by
  simp [State.pulsedChannel, hk, hg]

theorem turnLasted_iff {k : Check} (hk : s.lamps.check = some k) (d : Nat) : s.turnLasted d = decide (d ≤ k.turn) := by
  simp [State.turnLasted, hk]

theorem turnDue_eq {k : Check} (hk : s.lamps.check = some k) (hg : s.seat.stage = .checking) :
    s.turnDue = (!k.pulse && decide (50 ≤ k.turn)) := by
  rw [State.turnDue, turnLasted_iff hk]
  simp [State.turnOver, hk, hg]
  rfl

theorem exec_checkPulseEnd {k : Check} (hp : s.power = .running) (hk : s.lamps.check = some k) (hg : s.seat.stage = .checking)
    (hn : k.todo.head? = some n) (i v : Nat) :
    exec (.checkPulseEnd i v) s =
      .next (if k.pulse && decide (20 ≤ k.turn) then settle (pulseEnd n i v s) else s) := by
  show execCheckPulseEnd i v s = _
  simp only [execCheckPulseEnd, whenRunning_running _ _ hp, pulsedChannel_eq hk hg, turnLasted_iff hk]
  cases k.pulse
  · rfl
  · simp only [if_true, hn, Bool.true_and]
    by_cases h : 20 ≤ k.turn
    · simp [h, Config.checkPulseMs, takeIf]
    · simp [h, Config.checkPulseMs, takeIf]

theorem exec_checkPulseEnd_over {k : Check} (hp : s.power = .running) (hg : s.seat.stage = .checking)
    (hk : s.lamps.check = some k) (hn : k.todo.head? = some n) (h : k.pulse = true) (h20 : 20 ≤ k.turn) (i v : Nat) :
    ∃ t, t = settle (pulseEnd n i v s) ∧ exec (.checkPulseEnd i v) s = .next t := by
  refine ⟨_, rfl, ?_⟩
  rw [exec_checkPulseEnd hp hk hg hn, h, decide_eq_true h20]
  rfl

theorem exec_lampTrip (hp : s.power = .running) (hg : s.seat.stage = .checking) (h1 : 1 ≤ n) (h12 : n ≤ 12) (i : Nat) :
    exec (.lampTrip n i) s = .next (if s.tripDue n i then settle (checkTrip n s) else s) := by
  show execLampTrip n i s = _
  rw [execLampTrip, whenUnit_known _ _ h1 h12]
  simp only [whenRunning_running _ _ hp, takeIf, hg, if_true]

/-- What a sample of the check leaves of its channel. -/
theorem settle_pulseEnd {c : Channel} {k : Check} (hg : s.seat.stage = .checking) (hk : s.lamps.check = some k)
    (hc : nth s.lamps.channels n = some c) (i v : Nat) (hfs : t = settle (pulseEnd n i v s)) :
    (t.channel n).lit = false ∧ t.lamps.check = some { k with pulse := false } ∧ t.seat.stage = .checking ∧
    (supplyInWindow s.loader.profile.vn v = true →
      (t.channel n).health =
        (if normalised (s.lampCfg n).kind s.loader.profile.vn i v < (s.lampCfg n).imin then .openCircuit else .good) ∧
      ((t.channel n).last.map LastSample.current) = some i) ∧
    (supplyInWindow s.loader.profile.vn v = false →
      (t.channel n).health = c.health ∧
      (t.channel n).last = some { current := i, supply := v, outcome := .skipped }) := by
  have he : pulseEnd n i v s = endPulse (checkSample n i v s) := rfl
  rw [he, checkSample] at hfs
  dsimp only at hfs
  cases hv : supplyInWindow s.loader.profile.vn v with
  | false =>
    rw [hv, if_neg Bool.false_ne_true] at hfs
    obtain ⟨h1, h2, h3, -, -, -, h4, h5⟩ :=
      settle_endPulse (u := recordSample n i v .skipped s) hg hk (recordSample_channel i v .skipped hc) hfs
    exact ⟨h1, h4, h5, nofun, fun _ => ⟨h2, h3⟩⟩
  | true =>
    rw [hv, if_pos rfl] at hfs
    generalize hq : (if normalised (s.lampCfg n).kind s.loader.profile.vn i v < (s.lampCfg n).imin
      then SampleClass.openCircuit else .good) = q at hfs
    have hr := recordSample_channel i v q.outcome hc
    have hh := setHealth_channel q.health hr
    have hst : (setHealth n q.health (recordSample n i v q.outcome s)).seat.stage = .checking := by
      rw [setHealth_seat]
      exact hg
    have hch : (setHealth n q.health (recordSample n i v q.outcome s)).lamps.check = some k := by
      rw [setHealth_check]
      exact hk
    obtain ⟨h1, h2, h3, -, -, -, h4, h5⟩ := settle_endPulse hst hch hh hfs
    refine ⟨h1, h4, h5, fun _ => ⟨?_, ?_⟩, nofun⟩
    · rw [h2, ← hq]
      split <;> split <;> simp_all [SampleClass.health]
    · rw [h3]
      split <;> rfl

theorem endPulse_eq {k : Check} (hk : s.lamps.check = some k) :
    endPulse s = { s with lamps := { s.lamps with check := some { k with pulse := false } } } := by
  rw [endPulse, hk]
  rfl

/-- A sample in the supply window, written out. -/
theorem pulseEnd_inWindow {k : Check} (hk : s.lamps.check = some k) (i v : Nat)
    (hv : supplyInWindow s.loader.profile.vn v = true) :
    pulseEnd n i v s =
      let low := normalised (s.lampCfg n).kind s.loader.profile.vn i v < (s.lampCfg n).imin
      let u := setHealth n (if low then .openCircuit else .good)
        (recordSample n i v (if low then .openCircuit else .good) s)
      { u with lamps := { u.lamps with check := some { k with pulse := false } } } := by
  have he : pulseEnd n i v s = endPulse (checkSample n i v s) := rfl
  have hc (h : Health) (o : SampleOutcome) : (setHealth n h (recordSample n i v o s)).lamps.check = some k :=
    (setHealth_check ..).trans hk
  rw [he, checkSample, if_pos hv]
  dsimp only
  split
  · exact endPulse_eq (hc _ _)
  · exact endPulse_eq (hc _ _)

/-- A trip in a check pulse, written out. -/
theorem checkTrip_written {k : Check} (hk : s.lamps.check = some k) :
    checkTrip n s =
      let u := raiseFault .lampShort n 2 (setHealth n .short (modChannel n Channel.tripped s))
      { u with lamps := { u.lamps with check := some { k with pulse := false } } } := by
  rw [checkTrip_eq, endPulse_eq]
  rw [(raiseFault_keeps ..).2.2.2.2.2.2.2.1, setHealth_check]
  exact hk

/-- What a trip in a check pulse leaves of its channel. -/
theorem settle_checkTrip {c : Channel} {k : Check} (hg : s.seat.stage = .checking) (hk : s.lamps.check = some k)
    (hc : nth s.lamps.channels n = some c) (hfs : t = settle (checkTrip n s)) :
    (t.channel n).lit = false ∧ (t.channel n).health = .short ∧ (t.channel n).retry = 0 ∧
    (t.channel n).short = .resting ∧ (t.channel n).rest = .running 0 2000 ∧
    t.lamps.check = some { k with pulse := false } ∧
    (s.faults.list.length < 8 → t.hasFault .lampShort n = true) := by
  rw [checkTrip_eq] at hfs
  have hm : nth (modChannel n Channel.tripped s).lamps.channels n = some c.tripped := by
    rw [modChannel_channel, hc]
    rfl
  have hh := setHealth_channel .short hm
  have hs := setHealth_seat n .short (modChannel n Channel.tripped s)
  have hch := setHealth_check n .short (modChannel n Channel.tripped s)
  have hl := short_lodged (s := modChannel n Channel.tripped s) n
  have hseat : (modChannel n Channel.tripped s).seat.stage = .checking := hg
  have hcheck : (modChannel n Channel.tripped s).lamps.check = some k := hk
  have hfl : (modChannel n Channel.tripped s).faults.list.length = s.faults.list.length := rfl
  rw [← hs] at hseat
  rw [← hch] at hcheck
  rw [hfl] at hl
  generalize setHealth n .short (modChannel n Channel.tripped s) = u at *
  obtain ⟨-, -, -, -, hs', -, -, hl', -⟩ := raiseFault_keeps .lampShort n 2 u
  rw [← hs'] at hseat
  rw [← hl'] at hcheck hh
  generalize raiseFault .lampShort n 2 u = v at *
  obtain ⟨h1, h2, -, h3, h4, h5, h6, -⟩ := settle_endPulse hseat hcheck hh hfs
  refine ⟨h1, ?_, ?_, ?_, ?_, h6, fun h8 => ?_⟩
  · rw [h2]; split
    · assumption
    · rfl
  · rw [h3]; split <;> rfl
  · rw [h4]; split <;> rfl
  · rw [h5]; split <;> rfl
  · rw [hfs]
    exact ((hl h8).of_list (t := endPulse v) rfl).settled (by decide)

theorem turnEnd_next {k : Check} (hk : s.lamps.check = some k) (ht : k.todo.tail ≠ []) :
    turnEnd s = withCheck (some { todo := k.todo.tail, turn := 0, pulse := true }) s := by
  have h : k.nextTurn.todo.isEmpty = false := by simpa [Check.nextTurn, List.drop_one] using ht
  simp only [turnEnd, hk, finishCheck, Option.map_some, h, Bool.false_eq_true, if_false]
  simp only [withCheck, Check.nextTurn, List.drop_one]

theorem turnEnd_last {k : Check} (hk : s.lamps.check = some k) (ht : k.todo.tail = []) : turnEnd s = checkDone s := by
  have h : k.nextTurn.todo.isEmpty = true := by simpa [Check.nextTurn, List.drop_one] using ht
  simp only [turnEnd, hk, finishCheck, Option.map_some, h, if_true]
  rfl

/-- The check done at a seated station, its own entry written out. -/
theorem checkDone_eq (hs : s.seated = true) :
    checkDone s =
      let r := s.checkResults
      let u := offer (.stageChecked r.good r.failed r.complete) (withCheck none s)
      enterSync
        { u with
          roster :=
            { u.roster with
              entries :=
                Table.modify u.roster.entries s.seat.ownSeat fun e => { e with stage := .checked, check := some r } } } := by
  have hseat := (offer_keeps (withCheck none s)
    (.stageChecked s.checkResults.good s.checkResults.failed s.checkResults.complete)).2.2.2.2.1
  show enterSync (modOwnEntry _ (offer _ (withCheck none s))) = _
  dsimp only
  generalize offer _ (withCheck none s) = u at *
  have hu : u.seated = true := by rw [State.seated, hseat]; exact hs
  rw [modOwnEntry, if_pos hu, hseat]
  rfl

/-- The last turn's end leaves the own entry CHECKED with its results. -/
theorem settle_checkDone_own (hs : s.seated = true) (hfs : t = settle (checkDone s)) (o : Nat) (ho : s.seat.ownSeat = o)
    (hh : (Table.get s.roster.entries o).isSome = true) :
    (Table.get t.roster.entries o).map (fun e => (e.stage, e.check)) = some (.checked, some s.checkResults) := by
  have hr := checkDone_routine s
  have hj := getOwn_of_primary (settle_primary (checkDone s))
  rw [hr.ownSeat, ← hfs] at hj
  obtain ⟨-, -, -, -, hseat, -, -, -, -, -, -, -, -, hent, -⟩ := offer_keeps (withCheck none s)
    (.stageChecked s.checkResults.good s.checkResults.failed s.checkResults.complete)
  rw [checkDone_eq hs] at hj
  dsimp only at hj
  generalize offer _ (withCheck none s) = u at *
  have he := enterSync_own { u with roster := { u.roster with
    entries := Table.modify u.roster.entries s.seat.ownSeat fun e =>
      { e with stage := .checked, check := some s.checkResults } } }
  generalize enterSync { u with roster := { u.roster with
    entries := Table.modify u.roster.entries s.seat.ownSeat fun e =>
      { e with stage := .checked, check := some s.checkResults } } } = w at *
  have hus : u.seat.ownSeat = s.seat.ownSeat := by rw [hseat]; rfl
  have hue : u.roster.entries = s.roster.entries := hent
  simp only [hus, Table.get_modify, if_true, hue, ho] at he
  replace hj : (Table.get t.roster.entries o).map (fun e => { e with fault := none }) =
      (Table.get w.roster.entries o).map fun e => { e with fault := none } := by rw [← ho]; exact hj
  have hfin := congrArg (Option.map fun e : RosterEntry => (e.stage, e.check)) (hj.trans he)
  rw [Option.map_map, Option.map_map, Option.map_map] at hfin
  refine Eq.trans hfin ?_
  obtain ⟨e, hx⟩ := Option.isSome_iff_exists.mp hh
  rw [hx]
  rfl

end Sys2Proof.Machine

open Sys2Proof Sys2Proof.Machine

/-- Settles O35. -/
theorem checkRuns : Obligations.CheckRuns := by
  refine ⟨fun s n i v hp hg k hk hn c hc => ⟨fun h => ?_, fun h => ?_, fun h h20 hv => ?_, fun h h20 hv => ?_,
    fun _ hl h1 h12 ht => ?_, fun h h1 h12 => ?_, fun h h50 ht => ?_, fun h h50 ht => ?_⟩,
    fun u => ⟨enterSync_eq u, fun ho => ?_, fun ho he => ?_, fun ho he => ?_, fun hs => ⟨?_, fun ha => ?_, fun ha => ?_, ?_, ?_, ?_⟩⟩⟩
  · rw [exec_checkPulseEnd hp hk hg hn]
    rcases h with h | h
    · simp [h]
    · simp [Nat.not_le.mpr h]
  · refine whenRunning_excluded _ ?_
    rw [turnDue_eq hk hg]
    rcases h with h | h
    · simp [h]
    · simp [Nat.not_le.mpr h]
  · obtain ⟨t, ht, he⟩ := exec_checkPulseEnd_over hp hg hk hn h h20 i v
    obtain ⟨h1, h2, h3, h4, -⟩ := settle_pulseEnd hg hk hc i v ht
    refine ⟨t, he, h1, (h4 hv).1, (h4 hv).2, h2, h3, ?_⟩
    rw [ht, pulseEnd_inWindow hk i v hv]
  · obtain ⟨t, ht, he⟩ := exec_checkPulseEnd_over hp hg hk hn h h20 i v
    obtain ⟨h1, h2, h3, -, h4⟩ := settle_pulseEnd hg hk hc i v ht
    exact ⟨t, he, h1, (h4 hv).1, (h4 hv).2, h2⟩
  · have hd : s.tripDue n i = true := by
      simp [State.tripDue, channel_of_nth hc, hl, ht]
    have he := exec_lampTrip hp hg h1 h12 i
    rw [hd, if_pos rfl] at he
    obtain ⟨t, hfs⟩ : ∃ t, t = settle (checkTrip n s) := ⟨_, rfl⟩
    obtain ⟨k1, k2, k3, k4, k5, k6, k7⟩ := settle_checkTrip hg hk hc hfs
    rw [← hfs] at he
    refine ⟨t, he, k1, k2, k3, k4, k5, k6, k7, ?_⟩
    rw [hfs, checkTrip_written hk]
    rfl
  · have hd : s.tripDue n i = false := by
      rw [State.tripDue, channel_of_nth hc]
      rcases h with h | h
      · simp [h]
      · simp [Nat.not_le.mpr h]
    rw [exec_lampTrip hp hg h1 h12, hd]
    rfl
  · have he : exec .checkTurnEnd s = .next (settle (turnEnd s)) :=
      whenRunning_admitted State.turnDue hp (by rw [turnDue_eq hk hg]; simp [h, h50])
    obtain ⟨-, -, -, -, -, -, -, hst, -, -, -, -, -, -, -, -, -, hch, -⟩ := settle_keeps (turnEnd s)
    rw [turnEnd_next hk ht] at *
    exact ⟨_, he, hst.trans hg, hch⟩
  · have he : exec .checkTurnEnd s = .next (settle (turnEnd s)) :=
      whenRunning_admitted State.turnDue hp (by rw [turnDue_eq hk hg]; simp [h, h50])
    have hs : s.seated = true := by rw [State.seated, hg]; rfl
    rw [turnEnd_last hk ht] at he
    have hr := (checkDone_routine s).trans (settle_routine _)
    refine ⟨_, he, hr.stage, hr.check, by rw [hr.phase]; rfl, by rw [hr.phase]; rfl,
      settle_checkDone_own hs rfl _ rfl, ?_⟩
    rw [he, checkDone_eq hs]
    rfl
  · rw [beginDemand, if_pos ho, sendDemand, ho]
    rfl
  · rw [beginDemand, if_neg (by simp [ho]), if_neg he, sendActive, sendDemand]
    dsimp only
    rw [ho]
    rfl
  · rw [beginDemand, if_neg (by simp [ho]), if_pos he]
  · rw [queueCounts, if_pos hs]
    rfl
  · rw [queueAnalog, if_pos (by simpa [hs, State.analogInUse] using ha)]
    rfl
  · rw [queueAnalog, if_neg (by simpa [hs, State.analogInUse] using ha)]
  · exact queueListedFaults_serving hs
  · intro h8 hpi
    simp [judgeFull, hs, h8, hpi]
  · intro h
    rw [judgeFull, if_neg]
    rcases h with h | h <;> simp [h]

end

section
/-! SUPPORT. Arbitration lost, drive faults, and the mute flag: O45. -/

namespace Sys2Proof.Machine

variable {s t u v w : State} {n : Nat} {x : Entry}

/-! ### The frame that returns -/

theorem inFlight_split {before behind : List Entry} (hq : s.line.queue = before ++ x :: behind) (hx : x.inFlight = true)
    (hn : ∀ e ∈ before ++ behind, e.inFlight = false) : s.inFlight = some x := by
  rw [State.inFlight, hq, List.find?_append, List.find?_eq_none.mpr fun e he => by
    simp [hn e (List.mem_append_left _ he)], List.find?_cons, hx]
  rfl

theorem filter_pending {l : List Entry} (h : ∀ e ∈ l, e.inFlight = false) : l.filter (fun e => !e.inFlight) = l :=
  List.filter_eq_self.mpr fun e he => by simp [h e he]

theorem map_pending {l : List Entry} (h : ∀ e ∈ l, e.inFlight = false) (b : Entry) :
    (l.map fun e => if e.inFlight then b else e) = l := by
  conv_rhs => rw [← List.map_id l]
  exact List.map_congr_left fun e he => by simp [h e he]

/-- The owner of the own SEAT CLAIM, when a frame returns to pending. -/
def State.claimBack (s : State) (x : Entry) : SeatCtl :=
  if s.seat.claim = .inFlight ∧ x.id = s.seat.claimId then { s.seat with claim := .pending } else s.seat

/-- The line when the entry in flight has returned to its place and the station listens on. -/
def LineUnit.returned (l : LineUnit) (before : List Entry) (x : Entry) (behind : List Entry) (r : Reception) : LineUnit :=
  let ofClass := fun (g : Frame) => x.frame.replaceClass.isSome && g.replaceClass == x.frame.replaceClass
  let back : Entry := { x with inFlight := false, frame := (l.followOn.find? ofClass).getD x.frame.uncaptured }
  { l with
    queue := if x.dying = true then before ++ behind else before ++ back :: behind
    followOn := l.followOn.filter fun g => !ofClass g
    reception := some { r with receiving := true, rest := [] } }

/-- A station with a frame of its own on the line. -/
structure OwnFrame (s : State) (before : List Entry) (x : Entry) (behind : List Entry) (r : Reception) : Prop where
  queue : s.line.queue = before ++ x :: behind
  inFlight : x.inFlight = true
  others : ∀ e ∈ before ++ behind, e.inFlight = false
  reception : s.line.reception = some r
  own : r.receiving = false

section
variable {before behind : List Entry} {r : Reception} (h : OwnFrame s before x behind r)
include h

theorem OwnFrame.mayDiffer_eq (b : Bool) :
    s.mayDiffer b =
      ((comparedBits x.frame.kind (x.frame.sender s.seat.ownSeat) x.frame.payload).drop r.bits.length).contains b := by
  have hf : (s.line.queue.find? fun e => e.inFlight) = some x := inFlight_split h.queue h.inFlight h.others
  simp [State.mayDiffer, LineUnit.sending, LineUnit.known, State.comparedOwn, hf, h.reception, h.own]

theorem OwnFrame.returnToPending_eq :
    returnToPending s =
      { s with
        line := { s.line.returned before x behind r with reception := s.line.reception }
        seat := s.claimBack x } := by
  have hb : ∀ e ∈ before, e.inFlight = false := fun e he => h.others e (List.mem_append_left _ he)
  have hh : ∀ e ∈ behind, e.inFlight = false := fun e he => h.others e (List.mem_append_right _ he)
  simp only [returnToPending, inFlight_split h.queue h.inFlight h.others, h.queue, List.filter_append, List.filter_cons, h.inFlight,
    filter_pending hb, filter_pending hh, List.map_append, List.map_cons, map_pending hb, map_pending hh, Bool.not_true,
    Bool.false_eq_true, if_false, if_true]
  rfl

theorem OwnFrame.goOnReceiving_eq :
    goOnReceiving (returnToPending s) = { s with line := s.line.returned before x behind r, seat := s.claimBack x } := by
  rw [h.returnToPending_eq]
  simp only [goOnReceiving, LineUnit.goOnReceiving, LineUnit.returned, h.reception, Option.map_some]

/-- The line after a drive fault of the frame. -/
theorem OwnFrame.readRecessive_eq :
    readRecessive (returnToPending s) =
      { s with
        line :=
          if r.bits.length = 1 ∧ Config.freeStartRead s.freeCount = false then
            { s.line.returned before x behind r with
              state := .idle, recessive := min (r.before + 1) 200, dominant := 0, reception := none }
          else s.line.returned before x behind r
        seat := s.claimBack x
        freeCount := if r.bits.length = 1 then s.freeCount + 1 else s.freeCount } := by
  have hg := h.goOnReceiving_eq
  rw [h.returnToPending_eq] at hg ⊢
  rw [readRecessive, hg]
  have hk : (LineUnit.atStart { s.line.returned before x behind r with reception := s.line.reception }) =
      (r.bits.length == 1) := by
    simp [LineUnit.atStart, LineUnit.known, h.reception]
  simp only [hk, beq_iff_eq]
  by_cases h1 : r.bits.length = 1
  · cases hf : Config.freeStartRead s.freeCount
    · simp only [h1, if_true, Bool.false_eq_true, if_false, and_self, LineUnit.readNoStart, h.reception, Option.map_some,
        Option.getD_some]
      rfl
    · simp only [h1, if_true, Bool.true_eq_false, if_false, and_false]
      simp only [LineUnit.goOnReceiving, LineUnit.returned, h.reception, Option.map_some]
  · simp only [h1, if_false, false_and]

end

/-- A frame that is neither in flight nor the station's own leaves nothing to compare. -/
theorem mayDiffer_idle
    (h : s.inFlight = none ∨ s.line.reception = none ∨ ∃ r, s.line.reception = some r ∧ r.receiving = true) (b : Bool) :
    s.mayDiffer b = false := by
  rcases h with h | h | ⟨r, h, hr⟩
  · have hf : (s.line.queue.find? fun e => e.inFlight) = none := h
    simp [State.mayDiffer, State.comparedOwn, hf]
  · simp [State.mayDiffer, LineUnit.sending, h]
  · simp [State.mayDiffer, LineUnit.sending, h, hr]

/-! ### The dominant bit in every kind code -/

theorem mem_stuff {b : Bool} {l : List Bool} (h : b ∈ l) (last : Bool) (run : Nat) : b ∈ stuff last run l := by
  induction l generalizing last run with
  | nil => cases h
  | cons a l ih =>
    simp only [stuff]
    generalize (if a = last then run + 1 else 1) = m
    rcases List.mem_cons.mp h with rfl | h
    · split <;> exact .head _
    · split
      · exact .tail _ (.tail _ (ih h _ _))
      · exact .tail _ (ih h _ _)

/-- Every frame has a dominant bit after its Start, in its kind code. -/
theorem comparedBits_dominant (f : Frame) (o : Nat) :
    false ∈ (comparedBits f.kind (f.sender o) f.payload).drop 1 := by
  have hb : ∀ k < 12, false ∈ bitsOf 4 k := by decide
  have hk : false ∈ bitsOf 4 f.kind := hb _ (by cases f <;> simp [Frame.kind])
  exact mem_stuff (List.mem_append_left _ (List.mem_append_left _ (List.mem_append_left _ hk))) _ _

/-! ### A claim whose expiry was held -/

theorem lapseClaim_id (h : s.seat.claim ≠ .pending ∨ s.seat.expiryHeld = false) : lapseClaim s = s := by
  rw [lapseClaim, if_neg]
  rcases h with h | h <;> simp [h]

theorem claimBack_expiryHeld (x : Entry) (s : State) : (s.claimBack x).expiryHeld = s.seat.expiryHeld := by
  unfold State.claimBack
  split <;> rfl

theorem lapseClaim_cases (s : State) :
    lapseClaim s = s ∨ lapseClaim s = seatUnavailable s := by
  unfold lapseClaim
  split
  · exact .inr rfl
  · exact .inl rfl

theorem withdrawClaim_lineKept (s : State) : LineKept s (withdrawClaim s) := by
  rw [withdrawClaim_eq]
  refine ⟨rfl, fun h e he => ?_⟩
  dsimp only at he
  split at he
  · exact h e (List.mem_of_mem_filter he)
  · exact h e he

theorem lapseClaim_lineKept (s : State) : LineKept s (lapseClaim s) := by
  rcases lapseClaim_cases s with h | h <;> rw [h]
  · exact .of_line rfl
  · have hw := withdrawClaim_lineKept s
    rw [seatUnavailable]
    generalize withdrawClaim s = v at hw
    exact hw.trans ((raiseFault_queueing ..).lineKept.after rfl)

/-- A fault lodged is listed after a claim's lapse and the judgements: a station without a seat has no fallback to begin. -/
theorem Lodged.lapsed {c : FaultCode} {k : Nat} (h : Lodged c k 1 s) (hd : c ≠ .demandLost) (hu : c ≠ .seatUnavailable) :
    (settle (lapseClaim s)).hasFault c k = true := by
  rcases lapseClaim_cases s with hl | hl <;> rw [hl]
  · exact h.settled hd
  · have hw : Lodged c k 1 (enterStandalone (withdrawClaim s)) := h.of_list (by rw [withdrawClaim_eq]; rfl)
    have hr := hw.raise (d := .seatUnavailable) (j := 0) (n := 2) (fun h => hu h.1) (.inl (Nat.le_refl 2))
    have hse : (enterStandalone (withdrawClaim s)).serving = false := rfl
    rw [seatUnavailable]
    generalize enterStandalone (withdrawClaim s) = v at hr hse
    have hf : (raiseFault .seatUnavailable 0 2 v).fallbackDue = false := by
      rw [State.fallbackDue, State.serving, (raiseFault_keeps ..).2.2.2.2.1]
      rw [State.serving] at hse
      simp [hse]
    rw [settle_hasFault hd (.inr fun h => by rw [hf] at h; cases h)]
    exact hr.listed

/-! ### The mute flag -/

theorem profilingEnd_lineKept (s : State) : LineKept s (profilingEnd s) := by
  obtain ⟨h1, h2, h3⟩ := profilingEnd_routine s
  cases hk : s.skipsCheck with
  | true => exact (h1 hk).queueing.lineKept.after rfl
  | false =>
    by_cases ht : s.underTest = []
    · exact (h2 hk ht).queueing.lineKept.after rfl
    · exact (h3 hk ht).queueing.lineKept.after rfl

/-- What decides a claim's lapse. -/
theorem profilingEnd_claim (s : State) :
    (profilingEnd s).seat.claim = s.seat.claim ∧ (profilingEnd s).seat.expiryHeld = s.seat.expiryHeld := by
  obtain ⟨h1, h2, h3⟩ := profilingEnd_routine s
  cases hk : s.skipsCheck with
  | true => rw [(h1 hk).seat]; exact ⟨rfl, rfl⟩
  | false =>
    by_cases ht : s.underTest = []
    · rw [(h2 hk ht).seat]; exact ⟨rfl, rfl⟩
    · rw [(h3 hk ht).seat]; exact ⟨rfl, rfl⟩

/-- The mute flag set and LINE-MUTE raised. -/
def muteRaised (s : State) : State := raiseFault .lineMute 0 3 { s with line := { s.line with mute := true } }

theorem becomeMute_lineKept (s : State) : LineKept { s with line := { s.line with mute := true } } (becomeMute s) := by
  have hr : LineKept { s with line := { s.line with mute := true } } (muteRaised s) := (raiseFault_queueing ..).lineKept
  refine hr.trans ?_
  show LineKept _ (mutedAnnounce (muteRaised s))
  generalize muteRaised s = v
  unfold mutedAnnounce
  split
  · exact .of_line rfl
  · split
    · exact profilingEnd_lineKept v
    · exact (Queueing.withdraw (Q := fun _ => True) Frame.isProfile v).lineKept.trans (.of_line rfl)

theorem becomeMute_claim (s : State) :
    (becomeMute s).seat.claim = s.seat.claim ∧ (becomeMute s).seat.expiryHeld = s.seat.expiryHeld := by
  have hr : (muteRaised s).seat = s.seat := (raiseFault_keeps ..).2.2.2.2.1
  show (mutedAnnounce (muteRaised s)).seat.claim = _ ∧ (mutedAnnounce (muteRaised s)).seat.expiryHeld = _
  rw [← hr]
  generalize muteRaised s = v
  unfold mutedAnnounce
  split
  · exact ⟨rfl, rfl⟩
  · split
    · exact profilingEnd_claim v
    · exact ⟨rfl, rfl⟩

/-! ### The faults of the line through the end of an announcement -/

/-- A fault of the Line Interface's driver. -/
def FaultCode.ofDriver : FaultCode → Bool
  | .lineDrive | .lineMute => true
  | _ => false

section
variable {c : FaultCode} {k m : Nat}

theorem ofDriver_ne (hc : c.ofDriver) {d : FaultCode} (hd : d.ofDriver = false) {j : Nat} : ¬(c = d ∧ k = j) := by
  rintro ⟨rfl, -⟩
  rw [hd] at hc
  cases hc

theorem Health.fault_ofDriver (h : Health) {d : FaultCode} (hd : h.fault = some d) : d.ofDriver = false := by
  cases h <;> cases hd <;> rfl

theorem Lodged.setHealth (h : Lodged c k m s) (hc : c.ofDriver) (n : Nat) (e : Health) (he : e.fault = none) :
    Lodged c k m (setHealth n e s) := by
  unfold Machine.setHealth
  dsimp only
  split
  · exact h
  · have h1 : Lodged c k m (modChannel n (fun c => { c with health := e, run := none }) s) := h.of_list rfl
    generalize modChannel n (fun c => { c with health := e, run := none }) s = v at h1 ⊢
    have h2 : Lodged c k m (clearHealthFault n (s.channel n).health v) := by
      unfold clearHealthFault
      split
      · exact h1
      · next d hd => exact h1.clearFault _ _ (ofDriver_ne hc ((s.channel n).health.fault_ofDriver hd))
    generalize clearHealthFault n (s.channel n).health v = w at h2 ⊢
    have h3 : raiseHealthFault n e w = w := by rw [raiseHealthFault, he]
    rw [h3]
    unfold clearIfCompleted
    split
    · exact h2.clearFault _ _ (ofDriver_ne hc rfl)
    · exact h2

theorem Lodged.prepareChannel (h : Lodged c k m s) (hc : c.ofDriver) (n : Nat) : Lodged c k m (prepareChannel s n) := by
  have h1 := h.setHealth hc n .untested rfl
  unfold Machine.prepareChannel
  generalize Machine.setHealth n .untested s = v at h1
  have h2 (f : Channel → Channel) : Lodged c k m (modChannel n f v) := h1.of_list rfl
  exact (((h2 _).clearFault _ _ (ofDriver_ne hc rfl)).clearFault _ _
    (ofDriver_ne hc rfl)).clearFault _ _ (ofDriver_ne hc rfl)

theorem Lodged.beginCheck (h : Lodged c k m s) (hc : c.ofDriver) : Lodged c k m (beginCheck s) := by
  have hf (l : List Nat) (v : State) (hv : Lodged c k m v) : Lodged c k m (l.foldl Machine.prepareChannel v) := by
    induction l generalizing v with
    | nil => exact hv
    | cons n l ih => exact ih _ (hv.prepareChannel hc n)
  exact (hf s.underTest s h).of_list rfl

theorem modOwnEntry_faults (f : RosterEntry → RosterEntry) (s : State) : (modOwnEntry f s).faults = s.faults := by
  unfold modOwnEntry
  split <;> rfl

/-- Entering SYNC may raise COMBINATION-FULL, and no other fault. -/
theorem Lodged.enterSync (h : Lodged c k (m + 1) s) (hc : c.ofDriver) : Lodged c k m (enterSync s) := by
  have hb : Lodged c k (m + 1) (syncBegun s) := h.of_list (by rw [(syncBegun_leaves s).2])
  show Lodged c k m (judgeFull (syncBegun s))
  generalize syncBegun s = v at hb
  unfold judgeFull
  split
  · exact hb.raise (ofDriver_ne hc rfl) (.inl (by decide))
  · exact hb.mono

theorem Lodged.checkDone (h : Lodged c k (m + 1) s) (hc : c.ofDriver) : Lodged c k m (checkDone s) := by
  refine Lodged.enterSync (s := modOwnEntry _ (offer _ (withCheck none s))) (h.of_list ?_) hc
  rw [modOwnEntry_faults, (offer_keeps ..).2.2.2.2.2.2.2.2.2.2.1]
  rfl

theorem Lodged.enterChecking (h : Lodged c k (m + 1) s) (hc : c.ofDriver) : Lodged c k m (enterChecking s) := by
  have hb : Lodged c k (m + 1) (Machine.beginCheck (startChecking s)) := (h.of_list (t := startChecking s) rfl).beginCheck hc
  show Lodged c k m (finishCheck (Machine.beginCheck (startChecking s)))
  generalize Machine.beginCheck (startChecking s) = v at hb
  unfold finishCheck
  split
  · exact hb.mono
  · split
    · exact hb.checkDone hc
    · exact hb.mono

theorem Lodged.profilingEnd (h : Lodged c k (m + 1) s) (hc : c.ofDriver) : Lodged c k m (profilingEnd s) := by
  have hm : Lodged c k (m + 1) (modOwnEntry (fun e => { e with stage := .profiled }) (setAnnounce none s)) :=
    h.of_list (by rw [modOwnEntry_faults]; rfl)
  unfold Machine.profilingEnd
  dsimp only
  generalize modOwnEntry (fun e => { e with stage := .profiled }) (setAnnounce none s) = v at hm
  split
  · exact hm.enterSync hc
  · exact hm.enterChecking hc

theorem Lodged.mutedAnnounce (h : Lodged c k (m + 1) s) (hc : c.ofDriver) : Lodged c k m (mutedAnnounce s) := by
  unfold Machine.mutedAnnounce
  split
  · exact h.mono
  · split
    · exact h.profilingEnd hc
    · exact h.mono.of_list rfl

end

/-- LINE-DRIVE, raised on a list of five at most, is listed at the end of its event, and LINE-MUTE with it where the station becomes
mute. -/
theorem driveFaults_listed (h : s.faults.list.length < 6) :
    (settle (lapseClaim (raiseFault .lineDrive 0 2 s))).hasFault .lineDrive 0 = true ∧
    (settle (lapseClaim (becomeMute (raiseFault .lineDrive 0 2 s)))).hasFault .lineDrive 0 = true ∧
    (settle (lapseClaim (becomeMute (raiseFault .lineDrive 0 2 s)))).hasFault .lineMute 0 = true := by
  have hd : Lodged .lineDrive 0 3 (raiseFault .lineDrive 0 2 s) :=
    raiseFault_lodged _ _ (Nat.le_refl 2) (by omega) (by omega)
  have hl : (raiseFault .lineDrive 0 2 s).faults.list.length < 7 := by
    have := raiseFault_length .lineDrive 0 2 s
    omega
  generalize raiseFault .lineDrive 0 2 s = v at hd hl
  have hd' : Lodged .lineDrive 0 3 { v with line := { v.line with mute := true } } := hd.of_list rfl
  have hl' : ({ v with line := { v.line with mute := true } } : State).faults.list.length < 7 := hl
  have hdm : Lodged .lineDrive 0 2 (muteRaised v) := hd'.raise nofun (.inr (by omega))
  have hmm : Lodged .lineMute 0 2 (muteRaised v) := raiseFault_lodged _ _ (by decide) (by omega) (by omega)
  refine ⟨hd.mono.mono.lapsed nofun nofun, ?_, ?_⟩
  · exact (hdm.mutedAnnounce rfl).lapsed nofun nofun
  · exact (hmm.mutedAnnounce rfl).lapsed nofun nofun

/-! ### The drive fault -/

/-- What every drive fault leaves of the line, from the state in which LINE-DRIVE is raised. -/
theorem driveFault_line (hq : ∀ e ∈ s.line.queue, e.inFlight = false) (b : Bool)
    (hfs : t = settle (lapseClaim (if b then becomeMute (raiseFault .lineDrive 0 2 s) else raiseFault .lineDrive 0 2 s))) :
    (∀ e ∈ t.line.queue, e.inFlight = false) ∧
    t.line = { s.line with
      mute := b || s.line.mute
      queue := t.line.queue, followOn := t.line.followOn, overflow := t.line.overflow, nextId := t.line.nextId } := by
  have h1 : LineKept s (raiseFault .lineDrive 0 2 s) := (raiseFault_queueing ..).lineKept
  generalize raiseFault .lineDrive 0 2 s = v at h1 hfs
  have ht (w : State) : LineKept w (settle (lapseClaim w)) := (lapseClaim_lineKept w).trans (settle_queueing _).lineKept
  cases b with
  | false =>
    have h := h1.trans (ht v)
    rw [show t = settle (lapseClaim v) from hfs]
    exact ⟨h.pending hq, h.line⟩
  | true =>
    have hm := (becomeMute_lineKept v).trans (ht (becomeMute v))
    rw [show t = settle (lapseClaim (becomeMute v)) from hfs]
    refine ⟨hm.pending (h1.pending hq), ?_⟩
    rw [hm.line, h1.line]
    rfl

/-- The state in which a drive fault of the frame raises LINE-DRIVE. -/
def State.driveFaulted (s : State) (before : List Entry) (x : Entry) (behind : List Entry) (r : Reception) : State :=
  { s with
    line :=
      { (if r.bits.length = 1 ∧ Config.freeStartRead s.freeCount = false then
          { s.line.returned before x behind r with
            state := .idle, recessive := min (r.before + 1) 200, dominant := 0, reception := none }
        else s.line.returned before x behind r) with
        disable := .running 0 100, driveFaults := min (s.line.driveFaults + 1) 3 }
    seat := s.claimBack x
    freeCount := if r.bits.length = 1 then s.freeCount + 1 else s.freeCount }

theorem OwnFrame.driveFault_eq {before behind : List Entry} {r : Reception} (h : OwnFrame s before x behind r) :
    driveFault s =
      lapseClaim
        (if min (s.line.driveFaults + 1) 3 = 3 then becomeMute (raiseFault .lineDrive 0 2 (s.driveFaulted before x behind r))
        else raiseFault .lineDrive 0 2 (s.driveFaulted before x behind r)) := by
  rw [driveFault, h.readRecessive_eq]
  have hd : (if r.bits.length = 1 ∧ Config.freeStartRead s.freeCount = false then
      { s.line.returned before x behind r with
        state := .idle, recessive := min (r.before + 1) 200, dominant := 0, reception := none }
      else s.line.returned before x behind r).driveFaults = s.line.driveFaults := by split <;> rfl
  dsimp only
  rw [hd]
  rfl

theorem returned_pending {before behind : List Entry} {r : Reception} (l : LineUnit)
    (h : ∀ e ∈ before ++ behind, e.inFlight = false) :
    ∀ e ∈ (l.returned before x behind r).queue, e.inFlight = false := by
  intro e he
  simp only [LineUnit.returned] at he
  split at he
  · exact h e he
  · rcases List.mem_append.mp he with hm | hm
    · exact h e (List.mem_append_left _ hm)
    · rcases List.mem_cons.mp hm with rfl | hm
      · rfl
      · exact h e (List.mem_append_right _ hm)

theorem driveFaulted_line (before : List Entry) (x : Entry) (behind : List Entry) (r : Reception) (s : State) :
    (s.driveFaulted before x behind r).line =
      { (if r.bits.length = 1 ∧ Config.freeStartRead s.freeCount = false then
          { s.line.returned before x behind r with
            state := .idle, recessive := min (r.before + 1) 200, dominant := 0, reception := none }
        else s.line.returned before x behind r) with
        disable := .running 0 100, driveFaults := min (s.line.driveFaults + 1) 3 } := rfl

theorem driveFaulted_pending {before behind : List Entry} (r : Reception) (s : State)
    (h : ∀ e ∈ before ++ behind, e.inFlight = false) :
    ∀ e ∈ (s.driveFaulted before x behind r).line.queue, e.inFlight = false := by
  have hq : (s.driveFaulted before x behind r).line.queue = (s.line.returned before x behind r).queue := by
    rw [driveFaulted_line]
    split <;> rfl
  rw [hq]
  exact returned_pending _ h

end Sys2Proof.Machine

open Sys2Proof Sys2Proof.Machine

/-- Settles O45. -/
theorem framesReturn : Obligations.FramesReturn := by
  refine fun s hp => ⟨fun h => ?_, fun h => ?_, fun x before behind hq hx hn r hr hown => ?_, fun h => ?_⟩
  · exact whenRunning_admitted (fun s => s.line.disable.isRunning) hp h
  · exact whenRunning_excluded (fun s => s.line.disable.isRunning) (by rw [h]; rfl)
  · have ho : OwnFrame s before x behind r := ⟨hq, hx, hn, hr, hown⟩
    have hexcl (b : Bool) (c : Instr) (f : State → State)
        (hc : exec c s = whenRunning s fun s => takeIf (s.mayDiffer b) s f)
        (hb : b ∉ (comparedBits x.frame.kind (x.frame.sender s.seat.ownSeat) x.frame.payload).drop r.bits.length) :
        exec c s = .next s := by
      rw [hc]
      exact whenRunning_excluded (·.mayDiffer b) (by rw [ho.mayDiffer_eq]; simpa using hb)
    refine ⟨fun hf => ?_, fun h1 => ?_, hexcl true _ _ rfl, hexcl false _ _ rfl, fun hb => ?_, fun hb => ?_⟩
    · rw [hf]
      rfl
    · rw [← h1]
      have := comparedBits_dominant x.frame s.seat.ownSeat
      rwa [h1]
    · have he : exec .arbitrationLost s = .next (settle (loseArbitration s)) :=
        whenRunning_admitted (·.mayDiffer true) hp (by rw [ho.mayDiffer_eq]; simpa using hb)
      rw [loseArbitration, ho.goOnReceiving_eq] at he
      refine ⟨fun hc => ?_, fun hc hid hh => ?_⟩
      · rw [lapseClaim_id (hc.imp id fun h => (claimBack_expiryHeld x s).trans h)] at he
        exact he
      · have hback : s.claimBack x = { s.seat with claim := .pending } := if_pos ⟨hc, hid⟩
        rw [hback, lapseClaim, if_pos (by simp [hh])] at he
        generalize hfs : settle _ = t at he
        obtain ⟨h1, -, -, -, -, -, h7, h8⟩ := seatUnavailable_settled hfs.symm
        refine ⟨t, he, by rw [h1], by rw [h1], ?_, h8⟩
        rw [State.pendingId, h7]
        exact withdrawClaim_pendingId
          (s := { s with line := s.line.returned before x behind r, seat := { s.seat with claim := .pending } }) rfl
    · have he : exec .driveFault s = .next (settle (driveFault s)) :=
        whenRunning_admitted (·.mayDiffer false) hp (by rw [ho.mayDiffer_eq]; simpa using hb)
      rw [ho.driveFault_eq] at he
      refine ⟨fun hc => ?_, ?_⟩
      · rw [lapseClaim_id] at he
        · exact he
        · have hseat : (raiseFault .lineDrive 0 2 (s.driveFaulted before x behind r)).seat = s.claimBack x :=
            (raiseFault_keeps ..).2.2.2.2.1
          have hclaim := becomeMute_claim (raiseFault .lineDrive 0 2 (s.driveFaulted before x behind r))
          rw [hseat, claimBack_expiryHeld] at hclaim
          split
          · rw [hclaim.1, hclaim.2]
            exact hc
          · rw [hseat, claimBack_expiryHeld]
            exact hc
      · have hmin : min (s.line.driveFaults + 1) 3 = 3 ↔ 2 ≤ s.line.driveFaults := by omega
        simp only [hmin] at he
        have hl : (s.driveFaulted before x behind r).faults = s.faults := rfl
        have hli := driveFaulted_line before x behind r s
        have hfaults := driveFaults_listed (s := s.driveFaulted before x behind r)
        have hline := fun t => driveFault_line (t := t) (driveFaulted_pending (x := x) r s hn) (decide (2 ≤ s.line.driveFaults))
        rw [hl] at hfaults
        rw [hli] at hline
        simp only [decide_eq_true_eq] at hline
        generalize s.driveFaulted before x behind r = v at he hline hfaults
        refine ⟨_, he, ?_⟩
        obtain ⟨h1, h2⟩ := hline _ rfl
        generalize hfs : settle _ = t at h1 h2 ⊢
        have hm : (if r.bits.length = 1 ∧ Config.freeStartRead s.freeCount = false then
            { s.line.returned before x behind r with
              state := .idle, recessive := min (r.before + 1) 200, dominant := 0, reception := none }
            else s.line.returned before x behind r).mute = s.line.mute := by split <;> rfl
        refine ⟨h1, by rw [h2], by rw [h2], by rw [h2]; rfl, by rw [h2]; rfl, by rw [h2]; rfl, by rw [h2]; rfl, fun h6 => ?_,
          fun h => ?_, fun h => ⟨?_, fun h6 => ?_⟩⟩
        · obtain ⟨k1, k2, -⟩ := hfaults h6
          rw [← hfs]
          split
          · exact k2
          · exact k1
        · rw [h2]
          simp [Nat.not_le.mpr h, hm]
        · rw [h2]
          simp [h]
        · rw [← hfs, if_pos h]
          exact (hfaults h6).2.2
  · constructor
    · exact whenRunning_excluded (·.mayDiffer true) (mayDiffer_idle h true)
    · exact whenRunning_excluded (·.mayDiffer false) (mayDiffer_idle h false)

end

section
/-! SUPPORT. The ends of runs with their BODY STATUS, body frames received, and the relay timer: O42. -/

namespace Sys2Proof.Machine

variable {s t u v w : State} {n m j k : Nat} {o : BodyOutcome} {c : BodyChannel} {l : List Frame}

/-! ### A run's end -/

/-- The record of a channel whose run has ended. -/
def BodyChannel.ended (o : BodyOutcome) (c : BodyChannel) : BodyChannel :=
  { c with running := false, timer := .stopped, outcome := o }

theorem bodyChannel_of_nth (h : nth s.body.channels n = some c) : s.bodyChannel n = c := by
  rw [State.bodyChannel, h]
  rfl

theorem endRun_idle (h : nth s.body.channels n = some c) (hr : c.running = false) (o : BodyOutcome) : endRun o s n = s := by
  rw [endRun, if_neg]
  simp [bodyChannel_of_nth h, hr]

/-- The run's end: its record, the hazard part and BODY STATUS. -/
theorem endRun_eq (h : nth s.body.channels n = some c) (hr : c.running = true) (o : BodyOutcome) :
    endRun o s n =
      offer (.bodyStatus n false o c.runTag)
        (judgeOwn (modBody n (fun c => { c with running := false, timer := .stopped, outcome := o }) s)) := by
  have hb : nth (stopRun n o s).body.channels n = some (c.ended o) := by
    rw [(stopRun_keeps s n o).2, nth_modNth_same, h]
    rfl
  rw [endRun, bodyChannel_of_nth h, if_pos hr, queueStatus, bodyChannel_of_nth hb]
  rfl

theorem endRun_channel (h : nth s.body.channels m = some c) (o : BodyOutcome) (n : Nat) :
    nth (endRun o s n).body.channels m = some (if c.running = true ∧ m = n then c.ended o else c) := by
  unfold endRun
  split
  · next hr =>
    rw [queueStatus, (offer_keeps ..).2.2.2.2.2.2.2.2.2.2.2.2.2.2.2.2.1, (stopRun_keeps s n o).2]
    by_cases hm : m = n
    · subst hm
      rw [bodyChannel_of_nth h] at hr
      rw [nth_modNth_same, h, if_pos ⟨hr, rfl⟩]
      rfl
    · rw [nth_modNth_other _ _ _ _ hm, h, if_neg fun hx => hm hx.2]
  · next hr =>
    rw [h, if_neg]
    rintro ⟨hc, rfl⟩
    rw [bodyChannel_of_nth h] at hr
    exact hr hc

theorem foldl_endRun_channel (h : nth s.body.channels m = some c) (o : BodyOutcome) (l : List Nat) :
    nth (l.foldl (endRun o) s).body.channels m = some (if c.running = true ∧ m ∈ l then c.ended o else c) := by
  induction l generalizing s c with
  | nil => simpa using h
  | cons n l ih =>
    rw [List.foldl_cons, ih (endRun_channel h o n)]
    by_cases hr : c.running = true
    · by_cases hm : m = n
      · simp [hr, hm, BodyChannel.ended]
      · simp [hr, hm]
    · simp [hr]

theorem endRuns_channel (h : nth s.body.channels m = some c) (hm : m ∈ bodyNumbers) (o : BodyOutcome) (p : BodyCfg → Bool) :
    nth (endRuns o p s).body.channels m =
      some (if c.running = true ∧ p (s.bodyCfg m) = true then c.ended o else c) := by
  rw [endRuns, foldl_endRun_channel h]
  simp [hm]

/-! ### Room for every BODY STATUS of an event -/

/-- The frame is a BODY STATUS. -/
def Frame.isStatus : Frame → Bool
  | .bodyStatus _ _ _ _ => true
  | _ => false

theorem Frame.isStatus_class (f : Frame) (h : f.isStatus = true) : f.replaceClass = none := by
  cases f <;> first | rfl | cases h

/-- How many body channels run. -/
def State.openRuns (s : State) : Nat :=
  (s.bodyChannel 1).running.toNat + (s.bodyChannel 2).running.toNat + (s.bodyChannel 3).running.toNat +
    (s.bodyChannel 4).running.toNat

/-- The place that a DEMAND not yet queued takes. -/
def State.demandPlace (s : State) : Nat := (!s.line.queue.any fun e => e.frame.replaceClass == some 0).toNat

/-- A station in JOINED whose queue, with a BODY STATUS for each run and a DEMAND, has room for `j` frames more. On it stand the BODY
STATUS frames of the list. -/
structure Roomy (j : Nat) (l : List Frame) (s : State) : Prop where
  joined : s.seat.stage = .joined
  pending : ∀ e ∈ s.line.queue, e.inFlight = false
  room : s.line.queue.length + s.openRuns + s.demandPlace + j ≤ 8
  stands : ∀ g ∈ l, g.isStatus = true ∧ ∃ e ∈ s.line.queue, e.frame = g

theorem Roomy.mono (h : Roomy (j + 1) l s) : Roomy j l s := ⟨h.joined, h.pending, Nat.le_of_succ_le h.room, h.stands⟩

theorem Roomy.congr (h : Roomy j l s) (hl : t.line = s.line) (hb : t.body.channels = s.body.channels)
    (hs : t.seat.stage = s.seat.stage) : Roomy j l t where
  joined := hs.trans h.joined
  pending := by rw [hl]; exact h.pending
  room := by
    simp only [State.openRuns, State.bodyChannel, State.demandPlace, hl, hb]
    exact h.room
  stands := by rw [hl]; exact h.stands

/-- The state with the frame as a new entry of the queue. -/
def inserted (f : Frame) (s : State) : State :=
  (numbered s).setQueue (insertEntry ⟨s.line.nextId, f, false, false⟩ s.line.queue)

theorem mem_inserted {f : Frame} {e : Entry} :
    e ∈ (inserted f s).line.queue ↔ e = ⟨s.line.nextId, f, false, false⟩ ∨ e ∈ s.line.queue := mem_insertEntry ..

theorem inserted_demandPlace (f : Frame) (s : State) :
    (inserted f s).demandPlace = if f.replaceClass = some 0 then 0 else s.demandPlace := by
  simp only [State.demandPlace, inserted, State.setQueue]
  rw [(insertEntry_perm _ _).any_eq, List.any_cons]
  split
  · next h => simp [h]
  · next h => rw [beq_eq_false_iff_ne.mpr h, Bool.false_or]

theorem demandPlace_eq_zero {x : Entry} (hx : x ∈ s.line.queue) (hc : x.frame.replaceClass = some 0) : s.demandPlace = 0 := by
  rw [State.demandPlace, List.any_eq_true.mpr ⟨x, hx, by rw [hc]; rfl⟩]
  rfl

theorem Roomy.insert {i : Nat} (h : Roomy i l s) (f : Frame)
    (hj : s.line.queue.length + 1 + s.openRuns + (inserted f s).demandPlace + j ≤ 8) : Roomy j l (inserted f s) where
  joined := h.joined
  pending e hm := (mem_inserted.mp hm).elim (fun hx => by rw [hx]) (h.pending e)
  room := by
    have hlen : (inserted f s).line.queue.length = s.line.queue.length + 1 := (insertEntry_perm _ _).length_eq
    rw [hlen]
    exact hj
  stands g hg := by
    obtain ⟨hs, e, hm, hf⟩ := h.stands g hg
    exact ⟨hs, e, mem_inserted.mpr (.inr hm), hf⟩

theorem Roomy.queueTakes (h : Roomy j l s) (f : Frame) : s.queueTakes f = true :=
  queueTakes_seated _ (by rw [State.seated, h.joined]; rfl)

/-- A frame enters as a new entry. -/
theorem Roomy.entered {f : Frame} (h : Roomy (j + 1) l s) (hc : f.replaceClass = none) (hk : f.isSequenced = false) :
    Roomy j l (offer f s) ∧ ∃ e ∈ (offer f s).line.queue, e.frame = f := by
  have hroom := h.room
  have he : offer f s = inserted f s := by
    rw [offer_enters (h.queueTakes f) (.inl ⟨hc, fun h => by rw [(isSequenced_iff f).mpr h] at hk; cases hk⟩), enterQueue_room]
    · rfl
    · show s.line.queue.length < 8
      omega
  rw [he]
  refine ⟨h.insert f ?_, _, mem_inserted.mpr (.inl rfl), rfl⟩
  rw [inserted_demandPlace, if_neg (by rw [hc]; exact nofun)]
  omega

/-- A DEMAND takes the place of the one that waits. -/
theorem Roomy.replaced (h : Roomy j l s) {f : Frame} (hf : f.replaceClass = some 0) {x : Entry} (hx : x ∈ s.line.queue)
    (hc : x.frame.replaceClass = some 0) :
    Roomy j l ((numbered s).setQueue (s.line.queue.map fun y =>
      if y.frame.replaceClass == f.replaceClass then { y with frame := f } else y)) where
  joined := h.joined
  pending e hm := by
    obtain ⟨y, hy, rfl⟩ := List.mem_map.mp hm
    split <;> exact h.pending y hy
  room := by
    have hroom := h.room
    rw [demandPlace_eq_zero hx hc] at hroom
    rw [demandPlace_eq_zero (List.mem_map.mpr ⟨x, hx, rfl⟩) (by rw [if_pos (by rw [hc, hf]; rfl)]; exact hf)]
    show (List.map _ _).length + s.openRuns + 0 + j ≤ 8
    rw [List.length_map]
    omega
  stands g hg := by
    obtain ⟨hs, e, hm, he⟩ := h.stands g hg
    refine ⟨hs, e, List.mem_map.mpr ⟨e, hm, if_neg ?_⟩, he⟩
    rw [he, Frame.isStatus_class g hs, hf]
    exact Bool.false_ne_true

/-- A DEMAND takes the place kept for it, or that of the one that waits. -/
theorem Roomy.demand {f : Frame} (h : Roomy j l s) (hf : f.replaceClass = some 0) : Roomy j l (offer f s) := by
  have hroom := h.room
  have hne : f.replaceClass ≠ none := by rw [hf]; exact nofun
  cases hx : s.line.queue.find? fun e => e.frame.replaceClass == f.replaceClass with
  | some x =>
    have hc := List.find?_some hx
    rw [hf, beq_iff_eq] at hc
    rw [offer_replaces (h.queueTakes f) hne hx, h.pending x (List.mem_of_find?_eq_some hx), if_neg Bool.false_ne_true]
    exact h.replaced hf (List.mem_of_find?_eq_some hx) hc
  | none =>
    have hn : ∀ e ∈ s.line.queue, e.frame.replaceClass ≠ f.replaceClass := fun e he hc =>
      List.find?_eq_none.mp hx e he (by rw [hc]; simp)
    have hd : s.demandPlace = 1 := by
      have : (s.line.queue.any fun e => e.frame.replaceClass == some 0) = false := by simpa [hf] using hn
      rw [State.demandPlace, this]
      rfl
    have he : offer f s = inserted f s := by
      rw [offer_enters (h.queueTakes f) (.inr ⟨hne, hn⟩), enterQueue_room]
      · rfl
      · show s.line.queue.length < 8
        omega
    rw [he]
    refine h.insert f ?_
    rw [inserted_demandPlace, if_pos hf]
    omega

theorem Roomy.sendDemand (h : Roomy j l s) : Roomy j l (sendDemand s) := by
  refine Roomy.demand ?_ rfl
  exact h.congr rfl rfl rfl

theorem Roomy.sendChange (h : Roomy j l s) : Roomy j l (sendChange s) := by
  unfold Machine.sendChange
  split
  · exact h
  · split
    · exact h.sendDemand
    · split
      · split
        · refine Roomy.demand ?_ rfl
          exact h.congr rfl rfl rfl
        · exact h
      · refine Roomy.sendDemand ?_
        exact h.congr rfl rfl rfl

theorem Roomy.judgeOwn (h : Roomy j l s) : Roomy j l (judgeOwn s) := by
  unfold Machine.judgeOwn
  dsimp only
  split
  · exact h
  · refine Roomy.sendChange ?_
    exact h.congr rfl rfl rfl

/-- A run that ends makes room for its BODY STATUS. -/
theorem Roomy.modBody (h : Roomy j l s) (hn : n ∈ bodyNumbers) (hr : (s.bodyChannel n).running = true)
    {f : BodyChannel → BodyChannel} (hf : ∀ c, (f c).running = false) : Roomy (j + 1) l (modBody n f s) := by
  have hroom := h.room
  have hch (k : Nat) : ((Machine.modBody n f s).bodyChannel k).running = ((s.bodyChannel k).running && decide (k ≠ n)) := by
    simp only [State.bodyChannel, Machine.modBody]
    by_cases hk : k = n
    · subst hk
      rw [nth_modNth_same]
      cases nth s.body.channels k <;> simp [hf, BodyChannel.reset]
    · simp [hk, nth_modNth_other]
  have hopen : (Machine.modBody n f s).openRuns + 1 = s.openRuns := by
    simp only [State.openRuns, hch]
    simp only [bodyNumbers, List.mem_cons, List.not_mem_nil, or_false] at hn
    rcases hn with rfl | rfl | rfl | rfl <;> simp [hr] <;> omega
  have hd : (Machine.modBody n f s).demandPlace = s.demandPlace := rfl
  refine ⟨h.joined, h.pending, ?_, h.stands⟩
  rw [hd]
  show s.line.queue.length + _ + _ + _ ≤ 8
  omega

/-- A run's end leaves its BODY STATUS on the queue. -/
theorem Roomy.endRun_status (h : Roomy j l s) (hn : n ∈ bodyNumbers) (hc : nth s.body.channels n = some c)
    (hr : c.running = true) (o : BodyOutcome) : Roomy j (.bodyStatus n false o c.runTag :: l) (endRun o s n) := by
  rw [endRun_eq hc hr]
  have h1 : Roomy (j + 1) l (Machine.judgeOwn (Machine.modBody n (fun c => { c with running := false, timer := .stopped, outcome := o }) s)) :=
    Roomy.judgeOwn (h.modBody hn (by rw [bodyChannel_of_nth hc]; exact hr) fun _ => rfl)
  obtain ⟨h2, h3⟩ := h1.entered (f := .bodyStatus n false o c.runTag) rfl rfl
  exact ⟨h2.joined, h2.pending, h2.room, List.forall_mem_cons.mpr ⟨⟨rfl, h3⟩, h2.stands⟩⟩

theorem Roomy.tail {g : Frame} (h : Roomy j (g :: l) s) : Roomy j l s :=
  ⟨h.joined, h.pending, h.room, fun f hf => h.stands f (.tail _ hf)⟩

theorem Roomy.endRun (h : Roomy j l s) (hn : n ∈ bodyNumbers) (o : BodyOutcome) : Roomy j l (endRun o s n) := by
  by_cases hr : (s.bodyChannel n).running = true
  · cases hc : nth s.body.channels n with
    | none =>
      rw [State.bodyChannel, hc] at hr
      cases hr
    | some c =>
      rw [bodyChannel_of_nth hc] at hr
      exact (h.endRun_status hn hc hr o).tail
  · rw [Machine.endRun, if_neg hr]
    exact h

theorem Roomy.foldl_endRun (h : Roomy j l s) {ns : List Nat} (hns : ∀ n ∈ ns, n ∈ bodyNumbers) (o : BodyOutcome) :
    Roomy j l (ns.foldl (Machine.endRun o) s) := by
  induction ns generalizing s with
  | nil => exact h
  | cons n ns ih =>
    exact ih (h.endRun (hns n (.head _)) o) fun k hk => hns k (.tail _ hk)

theorem Roomy.endRuns (h : Roomy j l s) (o : BodyOutcome) (p : BodyCfg → Bool) : Roomy j l (endRuns o p s) :=
  h.foldl_endRun (fun _ hn => List.mem_of_mem_filter hn) o

/-- The runs that end together each leave their BODY STATUS. -/
theorem Roomy.endRuns_status (h : Roomy j l s) (hm : m ∈ bodyNumbers) (hc : nth s.body.channels m = some c)
    (hr : c.running = true) (o : BodyOutcome) {p : BodyCfg → Bool} (hp : p (s.bodyCfg m) = true) :
    Roomy j (.bodyStatus m false o c.runTag :: l) (Machine.endRuns o p s) := by
  have hmem : m ∈ bodyNumbers.filter fun n => p (s.bodyCfg n) := List.mem_filter.mpr ⟨hm, hp⟩
  have hns : ∀ n ∈ bodyNumbers.filter fun n => p (s.bodyCfg n), n ∈ bodyNumbers := fun _ hn => List.mem_of_mem_filter hn
  rw [Machine.endRuns]
  generalize bodyNumbers.filter (fun n => p (s.bodyCfg n)) = ns at hmem hns
  induction ns generalizing s with
  | nil => cases hmem
  | cons n ns ih =>
    rw [List.foldl_cons]
    by_cases hmn : m = n
    · subst hmn
      exact (h.endRun_status hm hc hr o).foldl_endRun (fun k hk => hns k (.tail _ hk)) o
    · have hch := endRun_channel hc o n
      rw [if_neg fun hx => hmn hx.2] at hch
      exact ih (h.endRun (hns n (.head _)) o) hch (by rw [State.bodyCfg, (endRun_same s o n).loader]; exact hp)
        ((List.mem_cons.mp hmem).resolve_left hmn) fun k hk => hns k (.tail _ hk)

/-! ### The other frames of an event's judgements -/

theorem Roomy.queueFault (h : Roomy (j + 1) l s) (e : FaultEntry) (b : Bool) : Roomy j l (queueFault e b s) := by
  unfold Machine.queueFault
  split
  · exact (h.entered rfl rfl).1
  · exact h.mono

theorem Roomy.setFaultList (h : Roomy j l s) (x : List FaultEntry) : Roomy j l (setFaultList x s) :=
  h.congr rfl rfl rfl

theorem Roomy.removeFault (h : Roomy (j + 1) l s) (e : FaultEntry) : Roomy j l (removeFault e s) :=
  (h.setFaultList _).queueFault ..

theorem Roomy.addFault (h : Roomy (j + 1) l s) (d : FaultCode) (k n : Nat) : Roomy j l (addFault d k n s) := by
  have h1 := (h.setFaultList (s.faults.list ++ [{ code := d, subject := k, severity := n, onset := min s.now Config.onsetTop }])).queueFault
    { code := d, subject := k, severity := n, onset := min s.now Config.onsetTop } true
  unfold Machine.addFault attnForFault
  dsimp only
  split
  · exact h1.congr rfl rfl rfl
  · exact h1

/-- A raise queues two FAULT frames at most. -/
theorem Roomy.raiseFault (h : Roomy (j + 2) l s) (d : FaultCode) (k n : Nat) : Roomy j l (raiseFault d k n s) := by
  unfold Machine.raiseFault
  split
  · exact h.mono.mono
  · split
    · exact h.mono.addFault ..
    · split
      · exact ((h.removeFault _).addFault ..).congr rfl rfl rfl
      · exact h.mono.mono.congr rfl rfl rfl

theorem Roomy.clearFault (h : Roomy (j + 1) l s) (d : FaultCode) (k : Nat) : Roomy j l (clearFault d k s) := by
  unfold Machine.clearFault
  split
  · exact h.mono
  · split
    · exact h.mono
    · exact h.removeFault _

theorem Roomy.judgeFallback (h : Roomy (j + 2) l s) : Roomy j l (judgeFallback s) := by
  unfold Machine.judgeFallback
  dsimp only
  split
  · exact h.mono.mono
  · split
    · refine Roomy.raiseFault ?_ _ _ _
      exact h.congr rfl rfl rfl
    · refine Roomy.clearFault ?_ _ _
      exact h.mono.congr rfl rfl rfl

theorem Roomy.judgeOffer (h : Roomy (j + 1) l s) {g : Frame} (hg : g ∈ l) : ∃ e ∈ (judgeOffer s).line.queue, e.frame = g := by
  have hst := (h.stands g hg).2
  unfold Machine.judgeOffer
  split
  · split
    · exact hst
    · exact ((h.entered (f := .seatOffer (s.seat.ownSeat + 1)) rfl rfl).1.stands g hg).2
  · split
    · obtain ⟨e, he, hf⟩ := hst
      refine ⟨e, List.mem_filter.mpr ⟨he, ?_⟩, hf⟩
      have hs := (h.stands g hg).1
      have hno : e.frame.isOffer = false := by rw [hf]; cases g <;> first | rfl | cases hs
      rw [hno]
      simp
    · exact hst

/-! ### Which runs the judgements end -/

/-- The judgements up to the endings by motion. -/
def motionJudged (s : State) : State := endMotion (endWithdrawn (judgeView s))

/-- The judgements up to the endings by PARK. -/
def parkJudged (s : State) : State := judgeEff (judgeFallback (judgeOwn (motionJudged s)))

theorem judgeSets_eq (s : State) : judgeSets s = judgeOwn (endPark (parkJudged s)) := rfl

theorem motionJudged_same (s : State) : SameBut (judgeView s) (motionJudged s) :=
  (endWithdrawn_keeps _).1.trans (endMotion_keeps _).1

theorem parkJudged_channels (s : State) : (parkJudged s).body.channels = (motionJudged s).body.channels := by
  obtain ⟨-, -, -, -, -, -, -, -, -, -, -, -, -, -, hb, -⟩ := unfaulted_fields (judgeFallback_keeps (judgeOwn (motionJudged s)))
  exact hb.trans (judgeOwn_keeps (motionJudged s)).2.1

theorem parkJudged_loader (s : State) : (parkJudged s).loader = s.loader := by
  obtain ⟨-, -, hl, -⟩ := unfaulted_fields (judgeFallback_keeps (judgeOwn (motionJudged s)))
  exact hl.trans ((judgeOwn_keeps (motionJudged s)).1.loader.trans (motionJudged_same s).loader)

theorem settle_channels (s : State) : (settle s).body.channels = (endPark (parkJudged s)).body.channels := by
  rw [settle_eq, (unqueued_fields (judgeOffer_keeps _).1).2.2.2.2.2.2.2.2.2.2.2.2.2.2.2.2.1]
  exact (judgeOwn_keeps (endPark (parkJudged s))).2.1

theorem settle_view (s : State) : (settle s).sensor.view = (judgeView s).sensor.view := by
  rw [settle_eq, (unqueued_fields (judgeOffer_keeps _).1).2.2.2.2.2.2.2.2.2.1]
  exact congrArg (·.view) (judgeSets_judged s).2.1

/-- PARK stands in the effective demand as it did when the runs were judged by it. -/
theorem settle_park (s : State) : (settle s).demand.eff.park = (parkJudged s).demand.eff.park := by
  have hu := unfaulted_fields (judgeFallback_keeps (judgeOwn (motionJudged s)))
  obtain ⟨-, -, hl, -, -, -, hd, -, -, -, -, -, -, -, hb, -⟩ := hu
  have ha : OwnAgrees (parkJudged s) := (judgeOwn_keeps (motionJudged s)).2.2.congr hl hb
    (congrArg Merger.levels hd :) (congrArg Merger.holds hd :) (congrArg Merger.hazard hd :) (congrArg Merger.own hd :)
  have hk : SameBut (parkJudged s) (judgeSets s) := (endPark_keeps _).1.trans (judgeOwn_keeps _).1
  have hp := hk.effective_park ha (judgeOwn_keeps (endPark (parkJudged s))).2.2
  rw [settle_eq, (unqueued_fields (judgeOffer_keeps _).1).2.2.2.2.2.2.1]
  exact hp

theorem endWithdrawn_channel (h : nth s.body.channels m = some c) (hm : m ∈ bodyNumbers) :
    nth (endWithdrawn s).body.channels m = some (if c.running = true ∧ s.joined = false then c.ended .withdrawn else c) := by
  unfold endWithdrawn
  split
  · next hj => simp [h, hj]
  · next hj => rw [endRuns_channel h hm]; simp [hj]

theorem endMotion_channel (h : nth s.body.channels m = some c) (hm : m ∈ bodyNumbers) :
    nth (endMotion s).body.channels m =
      some (if c.running = true ∧ s.sensor.view = true ∧ (s.bodyCfg m).motionInhibited = true then c.ended .motion else c) := by
  unfold endMotion
  split
  · next hv => rw [endRuns_channel h hm]; simp [hv]
  · next hv => simp [h, hv]

theorem endPark_channel (h : nth s.body.channels m = some c) (hm : m ∈ bodyNumbers) :
    nth (endPark s).body.channels m =
      some (if c.running = true ∧ s.demand.eff.park = false ∧ (s.bodyCfg m).parkRequired = true then c.ended .parkLost
        else c) := by
  unfold endPark
  split
  · next hv => simp [h, hv]
  · next hv => rw [endRuns_channel h hm]; simp [hv]

theorem bodyCfg_congr (h : t.loader = s.loader) (k : Nat) : t.bodyCfg k = s.bodyCfg k := by rw [State.bodyCfg, h, State.bodyCfg]

/-- From the judgement by motion on PARK alone decides. -/
theorem settle_motionJudged (hm : m ∈ bodyNumbers) (h : nth (motionJudged s).body.channels m = some c) :
    nth (settle s).body.channels m =
      some (if c.running = true ∧ (settle s).demand.eff.park = false ∧ (s.bodyCfg m).parkRequired = true
        then c.ended .parkLost else c) := by
  rw [← parkJudged_channels] at h
  rw [settle_channels, settle_park, ← bodyCfg_congr (parkJudged_loader s)]
  exact endPark_channel h hm

theorem motionJudged_channel (hm : m ∈ bodyNumbers) (h : nth (endWithdrawn (judgeView s)).body.channels m = some c) :
    nth (motionJudged s).body.channels m =
      some (if c.running = true ∧ (settle s).sensor.view = true ∧ (s.bodyCfg m).motionInhibited = true
        then c.ended .motion else c) := by
  have hs := (endWithdrawn_keeps (judgeView s)).1
  rw [settle_view, ← hs.sensor, ← bodyCfg_congr (s := s) hs.loader]
  exact endMotion_channel h hm

/-- A channel that does not run stands through the judgements. -/
theorem settle_stopped (hm : m ∈ bodyNumbers) (hc : nth s.body.channels m = some c) (hr : c.running = false) :
    nth (settle s).body.channels m = some c := by
  have h1 := endWithdrawn_channel (s := judgeView s) hc hm
  rw [if_neg (by simp [hr])] at h1
  have h2 := motionJudged_channel hm h1
  rw [if_neg (by simp [hr])] at h2
  have h3 := settle_motionJudged hm h2
  rwa [if_neg (by simp [hr])] at h3

/-- What becomes of a run in an event's judgements, by the stage, the view and PARK. -/
theorem settle_run (hm : m ∈ bodyNumbers) (hc : nth s.body.channels m = some c) (hr : c.running = true) :
    (s.joined = false → nth (settle s).body.channels m = some (c.ended .withdrawn)) ∧
    (s.joined = true →
      ((s.bodyCfg m).motionInhibited = true → (settle s).sensor.view = true →
        nth (settle s).body.channels m = some (c.ended .motion)) ∧
      ((s.bodyCfg m).motionInhibited = false ∨ (settle s).sensor.view = false →
        ((s.bodyCfg m).parkRequired = true → (settle s).demand.eff.park = false →
          nth (settle s).body.channels m = some (c.ended .parkLost)) ∧
        ((s.bodyCfg m).parkRequired = false ∨ (settle s).demand.eff.park = true →
          nth (settle s).body.channels m = some c))) := by
  have h1 := endWithdrawn_channel (s := judgeView s) hc hm
  have hjv : (judgeView s).joined = s.joined := rfl
  rw [hjv] at h1
  refine ⟨fun hj => ?_, fun hj => ?_⟩
  · rw [if_pos ⟨hr, hj⟩] at h1
    have h2 := motionJudged_channel hm h1
    rw [if_neg (by simp [BodyChannel.ended])] at h2
    have h3 := settle_motionJudged hm h2
    rwa [if_neg (by simp [BodyChannel.ended])] at h3
  · rw [if_neg (by simp [hj])] at h1
    have h2 := motionJudged_channel hm h1
    refine ⟨fun hi hv => ?_, fun hi => ?_⟩
    · rw [if_pos ⟨hr, hv, hi⟩] at h2
      have h3 := settle_motionJudged hm h2
      rwa [if_neg (by simp [BodyChannel.ended])] at h3
    · rw [if_neg (by rcases hi with hi | hi <;> simp [hi])] at h2
      have h3 := settle_motionJudged hm h2
      refine ⟨fun hp hl => ?_, fun hp => ?_⟩
      · rwa [if_pos ⟨hr, hl, hp⟩] at h3
      · rwa [if_neg (by rcases hp with hp | hp <;> simp [hp])] at h3

theorem openRuns_le (s : State) : s.openRuns ≤ 4 := by
  have h (b : Bool) : b.toNat ≤ 1 := by cases b <;> decide
  have h1 := h (s.bodyChannel 1).running
  have h2 := h (s.bodyChannel 2).running
  have h3 := h (s.bodyChannel 3).running
  have h4 := h (s.bodyChannel 4).running
  unfold State.openRuns
  omega

/-- On an empty queue of a station in JOINED every run that an event's judgements end has its BODY STATUS. -/
theorem settle_status (hm : m ∈ bodyNumbers) (hc : nth s.body.channels m = some c) (hr : c.running = true)
    (hj : s.seat.stage = .joined) (hq : s.line.queue = []) (hfs : t = settle s) :
    ((s.bodyCfg m).motionInhibited = true → t.sensor.view = true →
      ∃ e ∈ t.line.queue, e.frame = .bodyStatus m false .motion c.runTag) ∧
    ((s.bodyCfg m).motionInhibited = false ∨ t.sensor.view = false → (s.bodyCfg m).parkRequired = true →
      t.demand.eff.park = false → ∃ e ∈ t.line.queue, e.frame = .bodyStatus m false .parkLost c.runTag) := by
  have h0 : Roomy 3 [] (judgeView s) := by
    refine ⟨hj, ?_, ?_, fun g hg => absurd hg List.not_mem_nil⟩
    · show ∀ e ∈ s.line.queue, e.inFlight = false
      rw [hq]
      exact fun e he => absurd he List.not_mem_nil
    · have ho : (judgeView s).openRuns ≤ 4 := openRuns_le _
      have hd : (judgeView s).demandPlace = 1 := by
        show (!s.line.queue.any _).toNat = 1
        rw [hq]
        rfl
      have hl : (judgeView s).line.queue = [] := hq
      rw [hl, hd, List.length_nil]
      omega
  have hw : endWithdrawn (judgeView s) = judgeView s := if_pos (by simp [State.joined, judgeView, hj])
  have hmj : motionJudged s = endMotion (judgeView s) := by rw [motionJudged, hw]
  have hpark {l : List Frame} (h : Roomy 3 l (motionJudged s)) : Roomy 1 l (parkJudged s) :=
    (h.judgeOwn.judgeFallback).congr rfl rfl rfl
  have hend {l : List Frame} {g : Frame} (h : Roomy 1 l (endPark (parkJudged s))) (hg : g ∈ l) :
      ∃ e ∈ t.line.queue, e.frame = g := by
    rw [hfs, settle_eq, judgeSets_eq]
    have h2 := h.judgeOwn
    generalize judgeOwn (endPark (parkJudged s)) = w at h2 ⊢
    refine Roomy.judgeOffer (j := 0) ?_ hg
    exact h2.congr rfl rfl rfl
  have hv : (judgeView s).sensor.view = t.sensor.view := by rw [hfs, settle_view]
  refine ⟨fun hi hvt => ?_, fun hi hp hpt => ?_⟩
  · have h1 : Roomy 3 [.bodyStatus m false .motion c.runTag] (motionJudged s) := by
      rw [hmj, endMotion, if_pos (hv.trans hvt)]
      exact h0.endRuns_status hm hc hr .motion hi
    refine hend (l := [.bodyStatus m false .motion c.runTag]) ?_ (.head _)
    unfold endPark
    split
    · exact hpark h1
    · exact (hpark h1).endRuns ..
  · have h1 : Roomy 3 [] (motionJudged s) := by
      rw [hmj, endMotion]
      split
      · exact h0.endRuns ..
      · exact h0
    have hch := motionJudged_channel (s := s) (c := c) hm (by rw [hw]; exact hc)
    rw [← hfs, if_neg (by rcases hi with hi | hi <;> simp [hi]), ← parkJudged_channels] at hch
    refine hend (l := [.bodyStatus m false .parkLost c.runTag]) ?_ (.head _)
    rw [endPark, if_neg (by rw [← settle_park, ← hfs, hpt]; exact Bool.false_ne_true)]
    exact (hpark h1).endRuns_status hm hch hr .parkLost (by rw [bodyCfg_congr (parkJudged_loader s)]; exact hp)

/-! ### The endings by their commands -/

theorem bodyPin_of_stopped (h : nth s.body.channels m = some c) (hr : c.running = false) : s.bodyPin m = false := by
  simp [State.bodyPin, h, hr]

theorem exec_runTimerExpiry (hp : s.power = .running) (h1 : 1 ≤ m) (h4 : m ≤ 4) (hc : nth s.body.channels m = some c) :
    exec (.runTimerExpiry m) s = .next (if c.running then settle (endRun .timedOut s m) else s) := by
  show execRunTimerExpiry m s = _
  rw [execRunTimerExpiry, whenUnit_known _ _ h1 h4, whenRunning_running _ _ hp, bodyChannel_of_nth hc]
  rfl

theorem exec_bodyDriverTrip (hp : s.power = .running) (h1 : 1 ≤ m) (h4 : m ≤ 4) (hc : nth s.body.channels m = some c) :
    exec (.bodyDriverTrip m) s = .next (if c.running then settle (bodyTrip m s) else s) := by
  show execBodyDriverTrip m s = _
  rw [execBodyDriverTrip, whenUnit_known _ _ h1 h4, whenRunning_running _ _ hp, bodyChannel_of_nth hc]
  rfl

theorem endRun_ended (hc : nth s.body.channels m = some c) (hr : c.running = true) (o : BodyOutcome) :
    nth (endRun o s m).body.channels m = some (c.ended o) := by
  rw [endRun_channel hc, if_pos ⟨hr, rfl⟩]

theorem settle_endRun (hm : m ∈ bodyNumbers) (hc : nth s.body.channels m = some c) (hr : c.running = true)
    (o : BodyOutcome) :
    nth (settle (endRun o s m)).body.channels m = some (c.ended o) ∧ (settle (endRun o s m)).primary = s.primary :=
  ⟨settle_stopped hm (endRun_ended hc hr o) rfl, (settle_primary _).trans (endRun_primary ..)⟩

theorem settle_bodyTrip (hm : m ∈ bodyNumbers) (hc : nth s.body.channels m = some c) (hr : c.running = true) :
    nth (settle (bodyTrip m s)).body.channels m = some (c.ended .tripped) ∧
    (s.faults.list.length < 7 → (settle (bodyTrip m s)).hasFault .bodyTripped m = true) ∧
    (settle (bodyTrip m s)).primary = s.primary := by
  have he := endRun_ended hc hr .tripped
  refine ⟨settle_stopped hm ?_ rfl, fun h => settle_raised (s := endRun .tripped s m) nofun (.inl (Nat.le_refl 2)) ?_ rfl, ?_⟩
  · rw [bodyTrip, (raiseFault_keeps ..).2.2.2.2.2.2.2.2.2.2.2.2.2.2.1]
    exact he
  · rw [(endRun_same s .tripped m).faults]
    omega
  · rw [settle_primary, bodyTrip, raiseFault_primary, endRun_primary]

theorem mem_bodyNumbers (h1 : 1 ≤ m) (h4 : m ≤ 4) : m ∈ bodyNumbers := by
  simp only [bodyNumbers, List.mem_cons, List.not_mem_nil, or_false]
  omega

/-- Runs end in channel order. -/
theorem endRuns_order (o : BodyOutcome) (p : BodyCfg → Bool) (s : State) :
    endRuns o p s =
      let endOne := fun (u : State) (k : Nat) => if p (s.bodyCfg k) = true then endRun o u k else u
      endOne (endOne (endOne (endOne s 1) 2) 3) 4 := by
  rw [endRuns, List.foldl_filter]
  rfl

theorem joined_iff : s.joined = true ↔ s.seat.stage = .joined := by
  cases h : s.seat.stage <;> simp [State.joined, h]

/-! ### The relay record -/

/-- A relay record that waits for no frame stands through the judgements. -/
theorem settle_relay (h : s.body.relay.state ≠ .waiting) : (settle s).body.relay = s.body.relay :=
  (settle_queueing s).relay h

theorem relay_takes_iff (r : Relay) (p k g : Nat) :
    r.takes p k g = true ↔
      (r.state = .sent ∨ r.state = .answered ∨ r.state = .noReply) ∧ p = r.target ∧ k = r.channel ∧ g = r.tag := by
  simp only [Relay.takes, Bool.and_eq_true, Bool.or_eq_true, beq_iff_eq, or_assoc, and_assoc]

end Sys2Proof.Machine

open Sys2Proof Sys2Proof.Machine

/-- Settles O42. -/
theorem bodyEventsTaken : Obligations.BodyEventsTaken := by
  intro s m n target channel action tag hp
  refine ⟨fun h1 h4 c hc => ⟨fun hr => ?_, fun hr => ?_⟩, ⟨fun h => ?_, fun h => ?_, fun h => ?_, fun h => ?_, fun h => ?_, fun h => ?_,
    fun h => ?_⟩, fun h1 h4 c hc hr => ?_, fun h1 h8 => ⟨fun hs ht => ?_, ?_, fun hit => ?_, fun hit => ?_⟩, fun hr hw hpe => ?_,
    fun hr hw => ?_⟩
  · have hm := mem_bodyNumbers h1 h4
    have he := exec_runTimerExpiry hp h1 h4 hc
    have ht := exec_bodyDriverTrip hp h1 h4 hc
    rw [hr, if_pos rfl] at he ht
    obtain ⟨k1, k2⟩ := settle_endRun hm hc hr .timedOut
    obtain ⟨l1, l2, l3⟩ := settle_bodyTrip hm hc hr
    refine ⟨⟨_, he, k1, k2, bodyPin_of_stopped k1 rfl⟩, ⟨?_, ?_, endRun_eq hc hr⟩, ⟨_, ht, l1, l2, l3, bodyPin_of_stopped l1 rfl⟩⟩
    · rw [he, endRun_eq hc hr]
    · rw [ht, bodyTrip, endRun_eq hc hr]
  · have he := exec_runTimerExpiry hp h1 h4 hc
    have ht := exec_bodyDriverTrip hp h1 h4 hc
    rw [hr] at he ht
    exact ⟨he, ht, endRun_idle hc hr⟩
  · rw [endMotion, if_pos h, endRuns_order]
  · rw [endMotion, if_neg (by simp [h])]
  · rw [endPark, if_neg (by simp [h]), endRuns_order]
  · rw [endPark, if_pos h]
  · rw [endWithdrawn, if_neg (fun hj => h (joined_iff.mp hj)), endRuns_order]
  · rw [endWithdrawn, if_pos (joined_iff.mpr h)]
  · unfold endWithdrawn
    split
    · rfl
    · rw [(endRuns_hushed .withdrawn _ h).line]
  · have hm := mem_bodyNumbers h1 h4
    obtain ⟨k1, k2⟩ := settle_run hm hc hr
    have hst (hj : s.seat.stage = .joined) (hq : s.line.queue = []) := settle_status hm hc hr hj hq rfl
    refine ⟨fun hj => ⟨k1 ?_, fun hx => absurd hx hj⟩, fun hj => ?_⟩
    · exact Bool.eq_false_iff.mpr fun hx => hj (joined_iff.mp hx)
    · obtain ⟨k3, k4⟩ := k2 (joined_iff.mpr hj)
      exact ⟨fun hi hv => ⟨k3 hi hv, fun _ hq => (hst hj hq).1 hi hv⟩, fun hi =>
        ⟨fun hpk hl => ⟨(k4 hi).1 hpk hl, fun _ hq => (hst hj hq).2 hi hpk hl⟩, (k4 hi).2⟩⟩
  · have he := (ReceivedAs.bodyRequest (s := s) (p := n) (t := target) (c := channel) (a := action) (g := tag)).next_of hp
      (by decide) h1 h8 rfl
    have hst : (frameHeard 7 n.toNat [1, target, channel, action, tag] s).seated = true := hs
    have hta : target.toNat = (frameHeard 7 n.toNat [1, target, channel, action, tag] s).seat.ownSeat := ht
    simp only [hst, ← hta, beq_self_eq_true, Bool.and_self, if_true] at he
    refine ⟨fun ha => ?_, fun ha => ?_⟩
    · rw [if_pos ha] at he
      exact he
    · rw [if_neg (by rw [ha]; decide), if_pos ha] at he
      exact he
  · intro h
    have he := (ReceivedAs.bodyRequest (s := s) (p := n) (t := target) (c := channel) (a := action) (g := tag)).next_of hp
      (by decide) h1 h8 rfl
    have hst : (frameHeard 7 n.toNat [1, target, channel, action, tag] s).seated = s.seated := rfl
    have hta : (frameHeard 7 n.toNat [1, target, channel, action, tag] s).seat.ownSeat = s.seat.ownSeat := rfl
    simp only [hst, hta] at he
    rcases h with h | h | ⟨ha1, ha2⟩
    · rw [if_neg (by simp [h])] at he
      exact he
    · rw [if_neg (by simp [h])] at he
      exact he
    · rw [if_neg ha1, if_neg ha2, ite_self] at he
      exact he
  · have he := (ReceivedAs.bodyStatus (s := s) (p := n) (c := channel) (r := target) (o := action) (g := tag)).next_of hp
      (by decide) h1 h8 rfl
    have hre : (frameHeard 7 n.toNat [2, channel, target, action, tag] s).body.relay = s.body.relay := rfl
    simp only [hre, if_pos ((relay_takes_iff ..).mpr hit)] at he
    refine ⟨_, he, ?_⟩
    rw [settle_relay (by exact nofun)]
    rfl
  · have he := (ReceivedAs.bodyStatus (s := s) (p := n) (c := channel) (r := target) (o := action) (g := tag)).next_of hp
      (by decide) h1 h8 rfl
    have hre : (frameHeard 7 n.toNat [2, channel, target, action, tag] s).body.relay = s.body.relay := rfl
    simp only [hre, if_neg (fun h => hit ((relay_takes_iff ..).mp h))] at he
    exact he
  · have he : exec .relayReplyExpiry s = .next (settle (relayExpiry s)) :=
      whenRunning_admitted (fun s => s.body.relay.timer.isRunning) hp hr
    rw [relayExpiry, if_pos ⟨hw, hpe⟩] at he
    refine ⟨he, ?_⟩
    rw [settle_relay] <;> simp [relayNotSent]
  · have he : exec .relayReplyExpiry s = .next (settle (relayExpiry s)) :=
      whenRunning_admitted (fun s => s.body.relay.timer.isRunning) hp hr
    rw [relayExpiry, if_neg (by rcases hw with hw | hw <;> simp [hw])] at he
    refine ⟨_, he, ?_⟩
    rw [settle_relay (by exact nofun)]
    exact ⟨rfl, rfl, settle_primary _⟩

end

section
/-! SUPPORT. A SEAT CLAIM received: O19. -/

namespace Sys2Proof.Machine

variable {s t u v w : State} {n : Nat} {p : Purpose} {a : Sending}

/-! ### The PROFILE sequence begun and restarted -/

theorem runSequence_mute (h : s.line.mute = true) (p : Purpose) : runSequence p s = s := if_pos h

theorem runSequence_begins (h : s.line.mute = false) (ha : s.roster.announce = none) (p : Purpose) :
    runSequence p s = beginSequence p s := by
  rw [runSequence, if_neg (by simp [h]), ha]

/-- A PROFILE segment is in flight. -/
def State.segmentInFlight (s : State) : Prop := ∃ e ∈ s.line.queue, e.frame.isProfile = true ∧ e.inFlight = true

/-- While a segment is in flight a restart waits for its end. -/
theorem runSequence_waits (h : s.line.mute = false) (ha : s.roster.announce = some a) (hf : s.segmentInFlight) (p : Purpose) :
    runSequence p s =
      setAnnounce (some { a with purpose := if a.purpose = .initial then .initial else p, restart := true }) s := by
  rw [runSequence, if_neg (by simp [h]), ha]
  exact if_pos (by simpa [State.segmentInFlight] using hf)

/-- Else it begins at once. -/
theorem runSequence_restarts (h : s.line.mute = false) (ha : s.roster.announce = some a)
    (hf : ∀ e ∈ s.line.queue, e.frame.isProfile = true → e.inFlight = false) (p : Purpose) :
    runSequence p s =
      beginSequence (if a.purpose = .initial then .initial else p) (withdraw Frame.isProfile s) := by
  rw [runSequence, if_neg (by simp [h]), ha]
  exact if_neg (by simpa using hf)

theorem beginSequence_offered (p : Purpose) (s : State) :
    (beginSequence p s).roster.announce.map Sending.offered =
      some { purpose := p, index := 0, restart := false, reoffer := false } := by
  rw [beginSequence_eq]
  exact offer_offered _ _

/-- The announcement that a sequence begun or restarted leaves. -/
theorem runSequence_announce (h : s.line.mute = false) (p : Purpose) :
    ∃ b, (runSequence p s).roster.announce.map Sending.offered = some b ∧
      (s.segmentInFlight → s.roster.announce ≠ none → b.restart = true) ∧
      ((∀ e ∈ s.line.queue, e.frame.isProfile = true → e.inFlight = false) ∨ s.roster.announce = none →
        b.index = 0 ∧ b.restart = false) := by
  cases ha : s.roster.announce with
  | none =>
    rw [runSequence_begins h ha]
    exact ⟨_, beginSequence_offered .., fun _ hn => absurd rfl hn, fun _ => ⟨rfl, rfl⟩⟩
  | some a =>
    by_cases hf : s.segmentInFlight
    · rw [runSequence_waits h ha hf]
      refine ⟨_, rfl, fun _ _ => rfl, fun hn => ?_⟩
      obtain ⟨e, he, hpr, hi⟩ := hf
      rw [hn.resolve_right nofun e he hpr] at hi
      cases hi
    · have hn : ∀ e ∈ s.line.queue, e.frame.isProfile = true → e.inFlight = false := fun e he hpr =>
        Bool.eq_false_iff.mpr fun hi => hf ⟨e, he, hpr, hi⟩
      rw [runSequence_restarts h ha hn]
      exact ⟨_, beginSequence_offered .., fun hx => absurd hx hf, fun _ => ⟨rfl, rfl⟩⟩

theorem beginSequence_unqueued (p : Purpose) (s : State) : (beginSequence p s).unqueued = s.unqueued := by
  rw [beginSequence_eq, offer_unqueued]
  rfl

theorem runSequence_unqueued (p : Purpose) (s : State) : (runSequence p s).unqueued = s.unqueued := by
  cases hm : s.line.mute with
  | true => rw [runSequence_mute hm]
  | false =>
    cases ha : s.roster.announce with
    | none => rw [runSequence_begins hm ha, beginSequence_unqueued]
    | some a =>
      by_cases hf : s.segmentInFlight
      · rw [runSequence_waits hm ha hf]
        rfl
      · rw [runSequence_restarts hm ha fun e he hpr => Bool.eq_false_iff.mpr fun hi => hf ⟨e, he, hpr, hi⟩,
          beginSequence_unqueued]
        rfl

/-! ### The re-announcement-due flag -/

/-- The station acts on the re-announcement-due flag. -/
def State.acts (s : State) : Prop := s.seat.stage = .joined ∧ s.line.mute = false

/-- The re-announcement-due flag put to a value. -/
def withDue (b : Bool) (s : State) : State := { s with roster := { s.roster with due := b } }

theorem withDue_self (s : State) : withDue s.roster.due s = s := rfl

theorem actOnDue_acts (hd : s.roster.due = true) (h : s.acts) : actOnDue s = runSequence .announce (withDue false s) := by
  obtain ⟨hj, hm⟩ := h
  rw [actOnDue, if_pos (by simp [hd, joined_iff.mpr hj, hm])]
  rfl

theorem actOnDue_id (h : s.roster.due = false ∨ ¬s.acts) : actOnDue s = s := by
  rw [actOnDue, if_neg]
  rintro hx
  simp only [Bool.and_eq_true, Bool.not_eq_true'] at hx
  obtain ⟨⟨hd, hj⟩, hm⟩ := hx
  rcases h with h | h
  · rw [h] at hd
    cases hd
  · exact h ⟨joined_iff.mp hj, hm⟩

theorem actOnDue_unqueued (s : State) : ∃ b, (actOnDue s).unqueued = (withDue b s).unqueued := by
  unfold actOnDue
  split
  · exact ⟨false, runSequence_unqueued .announce (withDue false s)⟩
  · exact ⟨s.roster.due, rfl⟩

/-! ### A claim of a seat that is not the own -/

/-- The flag after a claim: as before, or set by what the claim shows. -/
def State.dueAfter (s : State) (n : Nat) (i : Identity) (b : Bool) : Bool := s.roster.due || s.claimNews n i b

theorem claimNews_withDue (n : Nat) (i : Identity) (b : Bool) (s : State) :
    (if s.claimNews n i b then setDue s else s) = withDue (s.dueAfter n i b) s := by
  unfold State.dueAfter
  cases s.claimNews n i b with
  | true => simp [setDue, withDue]
  | false => simp [withDue]

/-- The entry of a claim made, with the flag it may set. -/
def claimTaken (n : Nat) (i : Identity) (c : UnitClass) (b : Bool) (s : State) : State :=
  insertClaim n (claimEntry i c b) (withDue (s.dueAfter n i b) s)

theorem takeClaim_own {i : Identity} {c : UnitClass} {b : Bool} (hs : s.seated = true) (hn : n = s.seat.ownSeat) :
    takeClaim n i c b s = actOnDue (claimOwn i b (withDue (s.dueAfter n i b) s)) := by
  rw [takeClaim, claimNews_withDue]
  exact if_pos (by rw [hn]; simpa [withDue, State.seated] using hs)

theorem takeClaim_other {i : Identity} {c : UnitClass} {b : Bool} (h : s.seated = false ∨ n ≠ s.seat.ownSeat) :
    takeClaim n i c b s =
      if s.seat.stage = .claiming ∧ n = s.seat.claimed ∧ i ≠ s.loader.identity then
        enterConflict n (withdrawClaim (claimTaken n i c b s))
      else actOnDue (claimTaken n i c b s) := by
  rw [takeClaim, claimNews_withDue]
  refine if_neg ?_
  rw [Bool.and_eq_true, beq_iff_eq]
  rintro ⟨hs, hn⟩
  rcases h with h | h
  · rw [show s.seated = true from hs] at h
    cases h
  · exact h hn

theorem claimTaken_get (i : Identity) (c : UnitClass) (b : Bool) (q : Nat) :
    Table.get (claimTaken n i c b s).roster.entries q =
      if q = n then some (claimEntry i c b) else Table.get s.roster.entries q := Table.get_put ..

theorem claimTaken_reasm (i : Identity) (c : UnitClass) (b : Bool) :
    Table.get (claimTaken n i c b s).roster.reasm n = none :=
  (Table.get_erase ..).trans (if_pos (List.mem_singleton_self n))

/-- What a claim of a seat that is not the own leaves, whatever follows from it. -/
structure ClaimLeft (n : Nat) (e : RosterEntry) (s t : State) : Prop where
  entry : Table.get t.roster.entries n = some e
  reasm : Table.get t.roster.reasm n = none
  others : ∀ q, q ≠ n → q ≠ s.seat.ownSeat → Table.get t.roster.entries q = Table.get s.roster.entries q
  pos1Heard : t.seat.pos1Heard = s.seat.pos1Heard
  phase : t.phase = s.phase
  table : t.demand.table = s.demand.table
  rear : t.rear = s.rear

/-- The claimed seat is lost to the claim. -/
theorem claimLost_left {i : Identity} {c : UnitClass} {b : Bool} (hs : s.seated = false)
    (hfs : t = settle (enterConflict n (withdrawClaim (claimTaken n i c b s)))) :
    ClaimLeft n (claimEntry i c b) s t ∧ Conflicted n (withdrawClaim (claimTaken n i c b s)) t := by
  have hw := withdrawClaim_eq (claimTaken n i c b s)
  have hget := fun q => claimTaken_get (s := s) (n := n) i c b q
  have hre := claimTaken_reasm (s := s) (n := n) i c b
  have hk : (claimTaken n i c b s).seat = s.seat ∧ (claimTaken n i c b s).phase = s.phase ∧
      (claimTaken n i c b s).demand = s.demand ∧ (claimTaken n i c b s).rear = s.rear := ⟨rfl, rfl, rfl, rfl⟩
  generalize claimTaken n i c b s = v at *
  obtain ⟨h1, h2, h3, h4⟩ := hk
  have hun : (withdrawClaim v).seated = false := by
    rw [State.seated, hw]
    show v.seat.stage.seated = false
    rw [h1]
    exact hs
  rw [enterConflict_eq, if_neg (by simp [hun])] at hfs
  have hc := conflicted hfs
  refine ⟨⟨?_, ?_, fun q hq _ => ?_, ?_, ?_, ?_, ?_⟩, hc⟩
  · rw [hc.entries, hw]
    exact (hget n).trans (if_pos rfl)
  · rw [hc.reasm, hw]
    exact hre
  · rw [hc.entries, hw]
    exact (hget q).trans (if_neg hq)
  · rw [hc.seat, hw, ← h1]
  · rw [hc.phase, hw, ← h2]
  · rw [hc.table, hw, ← h3]
  · rw [hc.rear, hw, ← h4]

/-- The claim is taken, and a re-announcement may follow. -/
theorem claimKept_left {i : Identity} {c : UnitClass} {b : Bool} (h : s.seated = false ∨ n ≠ s.seat.ownSeat)
    (hfs : t = settle (actOnDue (claimTaken n i c b s))) : ClaimLeft n (claimEntry i c b) s t := by
  have hget := fun q => claimTaken_get (s := s) (n := n) i c b q
  have hre := claimTaken_reasm (s := s) (n := n) i c b
  have hk : (claimTaken n i c b s).seat = s.seat ∧ (claimTaken n i c b s).phase = s.phase ∧
      (claimTaken n i c b s).demand = s.demand ∧ (claimTaken n i c b s).rear = s.rear := ⟨rfl, rfl, rfl, rfl⟩
  generalize claimTaken n i c b s = v at *
  obtain ⟨h1, h2, h3, h4⟩ := hk
  obtain ⟨d, hd⟩ := actOnDue_unqueued v
  have hp : t.primary = (withDue d v).primary := by
    rw [hfs, settle_primary]
    exact primary_of_unfaulted (unfaulted_of_unqueued hd)
  obtain ⟨-, -, -, hph, hr, -, -, -, -, -, -, -, -, -, hta, -, -, -, -, -, -, hm, -⟩ := primary_fields hp
  have hse := seat_of_primary hp
  have hent : ∀ q, s.seated = false ∨ q ≠ s.seat.ownSeat → Table.get t.roster.entries q = Table.get v.roster.entries q := by
    rintro q (hs | hq)
    · have hv : v.seated = false := by rw [State.seated, h1]; exact hs
      have ha : actOnDue v = v := actOnDue_id (.inr fun hx => by
        rw [State.seated, hx.1] at hv
        cases hv)
      rw [hfs, ha, (settle_unseated hv).1]
    · exact get_of_primary hp (show q ≠ v.seat.ownSeat by rw [h1]; exact hq)
  refine ⟨?_, ?_, fun q hq ho => ?_, ?_, ?_, ?_, ?_⟩
  · rw [hent n h, hget, if_pos rfl]
  · rw [hm]
    exact hre
  · rw [hent q (.inr ho), hget, if_neg hq]
  · rw [hse, ← h1]
    rfl
  · exact hph.trans h2
  · rw [hta]
    exact congrArg Merger.table h3
  · exact hr.trans h4

/-- What becomes of the flag, and of the announcement where the station acts on it. -/
theorem actOnDue_settled (hfs : t = settle (actOnDue s)) :
    (s.roster.due = true → s.acts → t.roster.due = false ∧
      ∃ a, t.roster.announce = some a ∧
        (s.segmentInFlight → s.roster.announce ≠ none → a.restart = true) ∧
        ((∀ e ∈ s.line.queue, e.frame.isProfile = true → e.inFlight = false) ∨ s.roster.announce = none →
          a.index = 0 ∧ a.restart = false)) ∧
    (s.roster.due = true → ¬s.acts → t.roster.due = true) ∧ (s.roster.due = false → t.roster.due = false) := by
  have hdue := (settle_keeps (actOnDue s)).2.2.2.2.2.2.2.2.2.2.2.2.2.2.2.2.2.2.2.2.2.2.1
  have hq := (settle_queueing (actOnDue s)).offered
  rw [← hfs] at hdue hq
  refine ⟨fun hd ha => ?_, fun hd ha => ?_, fun hd => ?_⟩
  · have he := actOnDue_acts hd ha
    obtain ⟨b, hb, h1, h2⟩ := runSequence_announce (s := withDue false s) ha.2 .announce
    have hrd := unqueued_fields (runSequence_unqueued .announce (withDue false s))
    rw [he, hb] at hq
    refine ⟨?_, ?_⟩
    · rw [hdue, he]
      exact hrd.2.2.2.2.2.2.2.2.2.2.2.2.2.2.2.1
    · obtain ⟨a, hx, hxb⟩ := Option.map_eq_some_iff.mp hq
      refine ⟨a, hx, fun hf hn => ?_, fun hn => ?_⟩
      · exact (congrArg Sending.restart hxb :).trans (h1 hf hn)
      · exact ⟨(congrArg Sending.index hxb :).trans (h2 hn).1, (congrArg Sending.restart hxb :).trans (h2 hn).2⟩
  · rw [hdue, actOnDue_id (.inr ha), hd]
  · rw [hdue, actOnDue_id (.inl hd), hd]

/-! ### The own seat yielded -/

theorem withdrawClaim_inFlight (s : State) : (withdrawClaim s).inFlight = s.inFlight := by
  unfold withdrawClaim
  split
  · rw [State.inFlight, State.inFlight]
    show (s.line.queue.filter _).find? _ = _
    rw [List.find?_filter]
    congr 1
    funext e
    cases e.inFlight <;> simp
  · rfl

theorem withdrawClaim_ending (s : State) : (withdrawClaim s).ending = s.ending := by
  rw [State.ending, withdrawClaim_inFlight, withdrawClaim_eq, State.ending]

/-- The queue emptied again is the queue emptied once. -/
theorem Emptied.trans (h : Emptied true s t) (k : Emptied true t u) : Emptied true s u where
  line := by
    have hl : t.emptiedLine true = { s.emptiedLine true with nextId := (t.emptiedLine true).nextId } := h.again.line
    rw [k.line, hl]
  announce := k.announce
  due := k.due
  relay := k.relay.trans h.again.relay
  query := k.query
  answering := k.answering
  owed := k.owed
  outcome := k.outcome.trans h.again.outcome

theorem leaveSeat_faults (g : Stage) (all : Bool) (s : State) :
    (leaveSeat g all s).faults.list.length ≤ s.faults.list.length := by
  have hd : (dropSeat g all (abandonCheck s)).faults = s.faults := by
    rw [abandonCheck_eq]
    rfl
  rw [leaveSeat_eq]
  refine (clearFault_length ..).trans ((clearFault_length ..).trans ?_)
  refine (clearPresence_length _).trans ((clearFault_length ..).trans ?_)
  rw [hd]

/-- The seat left for CONFLICT. -/
theorem leaveSeat_conflict (v : State) : ∃ f,
    leaveSeat .conflict true v = { dropSeat .conflict true { v with lamps := (abandonCheck v).lamps } with faults := f } := by
  obtain ⟨l, hl⟩ := leaveSeat_unseated .conflict true rfl v
  rw [abandonCheck_eq] at hl
  exact ⟨_, hl⟩

theorem leaveSeat_emptied (v : State) : Emptied true v (leaveSeat .conflict true v) := by
  obtain ⟨f, hl⟩ := leaveSeat_conflict v
  rw [hl]
  exact Emptied.of_base (u' := { v with
    lamps := (abandonCheck v).lamps, seat := { v.seat with stage := .conflict, ownSeat := 0, reseat := true } })
    ((emptyQueue_emptied true _).congr rfl rfl rfl rfl rfl) rfl rfl rfl

/-- A seat left for CONFLICT, once the judgements are made. -/
theorem yielded_settled (hs : v.seated = true) (hp : v.power = .running) (hfs : t = settle (enterConflict n v))
    (hq : v.port = s.port) (hr : v.body.relay = s.body.relay) (hi : v.inFlight = s.inFlight) (hn : v.ending = s.ending)
    (hph : v.phase = s.phase) :
    t.power = .running ∧ t.seat.stage = .conflict ∧ t.seat.ownSeat = 0 ∧ Emptied true v t ∧ SeatLeft s t ∧
    t.rear.status = .none ∧ t.rear.neighbour = none ∧ Table.get t.roster.entries v.seat.ownSeat = none ∧
    t.retention.seat = 0 ∧ t.lamps.check = none ∧
    (v.seat.stage = .checking → ∀ ch ∈ t.lamps.channels, ch.steady = if ch.lit = true then some 0 else none) ∧
    (∀ k ∈ bodyNumbers, (t.bodyChannel k).running = false) ∧
    (v.faults.list.length < 8 → t.hasFault .seatConflict n = true) := by
  rw [enterConflict_eq, if_pos hs] at hfs
  obtain ⟨f, hl⟩ := leaveSeat_conflict v
  have hlen := leaveSeat_faults .conflict true v
  have hem := leaveSeat_emptied v
  obtain ⟨hcheck, hlamps⟩ := abandonCheck_lamps v
  generalize leaveSeat .conflict true v = w at hfs hl hlen hem
  have hc := conflicted hfs
  obtain ⟨g, a, hra⟩ := raiseFault_unseated (s := startConflict w) .seatConflict n 3 rfl
  rw [hra] at hfs
  have hew : Emptied true v { startConflict w with faults := g, port := { (startConflict w).port with attn := a } } :=
    hem.trans ((startConflict_emptied w).congr rfl rfl rfl rfl rfl)
  refine ⟨?_, ?_, ?_, hem.trans hc.emptied, ?_, ?_, ?_, ?_, hc.retained, ?_, ?_, ?_, fun h => hc.fault (by omega)⟩
  · rw [hc.power, hl]
    exact hp
  · rw [hc.seat]
  · rw [hc.seat]
  · rw [hfs]
    refine seatLeft_settled hew rfl rfl ?_ ?_ ?_ ?_ hq hr hi hn
    · rw [hl]; rfl
    · rw [hl]; rfl
    · rw [hl, ← hph]; rfl
    · rw [hl]; exact ⟨rfl, rfl⟩
  · rw [hc.rear, hl]; rfl
  · rw [hc.rear, hl]; rfl
  · rw [hc.entries, hl]
    exact (Table.get_erase ..).trans (if_pos (List.mem_singleton_self _))
  · rw [hc.check, hl]
    exact hcheck
  · intro hg
    rw [hfs]
    refine settle_dark (.inr rfl) ?_
    rw [hl]
    exact hlamps hg
  · rw [hfs]
    exact settle_idle rfl

/-! ### The own seat defended -/

theorem hearClaim_seated (hs : s.seated = true) (n : Nat) : hearClaim n s = s := by
  have hg : (s.seat.stage == .listen) = false := by
    cases hg : s.seat.stage <;> simp_all [State.seated, Stage.seated]
  simp [hearClaim, hg]

/-- What a seat defence queues. -/
def defended (s : State) : State :=
  runSequence (if s.seat.stage = .joined then .announce else if s.seat.stage = .profiling then .initial else .defence)
    (offer (.seatClaim s.seat.ownSeat s.loader.identity s.loader.profile.cls false) s)

theorem defendSeat_eq (s : State) : defendSeat s = defended s := by
  have hg := (offer_keeps s (.seatClaim s.seat.ownSeat s.loader.identity s.loader.profile.cls false)).2.2.2.2.1
  unfold defendSeat defended
  dsimp only
  rw [hg]
  cases s.seat.stage <;> rfl

theorem defended_unqueued (s : State) : (defended s).unqueued = s.unqueued :=
  (runSequence_unqueued ..).trans (offer_unqueued ..)

theorem acts_of_unqueued (h : t.unqueued = s.unqueued) : t.acts ↔ s.acts := by
  obtain ⟨-, -, -, -, hse, -, -, -, -, -, -, -, -, -, -, -, -, -, hm⟩ := unqueued_fields h
  rw [State.acts, hse, hm, State.acts]

theorem due_of_unqueued (h : t.unqueued = s.unqueued) : t.roster.due = s.roster.due :=
  (unqueued_fields h).2.2.2.2.2.2.2.2.2.2.2.2.2.2.2.1

/-! ### The command -/

/-- The bytes of a SEAT CLAIM. -/
def claimBytes (seat : Byte) (i : Identity) (c : Byte) : List Byte := [2, seat] ++ identityBytes i ++ [c]

/-- The class a class byte tells. -/
def claimClass (c : Byte) : UnitClass := (UnitClass.ofCode? (fieldOf c 2 0)).getD .primeMover

/-- The state in which a claim is taken: the frame heard. -/
def claimHeard (m : Nibble) (seat : Byte) (i : Identity) (c : Byte) (s : State) : State :=
  frameHeard 3 m.toNat (claimBytes seat i c) s

theorem exec_seatClaim {m : Nibble} {seat : Byte} {i : Identity} {c : Byte} (hp : s.power = .running) (hm : m.toNat ≤ 8) :
    exec (.seatClaimReceived m seat i c) s =
      .next (settle
        (if 1 ≤ seat.toNat ∧ seat.toNat ≤ 8 then
          takeClaim seat.toNat i (claimClass c) (bitOf c 7) (hearClaim seat.toNat (claimHeard m seat i c s))
        else claimHeard m seat i c s)) := by
  have hv : frameValid s.phase.period 3 m.toNat (claimBytes seat i c) = true := by
    refine (frameValid_iff ..).mpr ⟨rfl, ?_, nofun⟩
    by_cases h0 : m.toNat = 0
    · exact .inr ⟨h0, rfl, rfl⟩
    · exact .inl ⟨by omega, hm⟩
  exact (ReceivedAs.seatClaim (s := s) (p := m) (n := seat) (i := i) (b := c)).next hp hv

section
variable (m : Nibble) (seat : Byte) (i : Identity) (c : Byte) (s : State)

theorem claimHeard_inFlight : (claimHeard m seat i c s).inFlight = s.inFlight := frameHeard_inFlight ..
theorem claimHeard_ending : (claimHeard m seat i c s).ending = s.ending := frameHeard_ending ..
theorem claimHeard_queue : (claimHeard m seat i c s).line.queue = s.line.queue := frameHeard_queue ..
theorem claimHeard_mute : (claimHeard m seat i c s).line.mute = s.line.mute := frameHeard_mute ..

theorem hearClaim_acts (n : Nat) : (hearClaim n s).acts ↔ s.acts := Iff.rfl

theorem claimHeard_acts : (claimHeard m seat i c s).acts ↔ s.acts := by
  rw [State.acts, claimHeard_mute, State.acts]
  rfl

end

/-- In CONFLICT the queue holds a frame in its last End bit at most, and one cut off ends in six dominant bits. -/
theorem Emptied.cutShort (h : Emptied true v t) (hp : t.power = .running) (hi : v.inFlight = s.inFlight)
    (hn : v.ending = s.ending) :
    (∀ e ∈ t.line.queue, e.completing ∧ s.ending = true) ∧
    (s.inFlight.isSome = true → s.ending = false → t.lineBits = List.replicate 6 false) :=
  ⟨fun e he => hn ▸ (h.entries e he).resolve_right (fun hx => by cases hx.1),
    fun h1 h2 => h.cut hp (hi ▸ h1) (hn ▸ h2)⟩

/-- When a claim of another seat leaves the flag set. -/
theorem dueAfter_other {i : Identity} {b : Bool} (hs : s.seated = true) (hn : n ≠ s.seat.ownSeat) :
    s.dueAfter n i b = true ↔ s.roster.due = true ∨ Table.get s.roster.entries n = none ∨ b = true := by
  simp [State.dueAfter, State.claimNews, hs, hn, Table.holds]

/-- A claim of the own seat that stands in the roster sets it where the station's own identity claims to rejoin. -/
theorem dueAfter_own {i : Identity} {b : Bool} (hs : s.seated = true) (hn : n = s.seat.ownSeat)
    (he : (Table.get s.roster.entries n).isSome = true) :
    s.dueAfter n i b = (s.roster.due || (b && (i == s.loader.identity))) := by
  subst hn
  simp [State.dueAfter, State.claimNews, hs, Table.holds, he, bne]

/-- What a claim of another seat leaves once the judgements are made. -/
theorem takeClaim_otherSettled {i : Identity} {c : UnitClass} {b : Bool} (h : v.seated = false ∨ n ≠ v.seat.ownSeat)
    (hfs : t = settle (takeClaim n i c b v)) :
    ClaimLeft n (claimEntry i c b) v t ∧
    (v.seated = true →
      let due := v.roster.due = true ∨ Table.get v.roster.entries n = none ∨ b = true
      (due → v.acts → t.roster.due = false ∧
        ∃ a, t.roster.announce = some a ∧
          (v.segmentInFlight → v.roster.announce ≠ none → a.restart = true) ∧
          ((∀ e ∈ v.line.queue, e.frame.isProfile = true → e.inFlight = false) ∨ v.roster.announce = none →
            a.index = 0 ∧ a.restart = false)) ∧
      (due → ¬v.acts → t.roster.due = true) ∧ (¬due → t.roster.due = false)) := by
  rw [takeClaim_other h] at hfs
  split at hfs
  · next hc =>
    have hs : v.seated = false := by rw [State.seated, hc.1]; rfl
    exact ⟨(claimLost_left hs hfs).1, fun hx => by rw [hs] at hx; cases hx⟩
  · refine ⟨claimKept_left h hfs, fun hs => ?_⟩
    obtain ⟨h1, h2, h3⟩ := actOnDue_settled hfs
    have hd := dueAfter_other (i := i) (b := b) hs (h.resolve_left (by simp [hs]))
    have hdue : (claimTaken n i c b v).roster.due = v.dueAfter n i b := rfl
    rw [hdue, Bool.eq_false_iff, Ne, hd] at h3
    rw [hdue, hd] at h1 h2
    exact ⟨h1, h2, h3⟩

theorem pos1Heard_iff (m : Nibble) (seat : Byte) (i : Identity) (c : Byte) (s : State) :
    (hearClaim seat.toNat (claimHeard m seat i c s)).seat.pos1Heard = true ↔
      s.seat.pos1Heard = true ∨ (s.seat.stage = .listen ∧ (m.toNat = 1 ∨ seat.toNat = 1)) := by
  have h : (hearClaim seat.toNat (claimHeard m seat i c s)).seat.pos1Heard =
      ((s.seat.pos1Heard || (s.seat.stage == .listen && m.toNat == 1)) || (s.seat.stage == .listen && seat.toNat == 1)) := rfl
  rw [h]
  simp only [Bool.or_eq_true, Bool.and_eq_true, beq_iff_eq, or_assoc, and_or_left]

/-- The claimed seat lost to a claim of another identity, once the judgements are made. -/
theorem claimLost_settled {m : Nibble} {seat : Byte} {i : Identity} {c : Byte} {k : UnitClass} {b : Bool}
    (hp : s.power = .running) (hg : s.seat.stage = .claiming)
    (hfs : t = settle (enterConflict n (withdrawClaim (claimTaken n i k b (hearClaim n (claimHeard m seat i c s)))))) :
    t.seat.stage = .conflict ∧ t.seat.claimed = 0 ∧ t.seat.claim = .none ∧
    ((∀ e ∈ t.line.queue, e.completing ∧ s.ending = true) ∧
      (s.inFlight.isSome = true → s.ending = false → t.lineBits = List.replicate 6 false)) ∧
    t.retention.seat = 0 ∧ RequestsEnded s t ∧ t.phase = s.phase ∧
    (s.faults.list.length < 8 → t.hasFault .seatConflict n = true) := by
  have hs : (hearClaim n (claimHeard m seat i c s)).seated = false := by
    rw [State.seated]
    exact congrArg Stage.seated hg
  obtain ⟨hl, hc⟩ := claimLost_left hs hfs
  have hw := withdrawClaim_eq (claimTaken n i k b (hearClaim n (claimHeard m seat i c s)))
  have hi : (withdrawClaim (claimTaken n i k b (hearClaim n (claimHeard m seat i c s)))).inFlight = s.inFlight :=
    (withdrawClaim_inFlight _).trans (claimHeard_inFlight ..)
  have hn : (withdrawClaim (claimTaken n i k b (hearClaim n (claimHeard m seat i c s)))).ending = s.ending :=
    (withdrawClaim_ending _).trans (claimHeard_ending ..)
  generalize withdrawClaim (claimTaken n i k b (hearClaim n (claimHeard m seat i c s))) = v at *
  refine ⟨by rw [hc.seat], by rw [hc.seat], by rw [hc.seat], hc.emptied.cutShort ?_ hi hn, hc.retained,
    hc.emptied.requestsEnded.of_before (by rw [hw]; rfl) (by rw [hw]; rfl) hi hn, hl.phase, fun h => hc.fault ?_⟩
  · rw [hc.power, hw]
    exact hp
  · rw [hw]
    exact h

theorem enterConflict_idle (n : Nat) (s : State) : ¬(enterConflict n s).acts := fun h => by
  have := h.1
  rw [enterConflict_stage] at this
  cases this

/-! ### A claim of the own seat -/

section
variable {i : Identity} {k : UnitClass}

/-- Another identity takes the own seat without the rejoin flag. -/
theorem takeClaim_yields (hs : s.seated = true) (hn : n = s.seat.ownSeat) (hi : i ≠ s.loader.identity) :
    takeClaim n i k false s = enterConflict n (withDue (s.dueAfter n i false) s) := by
  rw [takeClaim_own hs hn, claimOwn, if_neg (show ¬i = (withDue (s.dueAfter n i false) s).loader.identity from hi),
    if_neg Bool.false_ne_true, actOnDue_id (.inr (enterConflict_idle _ _)), hn]
  rfl

/-- Another identity with the flag has the own seat defended against it. -/
theorem takeClaim_defends (hs : s.seated = true) (hn : n = s.seat.ownSeat) (hi : i ≠ s.loader.identity)
    (he : (Table.get s.roster.entries n).isSome = true) : takeClaim n i k true s = actOnDue (defended s) := by
  have hd : withDue (s.dueAfter n i true) s = s := by
    rw [dueAfter_own hs hn he, beq_eq_false_iff_ne.mpr hi, Bool.and_false, Bool.or_false]
    rfl
  rw [takeClaim_own hs hn, hd, claimOwn, if_neg hi, if_pos rfl, defendSeat_eq]

/-- The station's own identity has the flag set where it claims to rejoin. -/
theorem takeClaim_same {b : Bool} (hs : s.seated = true) (hn : n = s.seat.ownSeat) (hi : i = s.loader.identity)
    (he : (Table.get s.roster.entries n).isSome = true) :
    takeClaim n i k b s = actOnDue (withDue (s.roster.due || b) s) := by
  have hd : s.dueAfter n i b = (s.roster.due || b) := by
    rw [dueAfter_own hs hn he]
    simp [hi]
  rw [takeClaim_own hs hn, hd, claimOwn]
  exact congrArg actOnDue (if_pos hi)

end

end Sys2Proof.Machine

open Sys2Proof Sys2Proof.Machine

/-- Settles O19. -/
theorem seatClaimsTaken : Obligations.SeatClaimsTaken := by
  refine ⟨fun s m seat i c hp hm => ?_, fun u p => ⟨fun h => runSequence_mute h p, fun h => ⟨fun ha => ?_, fun a ha =>
    ⟨fun hf => runSequence_waits h ha hf p, fun hf => ?_⟩⟩⟩⟩
  · have he := exec_seatClaim (s := s) (m := m) (seat := seat) (i := i) (c := c) hp hm
    refine ⟨fun h => ?_, fun h1 h8 ho => ?_, fun h1 h8 hi hg hc => ?_, fun h1 h8 hi hs ho hb => ?_, fun hs hseat ho hen => ?_⟩
    · rw [if_neg (by omega)] at he
      exact he
    · rw [if_pos ⟨h1, h8⟩] at he
      obtain ⟨t, hfs⟩ : ∃ t, t = settle (takeClaim seat.toNat i (claimClass c) (bitOf c 7)
        (hearClaim seat.toNat (claimHeard m seat i c s))) := ⟨_, rfl⟩
      rw [← hfs] at he
      obtain ⟨hl, hdue⟩ := takeClaim_otherSettled (v := hearClaim seat.toNat (claimHeard m seat i c s)) ho hfs
      refine ⟨t, he, hl.entry, hl.reasm, ?_, hl.others, hl.phase, hl.table, hl.rear, fun hs => ?_⟩
      · rw [hl.pos1Heard]
        exact pos1Heard_iff m seat i c s
      · have hd := hdue hs
        have hq : (hearClaim seat.toNat (claimHeard m seat i c s)).line.queue = s.line.queue := claimHeard_queue ..
        rw [State.segmentInFlight, hq, hearClaim_acts, claimHeard_acts] at hd
        exact hd
    · rw [if_pos ⟨h1, h8⟩, takeClaim_other (.inl (by rw [State.seated]; exact congrArg Stage.seated hg)),
        if_pos ⟨hg, hc, hi⟩] at he
      obtain ⟨t, hfs⟩ : ∃ t, t = settle (enterConflict seat.toNat (withdrawClaim (claimTaken seat.toNat i (claimClass c) (bitOf c 7)
        (hearClaim seat.toNat (claimHeard m seat i c s))))) := ⟨_, rfl⟩
      rw [← hfs] at he
      exact ⟨t, he, claimLost_settled hp hg hfs⟩
    · rw [if_pos ⟨h1, h8⟩, hb, hearClaim_seated (s := claimHeard m seat i c s) hs,
        takeClaim_yields (s := claimHeard m seat i c s) hs ho hi] at he
      obtain ⟨t, hfs⟩ : ∃ t, t = settle (enterConflict seat.toNat (withDue
        ((claimHeard m seat i c s).dueAfter seat.toNat i false) (claimHeard m seat i c s))) := ⟨_, rfl⟩
      rw [← hfs] at he
      have hin := claimHeard_inFlight m seat i c s
      have hen := claimHeard_ending m seat i c s
      obtain ⟨k1, k2, k3, k4, k5, k6, k7, k8, k9, k10, k11, k12, k13⟩ :=
        yielded_settled (s := s) (v := withDue _ (claimHeard m seat i c s)) hs hp hfs rfl rfl hin hen rfl
      refine ⟨t, he, k2, k3, ?_, k4.cutShort k1 hin hen, k5, k6, k7, ?_, k9, k10, k11, k12, fun h => k13 (Nat.lt_succ_of_lt h)⟩
      · rw [State.seatOut, State.seated, k2]
        simp [Stage.seated]
      · rw [ho]
        exact k8
    · obtain ⟨h1, h8⟩ := hseat
      rw [if_pos ⟨h1, h8⟩, hearClaim_seated (s := claimHeard m seat i c s) hs] at he
      have hacts : (claimHeard m seat i c s).acts ↔ s.acts := claimHeard_acts ..
      refine ⟨fun hi hb => ?_, fun hi => ⟨fun hb h => ?_, fun h ha => ?_, fun hb ha => ?_⟩⟩
      · rw [hb, takeClaim_defends (s := claimHeard m seat i c s) hs ho hi hen] at he
        have hu := defended_unqueued (claimHeard m seat i c s)
        have hdue : (defended (claimHeard m seat i c s)).roster.due = s.roster.due :=
          (due_of_unqueued hu).trans (show (claimHeard m seat i c s).roster.due = s.roster.due from rfl)
        have hda := (acts_of_unqueued hu).trans hacts
        refine ⟨fun h => ?_, fun hd ha => ?_⟩
        · rw [actOnDue_id (h.imp hdue.trans fun ha hx => ha (hda.mp hx))] at he
          exact he
        · rw [actOnDue_acts (hdue.trans hd) (hda.mpr ha)] at he
          exact he
      all_goals rw [takeClaim_same (s := claimHeard m seat i c s) hs ho hi hen] at he
      · rw [hb, Bool.or_false, withDue_self,
          actOnDue_id (s := claimHeard m seat i c s) (h.imp id fun ha hx => ha (hacts.mp hx))] at he
        exact he
      · have hd : (s.roster.due || bitOf c 7) = true := by
          rw [Bool.or_eq_true]
          exact h.symm
        rw [actOnDue_acts (s := withDue ((claimHeard m seat i c s).roster.due || bitOf c 7) (claimHeard m seat i c s)) hd
          (hacts.mpr ha)] at he
        exact he
      · rw [hb, Bool.or_true, actOnDue_id (s := withDue true (claimHeard m seat i c s))
          (.inr fun hx => ha (hacts.mp hx))] at he
        exact he
  · rw [runSequence_begins h ha, beginSequence_eq]
    rfl
  · rw [runSequence_restarts h ha hf, beginSequence_eq]
    rfl

end
